-- ==== Sys2Proof/Word.lean ====
section
/-! DEFINITION. Word.lean: the byte of the scene link and of the chain wires, and the names of the two chains. -/

namespace Sys2Proof

/-- A byte of the scene link, of a chain transfer, of a self-description block (00, Conventions). -/
abbrev Byte := BitVec 8

/-- The two chains (00, Terms: chain). -/
inductive Chain where
  | a
  | b
deriving DecidableEq, Repr

/-- The slots 0 to 11 (01, 1.1). -/
abbrev Slot := Fin 12

end Sys2Proof
end

