-- ==== Sys2Proof/Config.lean ====
section
/-! DEFINITION. Config.lean: the numbers the manual fixes for every GN-3204, and the free values. -/

namespace Sys2Proof.Config

/-- Number of cue records in the pool (R29). -/
def poolSize : Nat := 2048

/-- Most records of one LOAD CUES or READ CUES (R38, R41). -/
def maxRecords : Nat := 18

/-- Bytes of one cue record on the link (11.8). -/
def cueBytes : Nat := 13

/-- Longest ring (2.3). -/
def maxRing : Nat := 256

/-- Scene records of the working library (R45). -/
def maxScenes : Nat := 32

/-- Cue records a stored library may hold (R193). -/
def maxStoredCues : Nat := 1024

/-- Entries of a layer's loop stack (R63). -/
def maxLoops : Nat := 4

/-- Zero-duration steps of one handling (R68). -/
def maxSteps : Nat := 16

/-- Notices the queue holds (R184). -/
def maxNotices : Nat := 16

/-- Complete frames the receive buffer holds (R180). -/
def maxFrames : Nat := 2

/-- Replies unsent at which dispatch waits (R180). -/
def maxUnsent : Nat := 2

/-- Highest LENGTH of a link frame (R176). -/
def maxPayload : Nat := 240

/-- Where every saturating counter stays (R189, R147, R148). -/
def counterTop : Nat := 65535

/-- One, for the factors U, A and M (00, Scaled factors). -/
def one : Nat := 1024

/-- Highest chain budget in mA (R136). -/
def maxBudget : Nat := 6000

/-- Ticks of the EGRESS debounce (R24). -/
def debounceTicks : Nat := 10

/-- Ticks of a gate window (R149). -/
def windowTicks : Nat := 100

/-- Ticks of the settle of an identify pass (R140). -/
def settleTicks : Nat := 2

/-- Ticks without a CKx transition that clear foreign active (R144). -/
def quietTicks : Nat := 10

/-- Nodes of one chain that are read at identify (R141). -/
def maxNodes : Nat := 128

/-- Longest hush in seconds (R19). -/
def maxHush : Nat := 600

/-- FREE VALUE (log 6). The order in which several notices of ONE event join the queue, where no rule of the
manual orders them: the `k`-th such choice takes the next notice at these places, one after the other. -/
opaque openOrder : Nat → List Nat

/-- FREE VALUE (log 17). What DIx returns at the `k`-th byte of a collect transfer, for a byte that the command's
operand does not list. -/
opaque lineByte : Nat → Byte

end Sys2Proof.Config
end

