-- ==== Sys2Proof/Syntax.lean ====
section
/-! DEFINITION. Syntax.lean: the seventy-seven commands of spec/opcode_table.json, one constructor per row, in the
table's order, each with its row's operands. A request's operands are the TAG and the payload of its frame: the payload
bytes hold the request's fields at the offsets of 11.5, so that every length and every value a host can send is a term
(R210, R211). -/

namespace Sys2Proof

/-- One command: one whole, indivisible step of the part (95). -/
inductive Instr where
  /-- POWER_ON (R196): The supply reaches its operating range; `plantHigh` is the level of the PLANT strap then. -/
  | powerOn (plantHigh : Bool)
  /-- STARTUP_COMPLETE (R196). -/
  | startupComplete
  /-- SUPPLY_REMOVAL (R203). -/
  | supplyRemoval
  /-- TICK (R50): `order` names the order in which the slots are handled (log 5): slots it does not name follow in ascending order. -/
  | tick (order : List Nat)
  /-- HUSH_EXPIRY (R20). -/
  | hushExpiry
  /-- EGRESS_LINE_CHANGE (R24): the raw EGRESS line takes the level `asserted`. -/
  | egressLineChange (asserted : Bool)
  /-- DEBOUNCED_ASSERTION (R25). -/
  | debouncedAssertion
  /-- DEBOUNCED_DEASSERTION (R24). -/
  | debouncedDeassertion
  /-- LUX_EDGE (R148). -/
  | luxEdge
  /-- GATE_WINDOW_END (R149). -/
  | gateWindowEnd
  /-- PERIOD_START (R81). -/
  | periodStart (chain : Chain)
  /-- RENDER_COMPLETE (R80). -/
  | renderComplete (chain : Chain)
  /-- LATCH_POINT (R132). -/
  | latchPoint (chain : Chain)
  /-- SHIFT_END (R133): `trailer` is what DIx returned in the last 16 + 8n clocks of the shift, as bytes. -/
  | shiftEnd (chain : Chain) (trailer : List Byte)
  /-- IDENTIFY_REQUEST_END (R140). -/
  | identifyRequestEnd (chain : Chain)
  /-- SETTLE_END (R140). -/
  | settleEnd (chain : Chain)
  /-- COLLECT_END (R141): `returned` is what DIx returned after the collect marker, byte by byte, with the byte that ended the pass. -/
  | collectEnd (chain : Chain) (returned : List Byte)
  /-- COLLECT_MARKER_TIMEOUT (R141). -/
  | collectMarkerTimeout (chain : Chain)
  /-- FOREIGN_ACTIVITY (R144). -/
  | foreignActivity (chain : Chain)
  /-- FOREIGN_QUIET (R144). -/
  | foreignQuiet (chain : Chain)
  /-- FRAME_RECEIVED (R177): the characters taken from SLI, in order; those that complete a frame deliver it. -/
  | frameReceived (characters : List Byte)
  /-- FRAMING_ERROR (R178). -/
  | framingError
  /-- INTER_BYTE_TIMEOUT (R178). -/
  | interByteTimeout
  /-- LINK_BREAK (R179). -/
  | linkBreak
  /-- WAIT_IDLE_END (R175). -/
  | waitIdleEnd
  /-- TRANSMIT_COMPLETE (R183). -/
  | transmitComplete
  /-- UNKNOWN_KIND (R181): dispatch of a frame with this KIND, TAG and payload. -/
  | unknownKind (kind tag : Byte) (payload : List Byte)
  /-- REPORT_KIND_DISCARD (R181): dispatch of a frame with this KIND, TAG and payload. -/
  | reportKindDiscard (kind tag : Byte) (payload : List Byte)
  /-- PING (R190). Payload: 0 to 16 bytes of the host. -/
  | ping (tag : Byte) (payload : List Byte)
  /-- GET_STATUS (R191). Payload: none. -/
  | getStatus (tag : Byte) (payload : List Byte)
  /-- GET_COUNTERS (R189). Payload: 0: clear. -/
  | getCounters (tag : Byte) (payload : List Byte)
  /-- SET_EVENT_MASK (R187). Payload: 0–1: mask. -/
  | setEventMask (tag : Byte) (payload : List Byte)
  /-- CLEAR_EVENTS (R188). Payload: 0–1: flags to clear. -/
  | clearEvents (tag : Byte) (payload : List Byte)
  /-- START_LAYER (R10). Payload: 0: slot; 1: level; 2: exclusive; 3–4: ring base; 5–6: ring length; 7: ring mode; 8: start offset. -/
  | startLayer (tag : Byte) (payload : List Byte)
  /-- START_SCENE (R12). Payload: 0: slot; 1: scene id; 2: level. -/
  | startScene (tag : Byte) (payload : List Byte)
  /-- STOP_LAYER_IMMEDIATE (R13). Payload: 0: slot; 1: mode (not AT_END). -/
  | stopLayerImmediate (tag : Byte) (payload : List Byte)
  /-- STOP_LAYER_AT_END (R14). Payload: 0: slot; 1: mode (not IMMEDIATE). -/
  | stopLayerAtEnd (tag : Byte) (payload : List Byte)
  /-- SET_LEVEL (R15). Payload: 0: slot; 1: level. -/
  | setLevel (tag : Byte) (payload : List Byte)
  /-- GET_LAYER (R16). Payload: 0: slot. -/
  | getLayer (tag : Byte) (payload : List Byte)
  /-- SET_MASTER (R18). Payload: 0: master; 1–2: U. -/
  | setMaster (tag : Byte) (payload : List Byte)
  /-- HUSH (R19). Payload: 0–1: seconds. -/
  | hush (tag : Byte) (payload : List Byte)
  /-- SET_POLICY (R9). Payload: 0: policy. -/
  | setPolicy (tag : Byte) (payload : List Byte)
  /-- RAISE_ALERT (R21). Payload: 0: scene id; 1: exclusive. -/
  | raiseAlert (tag : Byte) (payload : List Byte)
  /-- CLEAR_ALERT_AT_END (R22). Payload: 0: slot; 1: mode (not IMMEDIATE). -/
  | clearAlertAtEnd (tag : Byte) (payload : List Byte)
  /-- CLEAR_ALERT_IMMEDIATE (R22). Payload: 0: slot; 1: mode (not AT_END). -/
  | clearAlertImmediate (tag : Byte) (payload : List Byte)
  /-- LOAD_CUES (R38). Payload: 0–1: pool index; 2 onward: cue records of 13 bytes. -/
  | loadCues (tag : Byte) (payload : List Byte)
  /-- READ_CUES (R41). Payload: 0–1: pool index; 2: count. -/
  | readCues (tag : Byte) (payload : List Byte)
  /-- PUT_SCENE (R46). Payload: 0: scene id; 1–2: pool base; 3–4: length (not 0); 5: default level; 6: exclusive. -/
  | putScene (tag : Byte) (payload : List Byte)
  /-- PUT_SCENE_REMOVE (R47). Payload: as PUT_SCENE, with length 0. -/
  | putSceneRemove (tag : Byte) (payload : List Byte)
  /-- GET_SCENE (R48). Payload: 0: scene id. -/
  | getScene (tag : Byte) (payload : List Byte)
  /-- ENUMERATE (R139). Payload: 0: chain. -/
  | enumerate (tag : Byte) (payload : List Byte)
  /-- GET_NODE (R120). Payload: 0: chain; 1: position. -/
  | getNode (tag : Byte) (payload : List Byte)
  /-- PUT_CATALOG (R121). Payload: 0: entry; 1: valid; 2–3: supplier; 4–5: part; 6: bin; 7–12: gains R, G, B; 13–18: currents R, G, B; 19: override-self. -/
  | putCatalog (tag : Byte) (payload : List Byte)
  /-- GET_CATALOG (R122). Payload: 0: entry. -/
  | getCatalog (tag : Byte) (payload : List Byte)
  /-- PUT_ZONE_SPAN (R123). Payload: 0: span; 1: valid; 2: chain; 3: first position; 4: last position; 5: zone code. -/
  | putZoneSpan (tag : Byte) (payload : List Byte)
  /-- LOCK_CATALOG (R124). Payload: none. -/
  | lockCatalog (tag : Byte) (payload : List Byte)
  /-- SET_CHAIN_TIMING (R135). Payload: 0: chain; 1: pre; 2: sel; 3: refresh period. -/
  | setChainTiming (tag : Byte) (payload : List Byte)
  /-- SET_CHAIN_BUDGET (R136). Payload: 0: chain; 1–2: budget. -/
  | setChainBudget (tag : Byte) (payload : List Byte)
  /-- SET_CHAIN_STATE_OFF (R137). Payload: 0: chain; 1: state (not ON). -/
  | setChainStateOff (tag : Byte) (payload : List Byte)
  /-- SET_CHAIN_STATE_ON (R138). Payload: 0: chain; 1: state (not OFF). -/
  | setChainStateOn (tag : Byte) (payload : List Byte)
  /-- RECLAIM_CHAIN (R145). Payload: 0: chain. -/
  | reclaimChain (tag : Byte) (payload : List Byte)
  /-- SET_CURVE (R156). Payload: 4i, 4i + 1: count_i; 4i + 2, 4i + 3: factor_i, for i of 0 to 4. -/
  | setCurve (tag : Byte) (payload : List Byte)
  /-- SET_AMBIENT_OVERRIDE_ON (R157). Payload: 0: mode (not OFF); 1–2: value. -/
  | setAmbientOverrideOn (tag : Byte) (payload : List Byte)
  /-- SET_AMBIENT_OVERRIDE_OFF (R157). Payload: 0: mode (not ON); 1–2: value. -/
  | setAmbientOverrideOff (tag : Byte) (payload : List Byte)
  /-- GET_AMBIENT (R158). Payload: none. -/
  | getAmbient (tag : Byte) (payload : List Byte)
  /-- VEHICLE_EVENT (R162). Payload: 0–1: event code. -/
  | vehicleEvent (tag : Byte) (payload : List Byte)
  /-- PUT_TRIGGER (R170). Payload: 0: entry; 1: valid; 2: end-of-table; 3–4: event code; 5–6: code mask; 7: action; 8: slot; 9: scene id; 10: level; 11: exclusive; 12: replace; 13: report. -/
  | putTrigger (tag : Byte) (payload : List Byte)
  /-- GET_TRIGGER (R172). Payload: 0: entry. -/
  | getTrigger (tag : Byte) (payload : List Byte)
  /-- STORE_SETTINGS (R200). Payload: 0: egress scene id; 1: lock-after-start-up. -/
  | storeSettings (tag : Byte) (payload : List Byte)
  /-- STORE_LIBRARY (R201). Payload: none. -/
  | storeLibrary (tag : Byte) (payload : List Byte)
  /-- STORE_WRITE_END (R202): `matched`: the read-back CRC-16 matches. -/
  | storeWriteEnd (matched : Bool)
  /-- RESTART (R204). Payload: none. -/
  | restart (tag : Byte) (payload : List Byte)
  /-- RESTART_TAKEN (R204). -/
  | restartTaken
  /-- SLEEP (R205). Payload: none. -/
  | sleep (tag : Byte) (payload : List Byte)
  /-- DORMANT_ENTRY (R206). -/
  | dormantEntry
  /-- WAKE_BY_LINK (R208). -/
  | wakeByLink
  /-- WAKE_BY_EGRESS (R208). -/
  | wakeByEgress
deriving DecidableEq, Repr

end Sys2Proof
end

