-- ==== Sys2Proof/Decode.lean ====
section
/-! DEFINITION. Decode.lean: the command that a word of the opcode table's bits spells. No row of the table gives bits:
commands reach the part as pins, line events and link frames, whose layouts are read in Machine/Wire.lean and
Machine/Operands.lean. -/

namespace Sys2Proof

/-- No word spells a command: the table gives no row any bits. -/
def decodeTableWord (_nbits _w : Nat) : Option Instr := none

end Sys2Proof
end

