-- ==== Sys2Proof/Machine/Wire.lean ====
section
/-! DEFINITION. Machine/Wire.lean: the byte order, the CRC-16, the link frame, the kinds with their lengths, and the
codes of chapter 11. Nothing here reads the state. -/

namespace Sys2Proof.Machine

/-! ### Bytes and byte order (00, Byte order) -/

/-- Byte `i` of a payload, as a number. -/
def byteAt (p : List Byte) (i : Nat) : Nat := (p.getD i 0).toNat

/-- The two-byte field at offset `i`, most significant byte first. -/
def wordAt (p : List Byte) (i : Nat) : Nat := byteAt p i * 256 + byteAt p (i + 1)

/-- One byte that carries the number `n`. -/
def be8 (n : Nat) : List Byte := [BitVec.ofNat 8 n]

/-- Two bytes that carry `n`, most significant first. -/
def be16 (n : Nat) : List Byte := be8 (n / 256) ++ be8 n

/-- Four bytes that carry `n`, most significant first. -/
def be32 (n : Nat) : List Byte := be16 (n / 65536) ++ be16 n

/-- The yes/no code (11.2). -/
def ofBool (b : Bool) : Nat := if b then 1 else 0

/-- A yes/no field, a master, a chain state or an override mode: 0 or 1, any other value has no code (11.2). -/
def boolCode? (n : Nat) : Option Bool :=
  if n = 0 then some false else if n = 1 then some true else none

/-- The chain field (11.2). -/
def chainCode? (n : Nat) : Option Chain :=
  if n = 0 then some .a else if n = 1 then some .b else none

/-- The code of a chain (11.2). -/
def chainCode : Chain → Nat
  | .a => 0
  | .b => 1

/-! ### The CRC-16 (R174) -/

/-- One shift of the register. -/
def crcShift (r : BitVec 16) : BitVec 16 := if r.msb then (r <<< 1) ^^^ 0x1021#16 else r <<< 1

/-- One byte is added into the high eight bits, then eight shifts follow. -/
def crcByte (r : BitVec 16) (b : Byte) : BitVec 16 :=
  let r := r ^^^ (b.setWidth 16 <<< 8)
  crcShift (crcShift (crcShift (crcShift (crcShift (crcShift (crcShift (crcShift r)))))))

/-- The part's CRC-16 over the bytes in the order they are sent (R174). -/
def crc16 (bytes : List Byte) : BitVec 16 := bytes.foldl crcByte 0xFFFF#16

/-! ### The link frame (11.1) -/

/-- The SYNC byte. -/
def syncByte : Byte := 0xA5#8

/-- A frame of the link without its SYNC, LENGTH and CRC, which follow from it. -/
structure LinkFrame where
  kind : Byte
  tag : Byte
  payload : List Byte
deriving DecidableEq, Repr

/-- The bytes the CRC covers: LENGTH, KIND, TAG and the payload (R174). -/
def LinkFrame.covered (f : LinkFrame) : List Byte :=
  be8 f.payload.length ++ [f.kind, f.tag] ++ f.payload

/-- The frame as it stands on the line (11.1). -/
def LinkFrame.bytes (f : LinkFrame) : List Byte :=
  syncByte :: f.covered ++ be16 (crc16 f.covered).toNat

/-! ### Characters on the line (R173) -/

/-- A character as SLI and SLO carry it, true for high: the start bit low, the eight data bits with the least significant
first, the stop bit high (R173). -/
def characterBits (b : Byte) : List Bool := false :: (List.finRange 8).map (fun i => b.getLsbD i.val) ++ [true]

/-- What the receiver makes of a character's ten samples: the byte of its data bits, or nothing, a framing error, when the
stop bit samples low (R173). -/
def characterByte (samples : List Bool) : Option Byte :=
  if samples.getD 9 false then
    some (BitVec.ofNat 8 (((samples.drop 1).take 8).foldr (fun bit n => 2 * n + ofBool bit) 0))
  else none

/-- The frame as it stands on SLO: its characters back to back (R173). -/
def LinkFrame.lineBits (f : LinkFrame) : List Bool := f.bytes.flatMap characterBits

/-! ### Kinds (11.3) -/

/-- The request kinds of 11.3 with the least and the greatest payload length each allows at the link (R211). -/
def requestLengths : List (Nat × Nat × Nat) :=
  [(0x01, 0, 16), (0x02, 0, 0), (0x03, 1, 1), (0x04, 2, 2), (0x05, 2, 2),
   (0x10, 9, 9), (0x11, 3, 3), (0x12, 2, 2), (0x13, 2, 2), (0x14, 1, 1), (0x15, 3, 3), (0x16, 2, 2), (0x17, 1, 1),
   (0x18, 2, 2), (0x19, 2, 2),
   (0x20, 2, 240), (0x21, 3, 3), (0x22, 7, 7), (0x23, 1, 1),
   (0x30, 1, 1), (0x31, 2, 2), (0x32, 20, 20), (0x33, 1, 1), (0x34, 6, 6), (0x35, 0, 0),
   (0x40, 4, 4), (0x41, 3, 3), (0x42, 2, 2), (0x43, 1, 1),
   (0x50, 20, 20), (0x51, 3, 3), (0x52, 0, 0),
   (0x58, 2, 2), (0x59, 14, 14), (0x5A, 1, 1),
   (0x60, 2, 2), (0x61, 0, 0), (0x62, 0, 0), (0x63, 0, 0)]

/-- The kind names a request (R181, check 2). -/
def namesRequest (kind : Byte) : Bool := requestLengths.any (·.1 = kind.toNat)

/-- The payload length is one the kind allows (R181, check 3; R211). -/
def lengthAllowed (kind : Byte) (length : Nat) : Bool :=
  requestLengths.any fun (k, lo, hi) => k = kind.toNat && lo ≤ length && length ≤ hi

/-- KIND 0x70 or above: a report or reply kind (R181, check 1). -/
def isReportKind (kind : Byte) : Bool := 0x70 ≤ kind.toNat

/-- The KIND of the reply to a request (11.1). -/
def replyKind (kind : Byte) : Byte := kind + 0x80#8

/-! ### Status codes (11.4) -/

/-- The outcome of a request (R181, 11.4). -/
inductive Status where
  | ok
  | accepted
  | unknown
  | length
  | invalid
  | busy
  | locked
  | overlap
  | belowFloor
  | notFound
  | lineActive
  | alertActive
  | chainReleased
  | already
deriving DecidableEq, Repr

/-- The value of a status (11.4). -/
def Status.code : Status → Nat
  | .ok => 0x00
  | .accepted => 0x01
  | .unknown => 0x02
  | .length => 0x03
  | .invalid => 0x04
  | .busy => 0x05
  | .locked => 0x06
  | .overlap => 0x07
  | .belowFloor => 0x08
  | .notFound => 0x09
  | .lineActive => 0x0A
  | .alertActive => 0x0B
  | .chainReleased => 0x0C
  | .already => 0x0D

/-- A reply carries data only with these statuses (R181). -/
def Status.carriesData : Status → Bool
  | .ok => true
  | .accepted => true
  | _ => false

/-! ### Chain words (11.10) -/

/-- The latch word, and the latch marker it returns as. -/
def latchMarker : List Byte := [0x3C#8, 0xA5#8]

/-- The byte that opens an answer of a collect transfer. -/
def answerMark : Byte := 0x96#8

/-- The start word. -/
def startWord : BitVec 16 := 0xC3A5#16

/-- The latch word. -/
def latchWord : BitVec 16 := 0x3CA5#16

/-- The identify word. -/
def identifyWord : BitVec 16 := 0xC35A#16

/-- The collect word. -/
def collectWord : BitVec 16 := 0x3C5A#16

/-- The exclusive-or of the low `n` nibbles of a number. -/
def xorNibbles : Nat → Nat → Nat
  | 0, _ => 0
  | n + 1, x => (x % 16) ^^^ xorNibbles n (x / 16)

/-- The node word of three duties: header 0x5A, the duties in 12 bits each, and the exclusive-or of the other
eleven nibbles as check (R213, 11.10). -/
def nodeWord (r g b : Nat) : BitVec 48 :=
  let upper := 0x5A * 2 ^ 36 + (r % 4096) * 2 ^ 24 + (g % 4096) * 2 ^ 12 + b % 4096
  BitVec.ofNat 48 (upper * 16 + xorNibbles 11 upper)

/-- The bits of a word as DOx clocks them out, most significant first (R125). -/
def wordBits {n : Nat} (w : BitVec n) : List Bool := (List.finRange n).map fun i => w.getMsbD i.val

/-- A status byte has good parity when it holds an even number of 1 bits (11.10, R213). -/
def parityGood (s : Byte) : Bool := ((List.range 8).countP fun i => s.getLsbD i) % 2 = 0

end Sys2Proof.Machine
end

