-- ==== Sys2Proof/Machine/State.lean ====
section
/-! DEFINITION. Machine/State.lean: every piece of state the spec gives the part, block by block, as plain data; the
faults and refusals; and the state after reset. -/

namespace Sys2Proof.Machine

/-! ### Cue records (02, 2.2) -/

/-- A colour, a triple of duties, gains or currents: one number per channel R, G, B. -/
structure Rgb where
  r : Nat
  g : Nat
  b : Nat
deriving DecidableEq, Repr

/-- The same number in every channel. -/
def Rgb.all (n : Nat) : Rgb := ⟨n, n, n⟩

/-- A zone value and a zone mask (R32). -/
structure Selector where
  value : BitVec 8
  mask : BitVec 8
deriving DecidableEq, Repr

/-- What a cue does (R30). -/
inductive CueKind where
  | set
  | fade
  | hold
  | sweep
  | loop
  | end_
deriving DecidableEq, Repr

/-- What the engine last did with a cue of a STREAM ring (R30). -/
inductive CueStatus where
  | none
  | done
  | cut
deriving DecidableEq, Repr

/-- A cue record: the fourteen fields of R30. -/
structure Cue where
  kind : CueKind
  ready : Bool
  wrap : Bool
  notify : Bool
  trail : Bool
  reverse : Bool
  selector : Selector
  colour : Rgb
  opacity : Nat
  duration : Nat
  width : Nat
  loopTarget : Nat
  status : CueStatus
deriving DecidableEq, Repr

/-- The empty record (R29). -/
def Cue.empty : Cue :=
  { kind := .end_, ready := false, wrap := false, notify := false, trail := false, reverse := false,
    selector := ⟨0, 0⟩, colour := Rgb.all 0, opacity := 0, duration := 0, width := 0, loopTarget := 0,
    status := .none }

/-- The cue pool: (index, record) pairs, indices strictly rising, no record equal to the empty one. An unlisted index
reads as the empty record (R29). -/
abbrev Pool := List (Nat × Cue)

/-- A scene record of the working library (R45). -/
structure Scene where
  id : Nat
  base : Nat
  length : Nat
  level : Nat
  exclusive : Bool
deriving DecidableEq, Repr

/-! ### Layers (01, 1.2 and 03, R49) -/

/-- The state of a layer (R3). -/
inductive LayerState where
  | idle
  | running
  | starved
  | suspended
  | parked
deriving DecidableEq, Repr

/-- How a layer last ended (R4). -/
inductive EndReason where
  | none
  | completed
  | stopped
  | cut
  | runaway
deriving DecidableEq, Repr

/-- The two ring modes (02). -/
inductive RingMode where
  | stream
  | resident
deriving DecidableEq, Repr

/-- The values captured at a cue's begin (R43): the fields its kind uses, and a FADE's start values. A field the kind
does not use is held at 0 (log 13). -/
structure Captured where
  kind : CueKind
  wrap : Bool
  notify : Bool
  trail : Bool
  reverse : Bool
  startColour : Rgb
  startOpacity : Nat
  colour : Rgb
  opacity : Nat
  duration : Nat
  width : Nat
  selector : Selector
deriving DecidableEq, Repr

/-- Captured values all 0 (R2, R11). -/
def Captured.zero : Captured :=
  { kind := .set, wrap := false, notify := false, trail := false, reverse := false, startColour := Rgb.all 0,
    startOpacity := 0, colour := Rgb.all 0, opacity := 0, duration := 0, width := 0, selector := ⟨0, 0⟩ }

/-- An entry of a loop stack: the LOOP's index, and the remaining count, `none` for forever (R63). -/
structure LoopEntry where
  index : Nat
  remaining : Option Nat
deriving DecidableEq, Repr

/-- One layer record, cursor included. The top of the loop stack is the head of the list. -/
structure Layer where
  state : LayerState
  level : Nat
  exclusive : Bool
  sceneId : Nat
  ringBase : Nat
  ringLength : Nat
  ringMode : RingMode
  fallback : Bool
  startOffset : Nat
  cueIndex : Nat
  cueBegun : Bool
  elapsed : Nat
  captured : Captured
  sweepActive : Bool
  colour : Rgb
  opacity : Nat
  selector : Selector
  loopStack : List LoopEntry
  loopOverflow : Bool
  stepCount : Nat
  finishing : Bool
  endReason : EndReason
  latch : Bool
deriving DecidableEq, Repr

/-- The layer record of R2, at a slot's level. -/
def Layer.reset (level : Nat) : Layer :=
  { state := .idle, level := level, exclusive := false, sceneId := 0, ringBase := 0, ringLength := 0,
    ringMode := .resident, fallback := false, startOffset := 0, cueIndex := 0, cueBegun := false, elapsed := 0,
    captured := Captured.zero, sweepActive := false, colour := Rgb.all 0, opacity := 0, selector := ⟨0, 0⟩,
    loopStack := [], loopOverflow := false, stepCount := 0, finishing := false, endReason := .none, latch := false }

/-- What happens to scene layers below the floor (R7, R8). -/
inductive Policy where
  | resume
  | cancel
deriving DecidableEq, Repr

/-- The Layer Arbiter. Hush is active while its countdown is above 0 (R19, R20). `egressLine` is the raw line,
`egressLevel` the debounced level, `egressTimer` the ticks left of the debounce in progress (R24). -/
structure Arbiter where
  layers : Vector Layer 12
  floor : Nat
  master : Bool
  u : Nat
  hush : Nat
  policy : Policy
  egressLine : Bool
  egressLevel : Bool
  egressTimer : Nat
deriving DecidableEq, Repr

/-- The levels of R1 after power-on and RESTART. -/
def resetLevel (i : Slot) : Nat := if i.val = 11 then 15 else if i.val = 10 then 12 else 4

/-- The Arbiter at power-on and RESTART, before the load (R2), with the line at `line`. -/
def Arbiter.reset (line : Bool) : Arbiter :=
  { layers := Vector.ofFn fun i => Layer.reset (resetLevel i), floor := 0, master := true, u := Config.one, hush := 0,
    policy := .resume, egressLine := line, egressLevel := false, egressTimer := Config.debounceTicks }

/-! ### Compositor (04) -/

/-- What a layer hands to a render (R49): its plain colour and opacity, or its sweep. -/
inductive Presentation where
  | plain (colour : Rgb) (opacity : Nat)
  | sweep (colour : Rgb) (opacity width : Nat) (trail reverse : Bool) (duration elapsed : Nat)
deriving DecidableEq, Repr

/-- A visible layer in a snapshot (R76). -/
structure SnapLayer where
  slot : Slot
  level : Nat
  selector : Selector
  presentation : Presentation
deriving DecidableEq, Repr

/-- The four conditions of a status byte (R127). -/
structure NodeStatus where
  overtemp : Bool
  openR : Bool
  openG : Bool
  openB : Bool
deriving DecidableEq, Repr

/-- Status all no (R114). -/
def NodeStatus.clear : NodeStatus := ⟨false, false, false, false⟩

/-- Where a node's calibration comes from (R110). -/
inductive CalSource where
  | self
  | catalog
  | generic
deriving DecidableEq, Repr

/-- A node of the rendered chain in a snapshot (R76). -/
structure SnapNode where
  position : Nat
  packed : Nat
  zone : BitVec 8
  source : CalSource
  gains : Rgb
  currents : Rgb
  cap : Nat
  status : NodeStatus
deriving DecidableEq, Repr

/-- The snapshot a render computes from (R76). `zones` are the zone codes of the whole directory in chain order. -/
structure Snapshot where
  layers : List SnapLayer
  u : Nat
  a : Nat
  nodes : List SnapNode
  zones : List (BitVec 8)
  budget : Nat
deriving DecidableEq, Repr

/-- A frame entry: three duties and the top layer (R79). -/
structure Entry where
  duty : Rgb
  top : Option Slot
deriving DecidableEq, Repr

/-- A frame with the chain total T and the scale S of its render (R79). -/
structure Frame where
  entries : List Entry
  total : Nat
  scale : Nat
deriving DecidableEq, Repr

/-- The Compositor's state for one chain. `render` is the snapshot of a render in flight, `buffer` the finished frame
that waits for its copy into the send buffer (R80). -/
structure Comp where
  render : Option Snapshot
  buffer : Option Frame
  lateMark : Bool
  scaleMark : Bool
  lastScale : Nat
  lastTotal : Nat
deriving DecidableEq, Repr

/-- R84. -/
def Comp.reset : Comp :=
  { render := none, buffer := none, lateMark := false, scaleMark := false, lastScale := 4096, lastTotal := 0 }

/-! ### Node Directory (05) -/

/-- How a self-description block was judged (R106). -/
inductive BlockState where
  | absent
  | valid
  | badSignature
  | badCrc
  | badGain
  | unused
deriving DecidableEq, Repr

/-- One node record (R102). Its chain is the list that holds it and its position its place there (log 19). -/
structure Node where
  identityValid : Bool
  supplier : Nat
  part : Nat
  bin : Nat
  revision : Nat
  block : BlockState
  blockGains : Option Rgb
  blockCurrents : Option Rgb
  catalogEntry : Option Nat
  source : CalSource
  gains : Rgb
  currents : Rgb
  cap : Nat
  zone : BitVec 8
  status : NodeStatus
  sent : Bool
  lastSent : Rgb
  top : Option Slot
deriving DecidableEq, Repr

/-- One catalog entry (R108). -/
structure CatalogEntry where
  valid : Bool
  supplier : Nat
  part : Nat
  bin : Nat
  gains : Rgb
  currents : Rgb
  overrideSelf : Bool
deriving DecidableEq, Repr

/-- The default catalog entry (R108). -/
def CatalogEntry.default : CatalogEntry :=
  { valid := false, supplier := 0, part := 0, bin := 0, gains := Rgb.all 32768, currents := Rgb.all 200,
    overrideSelf := false }

/-- One zone span (R112). -/
structure ZoneSpan where
  valid : Bool
  chain : Chain
  first : Nat
  last : Nat
  zone : BitVec 8
deriving DecidableEq, Repr

/-- The default span (R112). -/
def ZoneSpan.default : ZoneSpan := { valid := false, chain := .a, first := 0, last := 0, zone := 0 }

/-- The catalog (R108). -/
abbrev Catalog := Vector CatalogEntry 16

/-- The zone span table (R112). -/
abbrev Spans := Vector ZoneSpan 32

/-- The Node Directory. -/
structure Directory where
  nodesA : List Node
  nodesB : List Node
  catalog : Catalog
  spans : Spans
  locked : Bool
deriving DecidableEq, Repr

/-- R104, R108, R112, R124: the Directory at power-on, before the load. -/
def Directory.reset : Directory :=
  { nodesA := [], nodesB := [], catalog := Vector.replicate 16 CatalogEntry.default,
    spans := Vector.replicate 32 ZoneSpan.default, locked := false }

/-! ### Chain ports (06) -/

/-- The state of a port (R130). -/
inductive PortState where
  | off
  | enumerating
  | running
  | released
deriving DecidableEq, Repr

/-- Where the frame of a duty shift came from: the pending place, the last-latched place (a repeated frame), or a send
buffer that has been emptied since the shift began (the port left RUNNING: R137, R139; log 14). -/
inductive Origin where
  | pending
  | repeated
  | detached
deriving DecidableEq, Repr

/-- A transfer in progress (R125). `latched`: its latch word has been clocked out. -/
inductive Transfer where
  | duty (frame : Frame) (origin : Origin) (latched : Bool)
  | dark (nodes : Nat) (latched : Bool)
  | request
  | collect
deriving DecidableEq, Repr

/-- A transfer that fell due while another was in progress (R125). -/
inductive Waiting where
  | duty (repeated : Bool)
  | dark
  | identify
deriving DecidableEq, Repr

/-- A chain port's record (R130), with its period timer (R129), the settle of its pass (R140), its quiet ticks (R144),
and the transfer in progress with those waiting (R125). Timers hold the ticks left. `cutAtSleep`: the last SLEEP found the
port RELEASED, and its drivers are high impedance while that sleep is pending (R146). -/
structure Port where
  state : PortState
  pre : Nat
  sel : Nat
  period : Nat
  budget : Nat
  pendingFrame : Option Frame
  lastLatched : Option Frame
  latchedSince : Bool
  failingRun : Nat
  correctRun : Nat
  loopBroken : Bool
  foreignActive : Bool
  returnState : PortState
  wakeMark : Bool
  cutAtSleep : Bool
  repeatedFrames : Nat
  abortedFrames : Nat
  loopBreaks : Nat
  periodTimer : Nat
  settle : Option Nat
  quietTimer : Nat
  transfer : Option Transfer
  waiting : List Waiting
deriving DecidableEq, Repr

/-- R130 at power-on and RESTART, before the load; pre, sel, P and budget as when SETTINGS is replaced by defaults. -/
def Port.reset : Port :=
  { state := .off, pre := 3, sel := 1, period := 10, budget := 1500, pendingFrame := none, lastLatched := none,
    latchedSince := false, failingRun := 0, correctRun := 0, loopBroken := false, foreignActive := false,
    returnState := .off, wakeMark := false, cutAtSleep := false, repeatedFrames := 0, abortedFrames := 0, loopBreaks := 0,
    periodTimer := 0, settle := none, quietTimer := Config.quietTicks, transfer := none, waiting := [] }

/-! ### Ambient Unit (07) -/

/-- A point of the dimming curve (R152). -/
structure CurvePoint where
  count : Nat
  factor : Nat
deriving DecidableEq, Repr

/-- The five points of the dimming curve (R152). -/
structure Curve where
  p0 : CurvePoint
  p1 : CurvePoint
  p2 : CurvePoint
  p3 : CurvePoint
  p4 : CurvePoint
deriving DecidableEq, Repr

/-- The default curve (R152). -/
def Curve.default : Curve := ⟨⟨0, 128⟩, ⟨500, 256⟩, ⟨2000, 640⟩, ⟨8000, 1024⟩, ⟨20000, 1024⟩⟩

/-- The Ambient Unit. `windowTimer` holds the ticks left of the gate window. -/
structure Ambient where
  windowOpen : Bool
  counter : Nat
  windowTimer : Nat
  lastCount : Nat
  seeded : Bool
  ls : Nat
  stale : Bool
  staleCount : Nat
  curve : Curve
  measured : Nat
  overrideOn : Bool
  overrideValue : Nat
deriving DecidableEq, Repr

/-- R154, with the default curve, whose value at level 0 is 128. -/
def Ambient.reset : Ambient :=
  { windowOpen := false, counter := 0, windowTimer := 0, lastCount := 0, seeded := false, ls := 0, stale := false,
    staleCount := 0, curve := Curve.default, measured := 128, overrideOn := false, overrideValue := 0 }

/-! ### Trigger Unit (08) -/

/-- A trigger action (R159). -/
inductive Action where
  | none
  | startScene
  | stopAtEnd
  | raiseAlert
  | clearAlert
deriving DecidableEq, Repr

/-- One trigger entry (R159). The level byte is 0–7 or 0xFF for DEFAULT where the action reads it. -/
structure Trigger where
  valid : Bool
  endOfTable : Bool
  code : BitVec 16
  mask : BitVec 16
  action : Action
  slot : Nat
  sceneId : Nat
  level : Nat
  exclusive : Bool
  replace : Bool
  report : Bool
deriving DecidableEq, Repr

/-- The empty entry (R160). -/
def Trigger.empty : Trigger :=
  { valid := false, endOfTable := false, code := 0, mask := 0, action := .none, slot := 0, sceneId := 0, level := 0,
    exclusive := false, replace := false, report := false }

/-- The trigger table (R159). -/
abbrev Triggers := Vector Trigger 24

/-! ### Scene Link Interface (09) -/

/-- The receiver's state with the frame in progress (R175 to R177). `taken` holds the payload bytes or, in HEADER, the
header bytes taken so far. -/
inductive Receiver where
  | waitIdle
  | hunt
  | header (taken : List Byte)
  | payload (length kind tag : Byte) (taken : List Byte)
  | check (length kind tag : Byte) (taken : List Byte) (crcHigh : Option Byte)
deriving DecidableEq, Repr

/-- How an identify pass ended (R141, R143). -/
inductive PassOutcome where
  | complete
  | abandoned
  | overlong
deriving DecidableEq, Repr

/-- A writable region (R193). -/
inductive Region where
  | settings
  | library
deriving DecidableEq, Repr

/-- A notice (R184). -/
inductive Notice where
  | cue (slot : Slot) (index : Nat) (status : CueStatus)
  | trigger (code : BitVec 16) (entry : Nat) (status : Status)
  | enumeration (chain : Chain) (count : Nat) (outcome : PassOutcome)
  | store (region : Region) (matched : Bool)
deriving DecidableEq, Repr

/-- The state of an event flag (R185). -/
inductive FlagState where
  | clear
  | set
  | reported
deriving DecidableEq, Repr

/-- The frame in transmission (R183). -/
structure TxFrame where
  isReply : Bool
  frame : LinkFrame
deriving DecidableEq, Repr

/-- The dispatch hold of R182, by the request that imposed it. -/
inductive Hold where
  | none
  | restart
  | sleep
deriving DecidableEq, Repr

/-- The Scene Link Interface. `replies` are the replies dispatched and not begun to be sent; `replySent`: the reply of
the request that imposed the hold has left SLO in full. -/
structure Link where
  receiver : Receiver
  rxBuffer : List LinkFrame
  replies : List LinkFrame
  tx : Option TxFrame
  txStopped : Bool
  hold : Hold
  replySent : Bool
  notices : List Notice
  flags : Vector FlagState 16
  mask : BitVec 16
  crcErrors : Nat
  framingErrors : Nat
  timeouts : Nat
  overlength : Nat
  overruns : Nat
deriving DecidableEq, Repr

/-- R192. -/
def Link.reset : Link :=
  { receiver := .waitIdle, rxBuffer := [], replies := [], tx := none, txStopped := false, hold := .none,
    replySent := false, notices := [], flags := Vector.replicate 16 .clear, mask := 0, crcErrors := 0,
    framingErrors := 0, timeouts := 0, overlength := 0, overruns := 0 }

/-! ### Settings Store (10) -/

/-- IDENTITY (R193). -/
structure Identity where
  part : Nat
  revision : Nat
  serial : Nat
deriving DecidableEq, Repr

/-- IDENTITY replaced by defaults (R194). -/
def Identity.default : Identity := ⟨0, 0, 0⟩

/-- One port's items in SETTINGS (R193). -/
structure PortSettings where
  pre : Nat
  sel : Nat
  period : Nat
  budget : Nat
deriving DecidableEq, Repr

/-- A port's items when SETTINGS is replaced by defaults (R194). -/
def PortSettings.default : PortSettings := ⟨3, 1, 10, 1500⟩

/-- The content of SETTINGS (R193). A stored trigger entry is the thirteen bytes PUT TRIGGER carries after the entry
number, and the policy its code, so that a stored value may fail its check (R160, R198; log 10). -/
structure StoredSettings where
  catalog : Catalog
  spans : Spans
  triggers : Vector (List Byte) 24
  curve : Curve
  portA : PortSettings
  portB : PortSettings
  u : Nat
  policy : Nat
  egressScene : Nat
  lockAfterStartUp : Bool
deriving DecidableEq, Repr

/-- A scene record of LIBRARY with the image of its ring (R193). -/
structure StoredScene where
  scene : Scene
  image : List Cue
deriving DecidableEq, Repr

/-- The store operation (R202): WRITING holds the snapshot of the region being written. -/
inductive StoreOp where
  | idle
  | settings (snapshot : StoredSettings)
  | library (snapshot : List StoredScene)
deriving DecidableEq, Repr

/-- The Settings Store: the three nonvolatile regions (`none`: the region fails its check), the working identity,
egress scene id and lock-after-start-up, and the store operation. -/
structure Store where
  identityRegion : Option Identity
  settingsRegion : Option StoredSettings
  libraryRegion : Option (List StoredScene)
  identity : Identity
  egressScene : Nat
  lockAfterStartUp : Bool
  op : StoreOp
deriving DecidableEq, Repr

/-- The Store at power-on and RESTART, before the load, over regions as they stand. -/
def Store.reset (i : Option Identity) (s : Option StoredSettings) (l : Option (List StoredScene)) : Store :=
  { identityRegion := i, settingsRegion := s, libraryRegion := l, identity := Identity.default, egressScene := 0,
    lockAfterStartUp := false, op := .idle }

/-! ### Power control (10) -/

/-- The part state (10), and the part without supply (R203). -/
inductive PartState where
  | unpowered
  | starting
  | awake
  | dormant
deriving DecidableEq, Repr

/-- Power control. -/
structure Power where
  part : PartState
  sleepPending : Bool
  plantHigh : Bool
deriving DecidableEq, Repr

/-! ### The whole part -/

/-- The part's state. `pending` is the queue of commands waiting, first in first out (log 1); `openChoices` counts the
free orders used (log 6). -/
structure State where
  pending : List Instr
  power : Power
  arb : Arbiter
  pool : Pool
  library : List Scene
  compA : Comp
  compB : Comp
  dir : Directory
  portA : Port
  portB : Port
  amb : Ambient
  triggers : Triggers
  link : Link
  store : Store
  openChoices : Nat
deriving DecidableEq, Repr

/-- No fault: the spec describes nothing that halts the part. Line errors, loop breaks, runaways and failing regions
are state (INVENTORY.md, Faults). -/
inductive Fault where
deriving DecidableEq, Repr

/-- Why a command has no meaning. -/
inductive Refusal where
  /-- Raised by exec's arm of a command that has no meaning yet, with the row's mnemonic. Safe: the run stops. -/
  | notModelled (mnemonic : String)
deriving DecidableEq, Repr

/-- Every block at its values of power-on, in STARTING, before the load (R2, R29, R84, R104, R130, R154, R160, R192,
R196, R202), over the nonvolatile regions and the pins as they stand. -/
def State.powerOn (pending : List Instr) (plantHigh line : Bool) (i : Option Identity) (s : Option StoredSettings)
    (l : Option (List StoredScene)) (choices : Nat) : State :=
  { pending := pending, power := { part := .starting, sleepPending := false, plantHigh := plantHigh },
    arb := Arbiter.reset line, pool := [], library := [], compA := Comp.reset, compB := Comp.reset,
    dir := Directory.reset, portA := Port.reset, portB := Port.reset, amb := Ambient.reset,
    triggers := Vector.replicate 24 Trigger.empty, link := Link.reset, store := Store.reset i s l,
    openChoices := choices }

/-- The part right after a power-on with PLANT low, EGRESS deasserted and nothing stored yet (log 7, log 9). -/
def State.reset : State := State.powerOn [] false false none none none 0

end Sys2Proof.Machine
end

