-- ==== Sys2Proof/Machine/Flags.lean ====
section
/-! DEFINITION. Machine/Flags.lean: the sixteen event flags (R185 to R188), the notice queue (R184), and the choice of
the transmitter's next frame (R183, R186). -/

namespace Sys2Proof.Machine

/-! ### Event flags -/

/-- The sixteen event flags in bit order (9.6, 11.9). -/
inductive Flag where
  | rxError
  | rxOverrun
  | loopBreakA
  | loopBreakB
  | foreignA
  | foreignB
  | nodeOvertemp
  | budgetLimit
  | renderLate
  | layerStarved
  | layerRunaway
  | sensorStale
  | hushEnd
  | egress
  | noticeLost
  | storeInvalid
deriving DecidableEq, Repr

/-- The bit of a flag in every two-byte flag field (11.9). -/
def Flag.bit : Flag → Fin 16
  | .rxError => 0
  | .rxOverrun => 1
  | .loopBreakA => 2
  | .loopBreakB => 3
  | .foreignA => 4
  | .foreignB => 5
  | .nodeOvertemp => 6
  | .budgetLimit => 7
  | .renderLate => 8
  | .layerStarved => 9
  | .layerRunaway => 10
  | .sensorStale => 11
  | .hushEnd => 12
  | .egress => 13
  | .noticeLost => 14
  | .storeInvalid => 15

/-- LOOP_BREAK_x. -/
def loopBreakFlag : Chain → Flag
  | .a => .loopBreakA
  | .b => .loopBreakB

/-- FOREIGN_x. -/
def foreignFlag : Chain → Flag
  | .a => .foreignA
  | .b => .foreignB

/-- The state of a flag. -/
def Link.flag (l : Link) (f : Flag) : FlagState := l.flags[f.bit]

/-- A flag's condition: a CLEAR flag becomes SET, a SET or REPORTED flag stays (R185). -/
def FlagState.raise : FlagState → FlagState
  | .clear => .set
  | f => f

/-- The rule that sets flag `f` (R185). -/
def Link.raise (l : Link) (f : Flag) : Link := { l with flags := l.flags.set f.bit (l.flags[f.bit]).raise }

/-- Set flag `f` when `c` holds. -/
def Link.raiseIf (l : Link) (c : Bool) (f : Flag) : Link := if c then l.raise f else l

/-- The flag field with a 1 for every flag whose state satisfies `p` (11.9). -/
def flagBits (p : FlagState → Bool) (flags : Vector FlagState 16) : BitVec 16 :=
  BitVec.ofNat 16 ((List.finRange 16).foldr (fun i acc => acc * 2 + ofBool (p flags[i])) 0)

/-- The flags that are SET (GET STATUS, 11.6). -/
def Link.setBits (l : Link) : BitVec 16 := flagBits (fun f => decide (f = .set)) l.flags

/-- The flags that are REPORTED (GET STATUS, 11.6). -/
def Link.reportedBits (l : Link) : BitVec 16 := flagBits (fun f => decide (f = .reported)) l.flags

/-- The standing set: every flag SET or REPORTED (R186). -/
def Link.standing (l : Link) : BitVec 16 := flagBits (fun f => decide (f ≠ .clear)) l.flags

/-- The new set of an EVENT REPORT: every flag SET and unmasked (R186). -/
def Link.newSet (l : Link) : BitVec 16 := l.setBits &&& ~~~ l.mask

/-- CLEAR EVENTS: every named flag becomes CLEAR (R188). -/
def Link.clearFlags (l : Link) (named : BitVec 16) : Link :=
  { l with flags := Vector.ofFn fun i => if named.getLsbD i.val then .clear else l.flags[i] }

/-- An EVENT REPORT begins: every flag of the new set becomes REPORTED (R186). -/
def Link.reportFlags (l : Link) : Link :=
  { l with flags := Vector.ofFn fun i =>
      if l.flags[i] = .set ∧ l.mask.getLsbD i.val = false then .reported else l.flags[i] }

/-! ### Notices (R184) -/

/-- A notice joins the queue, or is dropped with NOTICE_LOST when the queue holds 16 (R184). -/
def Link.queue (l : Link) (n : Notice) : Link :=
  if l.notices.length < Config.maxNotices then { l with notices := l.notices ++ [n] } else l.raise .noticeLost

/-- Several notices join in the order of the list; a queue with room for some takes the first (R184). -/
def Link.queueAll (l : Link) (ns : List Notice) : Link := ns.foldl Link.queue l

/-- The list taken in the order the places `ks` name: each place, modulo what is left, names the next to be taken. -/
def reorder {α : Type} : List Nat → List α → List α
  | k :: ks, x :: xs =>
    (x :: xs).getD (k % (xs.length + 1)) x :: reorder ks ((x :: xs).eraseIdx (k % (xs.length + 1)))
  | _, l => l

/-- The code of a cue status in a record and in a CUE NOTICE (11.2). -/
def cueStatusCode : CueStatus → Nat
  | .none => 0
  | .done => 1
  | .cut => 2

/-- ENUM NOTICE outcome (11.2). -/
def passOutcomeCode : PassOutcome → Nat
  | .complete => 0
  | .abandoned => 1
  | .overlong => 2

/-- The region field (11.2). -/
def regionCode : Region → Nat
  | .settings => 1
  | .library => 2

/-- The frame of a notice: its report kind, TAG 0 and the payload of 11.7. -/
def Notice.frame : Notice → LinkFrame
  | .cue slot index status => ⟨0x71, 0, be8 slot.val ++ be16 index ++ be8 (cueStatusCode status)⟩
  | .trigger code entry status => ⟨0x72, 0, be16 code.toNat ++ be8 entry ++ be8 status.code⟩
  | .enumeration chain count outcome => ⟨0x73, 0, be8 (chainCode chain) ++ be8 count ++ be8 (passOutcomeCode outcome)⟩
  | .store region matched => ⟨0x74, 0, be8 (regionCode region) ++ be8 (if matched then 0 else 1)⟩

/-- The EVENT REPORT composed at this moment (R186, 11.7). -/
def Link.eventReport (l : Link) : LinkFrame := ⟨0x70, 0, be16 l.newSet.toNat ++ be16 l.standing.toNat⟩

/-! ### The transmitter (R180, R183) -/

/-- Replies unsent: those not begun and the one in transmission (R180). -/
def Link.unsent (l : Link) : Nat := l.replies.length + (if l.tx.any (·.isReply) then 1 else 0)

/-- A free transmitter that is not stopped chooses its next frame: the oldest reply, else the notice at the head of
the queue, else an EVENT REPORT if the new set is not empty (R183, R186). -/
def Link.startNext (l : Link) : Link :=
  if l.tx.isSome || l.txStopped then l
  else
    match l.replies, l.notices with
    | r :: rs, _ => { l with tx := some ⟨true, r⟩, replies := rs }
    | [], n :: ns => { l with tx := some ⟨false, n.frame⟩, notices := ns }
    | [], [] => if l.newSet = 0 then l else { l.reportFlags with tx := some ⟨false, l.eventReport⟩ }

end Sys2Proof.Machine
end

