-- ==== Sys2Proof/Machine/Operands.lean ====
section
/-! DEFINITION. Machine/Operands.lean: how the fields of payloads and stored items are read and written: the cue record
(11.8), the coded fields (11.2), the trigger, catalog and span fields (11.5), and the codes that replies carry. -/

namespace Sys2Proof.Machine

/-! ### Codes (11.2) -/

/-- The kind byte of a cue record (11.8). -/
def cueKindCode : CueKind → Nat
  | .set => 0
  | .fade => 1
  | .hold => 2
  | .sweep => 3
  | .loop => 4
  | .end_ => 5

/-- The cue kind of a kind byte; above 5 there is none (R38, check 3; R212). -/
def cueKind? (n : Nat) : Option CueKind :=
  match n with
  | 0 => some .set
  | 1 => some .fade
  | 2 => some .hold
  | 3 => some .sweep
  | 4 => some .loop
  | 5 => some .end_
  | _ => none

/-- Ring mode: 0 STREAM, 1 RESIDENT. -/
def ringMode? (n : Nat) : Option RingMode :=
  if n = 0 then some .stream else if n = 1 then some .resident else none

/-- Ring mode code. -/
def ringModeCode : RingMode → Nat
  | .stream => 0
  | .resident => 1

/-- The modes of STOP LAYER and CLEAR ALERT: `true` is AT_END. -/
def endMode? (n : Nat) : Option Bool := boolCode? n

/-- Policy: 0 RESUME, 1 CANCEL. -/
def policy? (n : Nat) : Option Policy :=
  if n = 0 then some .resume else if n = 1 then some .cancel else none

/-- Policy code. -/
def policyCode : Policy → Nat
  | .resume => 0
  | .cancel => 1

/-- Trigger action. -/
def action? (n : Nat) : Option Action :=
  match n with
  | 0 => some .none
  | 1 => some .startScene
  | 2 => some .stopAtEnd
  | 3 => some .raiseAlert
  | 4 => some .clearAlert
  | _ => none

/-- Trigger action code. -/
def actionCode : Action → Nat
  | .none => 0
  | .startScene => 1
  | .stopAtEnd => 2
  | .raiseAlert => 3
  | .clearAlert => 4

/-- Part state code; the two states that answer requests have one (11.2). -/
def partCode : PartState → Nat
  | .awake => 1
  | _ => 0

/-- Layer state code. -/
def layerStateCode : LayerState → Nat
  | .idle => 0
  | .running => 1
  | .starved => 2
  | .suspended => 3
  | .parked => 4

/-- End reason code. -/
def endReasonCode : EndReason → Nat
  | .none => 0
  | .completed => 1
  | .stopped => 2
  | .cut => 3
  | .runaway => 4

/-- Port state and return state code. -/
def portStateCode : PortState → Nat
  | .off => 0
  | .enumerating => 1
  | .running => 2
  | .released => 3

/-- Calibration source code. -/
def calSourceCode : CalSource → Nat
  | .self => 0
  | .catalog => 1
  | .generic => 2

/-- Block state code. -/
def blockStateCode : BlockState → Nat
  | .absent => 0
  | .valid => 1
  | .badSignature => 2
  | .badCrc => 3
  | .badGain => 4
  | .unused => 5

/-- A number or none: 0xFF for none (catalog entry, top layer). -/
def orNone (n : Option Nat) : Nat := n.getD 0xFF

/-- The level byte of START SCENE and of trigger entries that asks for the scene's default level (11.2). -/
def levelDefault : Nat := 0xFF

/-- Three fields of two bytes each, R, G, B. -/
def rgb16 (c : Rgb) : List Byte := be16 c.r ++ be16 c.g ++ be16 c.b

/-- Three fields of two bytes each at offset `i`. -/
def rgb16At (p : List Byte) (i : Nat) : Rgb := ⟨wordAt p i, wordAt p (i + 2), wordAt p (i + 4)⟩

/-! ### The cue record (11.8, R212) -/

/-- The record of thirteen bytes as LOAD CUES writes it: every field as given, bits 5 to 7 of the flags and the status
byte not read, status NONE (R39, R212). `none`: a kind outside the six kinds. -/
def cueOfBytes (p : List Byte) : Option Cue :=
  (cueKind? (byteAt p 0)).map fun kind =>
    let flags := p.getD 1 0
    { kind := kind, ready := flags.getLsbD 0, wrap := flags.getLsbD 1, notify := flags.getLsbD 2,
      trail := flags.getLsbD 3, reverse := flags.getLsbD 4, selector := ⟨p.getD 2 0, p.getD 3 0⟩,
      colour := ⟨byteAt p 4, byteAt p 5, byteAt p 6⟩, opacity := byteAt p 7, duration := wordAt p 8,
      width := byteAt p 10, loopTarget := byteAt p 11, status := .none }

/-- The flags byte of a record, bits 5 to 7 at 0. -/
def cueFlags (c : Cue) : Nat :=
  ofBool c.ready + 2 * ofBool c.wrap + 4 * ofBool c.notify + 8 * ofBool c.trail + 16 * ofBool c.reverse

/-- The thirteen bytes READ CUES sends for a record (R212). -/
def cueToBytes (c : Cue) : List Byte :=
  be8 (cueKindCode c.kind) ++ be8 (cueFlags c) ++ [c.selector.value, c.selector.mask] ++
    be8 c.colour.r ++ be8 c.colour.g ++ be8 c.colour.b ++ be8 c.opacity ++ be16 c.duration ++ be8 c.width ++
    be8 c.loopTarget ++ be8 (cueStatusCode c.status)

/-- The `n` records that follow the pool index in a LOAD CUES payload. -/
def recordBytes (p : List Byte) (n : Nat) : List (List Byte) :=
  (List.range n).map fun i => (p.drop (2 + Config.cueBytes * i)).take Config.cueBytes

/-- How many whole records a LOAD CUES payload carries; `none` unless it is a pool index followed by 1 to 18 whole
records (R38, check 1; R211). -/
def recordCount? (p : List Byte) : Option Nat :=
  if 2 ≤ p.length then
    let bytes := p.length - 2
    if bytes % Config.cueBytes = 0 ∧ 1 ≤ bytes / Config.cueBytes ∧ bytes / Config.cueBytes ≤ Config.maxRecords then
      some (bytes / Config.cueBytes)
    else none
  else none

/-- A stored image keeps every field but the ready flag, stored clear, and the status, stored NONE (R201, R212). -/
def Cue.stored (c : Cue) : Cue := { c with ready := false, status := .none }

/-! ### Scene records -/

/-- The range and level bounds of a scene record (R45). -/
def Scene.inBounds (c : Scene) : Bool :=
  c.base < Config.poolSize && 1 ≤ c.length && c.length ≤ Config.maxRing && c.base + c.length ≤ Config.poolSize &&
    c.level ≤ 7

/-! ### Trigger entries (R159, R170) -/

/-- The thirteen bytes that follow the entry number in PUT TRIGGER, checked by checks 2 to 7 of R170. -/
def triggerOfBytes (p : List Byte) : Option Trigger := do
  let valid ← boolCode? (byteAt p 0)
  let endOfTable ← boolCode? (byteAt p 1)
  let replace ← boolCode? (byteAt p 11)
  let report ← boolCode? (byteAt p 12)
  let exclusive ← boolCode? (byteAt p 10)
  let action ← action? (byteAt p 6)
  let slot := byteAt p 7
  let sceneId := byteAt p 8
  let level := byteAt p 9
  let bad :=
    match action with
    | .startScene => slot > 9 || sceneId = 0 || (level > 7 && level ≠ levelDefault)
    | .stopAtEnd => slot > 9
    | .raiseAlert => sceneId = 0
    | .clearAlert => slot ≠ 10 && slot ≠ 11
    | .none => false
  if bad then none
  else
    some { valid := valid, endOfTable := endOfTable, code := BitVec.ofNat 16 (wordAt p 2),
           mask := BitVec.ofNat 16 (wordAt p 4), action := action, slot := slot, sceneId := sceneId, level := level,
           exclusive := exclusive, replace := replace, report := report }

/-- The thirteen bytes of an entry, as GET TRIGGER returns them and SETTINGS stores them. -/
def triggerToBytes (t : Trigger) : List Byte :=
  be8 (ofBool t.valid) ++ be8 (ofBool t.endOfTable) ++ be16 t.code.toNat ++ be16 t.mask.toNat ++
    be8 (actionCode t.action) ++ be8 t.slot ++ be8 t.sceneId ++ be8 t.level ++ be8 (ofBool t.exclusive) ++
    be8 (ofBool t.replace) ++ be8 (ofBool t.report)

/-! ### Catalog entries and spans -/

/-- The nineteen bytes of a catalog entry at offsets 1 to 19 of PUT CATALOG (11.5). -/
def catalogToBytes (e : CatalogEntry) : List Byte :=
  be8 (ofBool e.valid) ++ be16 e.supplier ++ be16 e.part ++ be8 e.bin ++ rgb16 e.gains ++ rgb16 e.currents ++
    be8 (ofBool e.overrideSelf)

/-- The entry of a PUT CATALOG payload, under checks 2 and 3 of R121. -/
def catalogOfBytes (p : List Byte) : Option CatalogEntry := do
  let valid ← boolCode? (byteAt p 1)
  let overrideSelf ← boolCode? (byteAt p 19)
  let currents := rgb16At p 13
  if currents.r > 1000 || currents.g > 1000 || currents.b > 1000 then none
  else
    some { valid := valid, supplier := wordAt p 2, part := wordAt p 4, bin := byteAt p 6, gains := rgb16At p 7,
           currents := currents, overrideSelf := overrideSelf }

/-- The span of a PUT ZONE SPAN payload, under checks 2 to 4 of R123. -/
def spanOfBytes (p : List Byte) : Option ZoneSpan := do
  let valid ← boolCode? (byteAt p 1)
  let chain ← chainCode? (byteAt p 2)
  let first := byteAt p 3
  let last := byteAt p 4
  if first > 127 || last > 127 || first > last then none
  else some { valid := valid, chain := chain, first := first, last := last, zone := p.getD 5 0 }

/-! ### The curve -/

/-- The five points of a SET CURVE payload, each factor above 1024 taken as 1024 (R156). -/
def curveOfBytes (p : List Byte) : Curve :=
  let point (i : Nat) : CurvePoint := ⟨wordAt p (4 * i), min (wordAt p (4 * i + 2)) Config.one⟩
  ⟨point 0, point 1, point 2, point 3, point 4⟩

/-- The points of a curve in order. -/
def Curve.points (c : Curve) : List CurvePoint := [c.p0, c.p1, c.p2, c.p3, c.p4]

/-- The counts ascend strictly (R152, R156). -/
def Curve.ascending (c : Curve) : Bool :=
  c.p0.count < c.p1.count && c.p1.count < c.p2.count && c.p2.count < c.p3.count && c.p3.count < c.p4.count

/-- The curve at the offsets of SET CURVE (11.6). -/
def curveToBytes (c : Curve) : List Byte := c.points.flatMap fun p => be16 p.count ++ be16 p.factor

end Sys2Proof.Machine
end

