-- ==== Sys2Proof/Machine/Ops.lean ====
section
/-! DEFINITION. Machine/Ops.lean: the operations that several commands share: the cue pool, the layer records, the
floor, immediate ends and starts, notices, and the dispatch of a request with its reply. -/

namespace Sys2Proof.Machine

/-! ### The cue pool (R29) -/

/-- The record at an index: an unlisted index reads as the empty record. -/
def Pool.read (p : Pool) (i : Nat) : Cue :=
  match p with
  | [] => Cue.empty
  | (j, c) :: rest => if j = i then c else Pool.read rest i

/-- Write a record, keeping the canonical form: writing the empty record removes the entry. -/
def Pool.write (p : Pool) (i : Nat) (c : Cue) : Pool :=
  match p with
  | [] => if c = Cue.empty then [] else [(i, c)]
  | (j, d) :: rest =>
    if i < j then (if c = Cue.empty then (j, d) :: rest else (i, c) :: (j, d) :: rest)
    else if i = j then (if c = Cue.empty then rest else (i, c) :: rest)
    else (j, d) :: Pool.write rest i c

/-- Write records at `i`, `i + 1`, and so on. -/
def Pool.writeAll (p : Pool) (i : Nat) : List Cue → Pool
  | [] => p
  | c :: cs => Pool.writeAll (p.write i c) (i + 1) cs

/-- The canonical form: indices strictly rising, no record equal to the empty record. -/
def Pool.wf : Pool → Bool
  | [] => true
  | (i, c) :: rest => decide (c ≠ Cue.empty) && rest.all (fun e => decide (i < e.1)) && Pool.wf rest

/-- A STREAM write-back: the record at `i` gets `status` and its ready flag is cleared (R36, R5). -/
def Pool.giveBack (p : Pool) (i : Nat) (status : CueStatus) : Pool :=
  p.write i { p.read i with ready := false, status := status }

/-! ### Access to the state -/

/-- A layer record. -/
def State.layer (s : State) (i : Slot) : Layer := s.arb.layers[i]

/-- Write a layer record. -/
def State.setLayer (s : State) (i : Slot) (l : Layer) : State :=
  { s with arb := { s.arb with layers := s.arb.layers.set i l } }

/-- A chain's port. -/
def State.port (s : State) : Chain → Port
  | .a => s.portA
  | .b => s.portB

/-- Write a chain's port. -/
def State.setPort (s : State) (c : Chain) (p : Port) : State :=
  match c with
  | .a => { s with portA := p }
  | .b => { s with portB := p }

/-- The Compositor's state for a chain. -/
def State.comp (s : State) : Chain → Comp
  | .a => s.compA
  | .b => s.compB

/-- Write the Compositor's state for a chain. -/
def State.setComp (s : State) (c : Chain) (k : Comp) : State :=
  match c with
  | .a => { s with compA := k }
  | .b => { s with compB := k }

/-- A chain's node records in position order. -/
def Directory.nodes (d : Directory) : Chain → List Node
  | .a => d.nodesA
  | .b => d.nodesB

/-- Write a chain's node records. -/
def Directory.setNodes (d : Directory) (c : Chain) (ns : List Node) : Directory :=
  match c with
  | .a => { d with nodesA := ns }
  | .b => { d with nodesB := ns }

/-- The record count n of a chain. -/
def State.count (s : State) (c : Chain) : Nat := (s.dir.nodes c).length

/-- Set an event flag (R185). -/
def State.raise (s : State) (f : Flag) : State := { s with link := s.link.raise f }

/-- Set an event flag when `c` holds. -/
def State.raiseIf (s : State) (c : Bool) (f : Flag) : State := { s with link := s.link.raiseIf c f }

/-- Queue notices in the order of the list (R184). -/
def State.queueAll (s : State) (ns : List Notice) : State := { s with link := s.link.queueAll ns }

/-- Queue the notices of one event that no rule orders among themselves: with two or more, in a free order (log 6). -/
def State.queueOpen (s : State) (ns : List Notice) : State :=
  if ns.length ≤ 1 then s.queueAll ns
  else { s.queueAll (reorder (Config.openOrder s.openChoices) ns) with openChoices := s.openChoices + 1 }

/-- The transmitter, if free, chooses its next frame: the end of every event (R183). DESIGN CHOICE, unsafe: of an event
that queues several notices or sets several flags the choice sees all of them, and no place in the notice queue comes
free within the event (log 39). -/
def State.settle (s : State) : State := { s with link := s.link.startNext }

/-- The part has supply and its timebase runs: STARTING or AWAKE (10, part states). -/
def State.running (s : State) : Bool := s.power.part = .starting || s.power.part = .awake

/-- The part state is AWAKE. -/
def State.awake (s : State) : Bool := s.power.part = .awake

/-- A saturating counter rises by 1 (R189, R147, R148). -/
def countUp (n : Nat) : Nat := min (n + 1) Config.counterTop

/-! ### Layers and the floor (01) -/

/-- Slots 0 to 9 are scene slots (1.1). -/
def isScene (i : Slot) : Bool := i.val < 10

/-- RUNNING or STARVED: advanced on the tick and counted for the floor (R3, R6). -/
def LayerState.playing : LayerState → Bool
  | .running => true
  | .starved => true
  | _ => false

/-- The highest level among the exclusive layers that `counts` picks, 0 when there are none (R6, R7). -/
def highestLevel (layers : Vector Layer 12) (counts : Slot → Layer → Bool) : Nat :=
  (List.finRange 12).foldr
    (fun i m => if layers[i].exclusive && counts i layers[i] then max layers[i].level m else m) 0

/-- The slot numbers that are in range, as slots. -/
def slotOf (n : Nat) : Option Slot := if h : n < 12 then some ⟨n, h⟩ else none

/-- A STREAM cue in play belongs to the engine: an immediate end gives it back with CUT (R5). -/
def Layer.ownsCue (l : Layer) : Bool := l.ringMode = .stream && !l.fallback && l.cueBegun

/-- The layer enters IDLE (R4): the end reason is recorded, finishing and the loop stack are cleared, a SWEEP in play
leaves its captured colour and opacity, and slot 10 loses its latch. -/
def Layer.toIdle (l : Layer) (i : Slot) (reason : EndReason) : Layer :=
  { l with
    state := .idle
    endReason := reason
    finishing := false
    loopStack := []
    colour := if l.sweepActive then l.captured.colour else l.colour
    opacity := if l.sweepActive then l.captured.opacity else l.opacity
    sweepActive := false
    latch := if i.val = 10 then false else l.latch }

/-- The CUE NOTICE CUT of an immediate end, if the current cue has begun with notify captured (R5). -/
def Layer.cutNotice (l : Layer) (i : Slot) : Option Notice :=
  if l.cueBegun && l.captured.notify then some (.cue i l.cueIndex .cut) else none

/-- The slots that `p` picks end at once (R5, R4) with the given reason; their notices are returned for the event to
queue. The floor is not evaluated here. -/
def State.endLayers (s : State) (p : Slot → Layer → Bool) (reason : EndReason) : State × List Notice :=
  let ended (i : Slot) : Bool := p i s.arb.layers[i]
  ({ s with
     arb := { s.arb with
       layers := Vector.ofFn fun i => if ended i then s.arb.layers[i].toIdle i reason else s.arb.layers[i] }
     pool := (List.finRange 12).foldl
       (fun pool i =>
         if ended i && s.arb.layers[i].ownsCue then pool.giveBack s.arb.layers[i].cueIndex .cut else pool) s.pool },
   (List.finRange 12).filterMap fun i => if ended i then s.arb.layers[i].cutNotice i else none)

/-- One floor evaluation, run to its end (R6): R7 under RESUME, R8 under CANCEL. -/
def State.evalFloor (s : State) : State :=
  match s.arb.policy with
  | .resume =>
    let floor := highestLevel s.arb.layers fun _ l => l.state.playing || l.state = .suspended
    let settled (i : Slot) (l : Layer) : Layer :=
      if isScene i then
        if l.state = .suspended && floor ≤ l.level then { l with state := .running }
        else if l.state.playing && l.level < floor then { l with state := .suspended }
        else l
      else l
    { s with arb := { s.arb with floor := floor, layers := Vector.ofFn fun i => settled i s.arb.layers[i] } }
  | .cancel =>
    let floor := highestLevel s.arb.layers fun _ l => l.state.playing
    let below (i : Slot) (l : Layer) : Bool := isScene i && l.state.playing && l.level < floor
    let (t, notices) := s.endLayers below .cut
    ({ t with arb := { t.arb with floor := floor } }).queueOpen notices

/-- The values an R11 start writes. -/
structure RingStart where
  level : Nat
  exclusive : Bool
  sceneId : Nat
  base : Nat
  length : Nat
  mode : RingMode
  offset : Nat
  fallback : Bool
deriving DecidableEq, Repr

/-- The record an accepted START writes, before its state (R11). The latch is the slot's own. -/
def Layer.started (l : Layer) (r : RingStart) (state : LayerState) : Layer :=
  { state := state, level := r.level, exclusive := r.exclusive, sceneId := r.sceneId, ringBase := r.base,
    ringLength := r.length, ringMode := r.mode, fallback := r.fallback, startOffset := r.offset,
    cueIndex := r.base + r.offset, cueBegun := false, elapsed := 0, captured := Captured.zero, sweepActive := false,
    colour := Rgb.all 0, opacity := 0, selector := ⟨0, 0⟩, loopStack := [], loopOverflow := false,
    stepCount := l.stepCount, finishing := false, endReason := .none, latch := l.latch }

/-- The state a START gives (R11): level 0 is PARKED, a scene slot below the floor is SUSPENDED, every other case is
RUNNING. Under CANCEL no start is SUSPENDED: a level below the floor of the OTHER layers has been refused (R10, R12,
R164; log 25). -/
def State.startState (s : State) (i : Slot) (level : Nat) : LayerState :=
  if isScene i && level = 0 then .parked
  else if isScene i && decide (s.arb.policy = .resume) && decide (level < s.arb.floor) then .suspended
  else .running

/-- An accepted START: the record of R11 and one floor evaluation. -/
def State.startRing (s : State) (i : Slot) (r : RingStart) : State :=
  (s.setLayer i ((s.layer i).started r (s.startState i r.level))).evalFloor

/-- Two rings overlap when at least one pool index belongs to both (R42). -/
def ringsOverlap (base₁ length₁ base₂ length₂ : Nat) : Bool :=
  max base₁ base₂ < min (base₁ + length₁) (base₂ + length₂)

/-- A starting ring conflicts with the layer: the layer is not IDLE, plays a pool ring that shares an index, and either
ring is STREAM (R42). -/
def Layer.conflicts (l : Layer) (base length : Nat) (mode : RingMode) : Bool :=
  l.state ≠ .idle && !l.fallback && (l.ringMode = .stream || mode = .stream) &&
    ringsOverlap base length l.ringBase l.ringLength

/-- The ring conflicts with a layer of a slot that `among` picks (R10, R12, R21, R25, R164). -/
def State.overlaps (s : State) (among : Slot → Bool) (base length : Nat) (mode : RingMode) : Bool :=
  (List.finRange 12).any fun i => among i && (s.arb.layers[i]).conflicts base length mode

/-- The scene record with an id (R45). -/
def findScene (library : List Scene) (id : Nat) : Option Scene := library.find? (·.id = id)

/-- The RESIDENT ring of a scene (R12). -/
def Scene.ring (c : Scene) (level : Nat) (exclusive : Bool) : RingStart :=
  { level := level, exclusive := exclusive, sceneId := c.id, base := c.base, length := c.length, mode := .resident,
    offset := 0, fallback := false }

/-- The fallback ring of slot 11 (R25, R26; log 11). -/
def fallbackRing : RingStart :=
  { level := 15, exclusive := true, sceneId := 0, base := 0, length := 3, mode := .resident, offset := 0,
    fallback := true }

/-- Slot 10. -/
def alertSlot : Slot := 10

/-- Slot 11. -/
def egressSlot : Slot := 11

/-- The start of slot 11: the egress scene if it can be started, else the fallback ring (R25). -/
def State.startEgress (s : State) : State :=
  let ring :=
    if s.store.egressScene = 0 then fallbackRing
    else
      match findScene s.library s.store.egressScene with
      | some c => if s.overlaps (fun _ => true) c.base c.length .resident then fallbackRing else c.ring 15 true
      | none => fallbackRing
  s.startRing egressSlot ring

/-- A slot ends at once and the floor is evaluated (R5, R4). -/
def State.stopSlot (s : State) (i : Slot) (reason : EndReason) : State :=
  let (t, notices) := s.endLayers (fun j _ => decide (j = i)) reason
  (t.queueAll notices).evalFloor

/-! ### Requests: dispatch and reply (R180, R181) -/

/-- What an owner answers: the state after its action, the status, and the data of the reply. -/
structure Answer where
  state : State
  status : Status
  data : List Byte

/-- A refusal or an answer without data. -/
def Answer.plain (s : State) (status : Status) : Answer := ⟨s, status, []⟩

/-- Dispatch may be taken: the part is STARTING or AWAKE, no hold is in force, fewer than 2 replies are unsent (R180,
conditions 2 to 4). -/
def State.dispatching (s : State) : Bool :=
  s.running && s.link.hold = .none && s.link.unsent < Config.maxUnsent

/-- The frame is the one to be dispatched: the oldest of the receive buffer or, when the buffer is empty and the
receiver hunts, a frame that ends on SLI at this moment and joins and leaves the buffer at once (R180; log 3). -/
def State.frameReady (s : State) (f : LinkFrame) : Bool :=
  match s.link.rxBuffer with
  | g :: _ => g = f
  | [] => s.link.receiver = .hunt && f.payload.length ≤ Config.maxPayload

/-- Frame `f` can be dispatched now (R180). -/
def State.atDispatch (s : State) (f : LinkFrame) : Bool := s.dispatching && s.frameReady f

/-- The dispatched frame leaves the buffer (R180). -/
def State.takeFrame (s : State) : State := { s with link := { s.link with rxBuffer := s.link.rxBuffer.tail } }

/-- The reply joins the replies to be sent: KIND + 0x80, the TAG echoed, the status, and data with OK or ACCEPTED
(R181). -/
def State.reply (s : State) (f : LinkFrame) (status : Status) (data : List Byte) : State :=
  let payload := be8 status.code ++ (if status.carriesData then data else [])
  { s with link := { s.link with replies := s.link.replies ++ [⟨replyKind f.kind, f.tag, payload⟩] } }

/-- PING and GET STATUS are served while STARTING (R181, check 4). -/
def servedInStarting (kind : Byte) : Bool := kind = 0x01 || kind = 0x02

/-- The link checks 3 and 4 of R181, then the owner. -/
def linkChecked (f : LinkFrame) (owner : State → Answer) (s : State) : Answer :=
  if lengthAllowed f.kind f.payload.length = false then .plain s .length
  else if s.power.part = .starting && !servedInStarting f.kind then .plain s .busy
  else owner s

/-- The dispatch of a request frame as one event: the frame leaves the buffer, the link checks and the owner are taken,
the reply is queued, and a free transmitter takes it (R180, R181, R183). `mine`: the frame is of this command's variant.
A frame that cannot be dispatched now is not (log 2). -/
def State.serve (s : State) (f : LinkFrame) (mine : Bool) (owner : State → Answer) : State :=
  if mine && s.atDispatch f then
    let ans := linkChecked f owner s.takeFrame
    (ans.state.reply f ans.status ans.data).settle
  else s

/-- A payload of another length than the variant's field needs is answered LENGTH under either variant; otherwise the
field decides the variant (log 3). -/
def variant (payload : List Byte) (length : Nat) (field : List Byte → Bool) : Bool :=
  payload.length ≠ length || field payload

/-- The result of a command. -/
abbrev Result := Host.Outcome State Fault Refusal

end Sys2Proof.Machine
end

