-- ==== Sys2Proof/Machine/DirectoryOps.lean ====
section
/-! DEFINITION. Machine/DirectoryOps.lean: what several commands do with the Node Directory (05): the answers of an
identify pass, calibration selection, zone codes, enumeration completion and status absorption. -/

namespace Sys2Proof.Machine

/-! ### Answers of a collect transfer (R140, R141) -/

/-- One answer: the eight bytes of the identity record, and the sixteen of the block when it is present. -/
structure NodeAnswer where
  identity : List Byte
  block : Option (List Byte)
deriving DecidableEq, Repr

/-- The `i`-th byte DIx returns after the collect marker: the operand's, or a free byte beyond it (log 17). -/
def returnedByte (returned : List Byte) (i : Nat) : Byte := returned.getD i (Config.lineByte i)

/-- `n` returned bytes from `i` on. -/
def returnedBytes (returned : List Byte) (i n : Nat) : List Byte :=
  (List.range n).map fun k => returnedByte returned (i + k)

/-- The block present field: bit 0 of identity byte 6 (11.10, R213). -/
def blockPresent (identity : List Byte) : Bool := (identity.getD 6 0).getLsbD 0

/-- The port reads answers from byte `i` on, at most `left` more (R141): an answer follows each answer mark; another
byte ends the pass COMPLETE, and a mark after the 128th answer ends it OVERLONG. -/
def readAnswers (returned : List Byte) : Nat → Nat → List NodeAnswer × PassOutcome
  | 0, i => ([], if returnedByte returned i = answerMark then .overlong else .complete)
  | left + 1, i =>
    if returnedByte returned i = answerMark then
      let identity := returnedBytes returned (i + 1) 8
      let present := blockPresent identity
      let block := if present then some (returnedBytes returned (i + 9) 16) else none
      let rest := readAnswers returned left (i + (if present then 25 else 9))
      (⟨identity, block⟩ :: rest.1, rest.2)
    else ([], .complete)

/-! ### Identity and self-description (R105 to R107) -/

/-- The exclusive-or of bytes. -/
def xorBytes (p : List Byte) : Byte := p.foldl (· ^^^ ·) 0

/-- The identity is valid: byte 7 is the exclusive-or of bytes 0 to 6 (R105). -/
def identityGood (p : List Byte) : Bool := p.getD 7 0 = xorBytes (p.take 7)

/-- The block state of a node of valid identity (R106). -/
def blockStateOf (block : Option (List Byte)) : BlockState :=
  match block with
  | none => .absent
  | some p =>
    if wordAt p 0 ≠ 0x6B1D then .badSignature
    else if (crc16 (p.take 14)).toNat ≠ wordAt p 14 then .badCrc
    else if wordAt p 2 < 8192 ∨ wordAt p 4 < 8192 ∨ wordAt p 6 < 8192 then .badGain
    else .valid

/-- The block currents: absent when all three are 0, otherwise each limited to 1000 (R107). -/
def blockCurrentsOf (p : List Byte) : Option Rgb :=
  let k := rgb16At p 8
  if k = Rgb.all 0 then none else some ⟨min k.r 1000, min k.g 1000, min k.b 1000⟩

/-- A new record from an answer, before calibration and zone code (R105 to R107, R114). -/
def Node.ofAnswer (w : NodeAnswer) : Node :=
  let good := identityGood w.identity
  let state := if good then blockStateOf w.block else .unused
  let block := if state = .valid then w.block else none
  { identityValid := good
    supplier := if good then wordAt w.identity 0 else 0
    part := if good then wordAt w.identity 2 else 0
    bin := if good then byteAt w.identity 4 else 0
    revision := if good then byteAt w.identity 5 else 0
    block := state
    blockGains := block.map (rgb16At · 2)
    blockCurrents := block.bind blockCurrentsOf
    catalogEntry := none
    source := .generic
    gains := Rgb.all 32768
    currents := Rgb.all 200
    cap := 2047
    zone := 0
    status := NodeStatus.clear
    sent := false
    lastSent := Rgb.all 0
    top := none }

/-! ### Calibration selection (R109, R110) -/

/-- The entry serves the node (R109). -/
def CatalogEntry.serves (e : CatalogEntry) (n : Node) : Bool :=
  e.valid && decide (e.supplier = n.supplier) && decide (e.part = n.part) &&
    (decide (e.bin = n.bin) || decide (e.bin = 255))

/-- The index of the matching entry of a node: the first that serves it, none for an invalid identity (R109). -/
def matchingEntry (k : Catalog) (n : Node) : Option (Fin 16) :=
  if n.identityValid then (List.finRange 16).find? fun i => (k[i]).serves n else none

/-- Calibration under GENERIC (R110). -/
def Node.generic (n : Node) : Node :=
  { n with source := .generic, gains := Rgb.all 32768, currents := Rgb.all 200, cap := 2047 }

/-- Calibration selection (R110). -/
def Node.select (k : Catalog) (n : Node) : Node :=
  let found := matchingEntry k n
  let n := { n with catalogEntry := found.map fun (i : Fin 16) => i.val }
  if n.identityValid = false then n.generic
  else
    match n.block, n.blockGains, found with
    | .valid, some gains, none =>
      { n with source := .self, gains := gains, currents := n.blockCurrents.getD (Rgb.all 200), cap := 4095 }
    | .valid, some gains, some i =>
      if (k[i]).overrideSelf then
        { n with source := .catalog, gains := (k[i]).gains, currents := (k[i]).currents, cap := 4095 }
      else { n with source := .self, gains := gains, currents := n.blockCurrents.getD (k[i]).currents, cap := 4095 }
    | _, _, some i => { n with source := .catalog, gains := (k[i]).gains, currents := (k[i]).currents, cap := 4095 }
    | _, _, none => n.generic

/-! ### Zone codes (R113) -/

/-- The span covers a position of a chain. -/
def ZoneSpan.covers (z : ZoneSpan) (c : Chain) (p : Nat) : Bool :=
  z.valid && decide (z.chain = c) && decide (z.first ≤ p) && decide (p ≤ z.last)

/-- The zone code at a position: the valid span of highest index that covers it, or 0 (R113). -/
def zoneAt (spans : Spans) (c : Chain) (p : Nat) : BitVec 8 :=
  spans.toList.foldl (fun zone z => if z.covers c p then z.zone else zone) 0

/-- Zone code application to the records of one chain (R113). -/
def applyZones (spans : Spans) (c : Chain) (ns : List Node) : List Node :=
  ns.mapIdx fun p n => { n with zone := zoneAt spans c p }

/-- Zone code application to every record of both chains (R113, R123). -/
def Directory.rezone (d : Directory) : Directory :=
  { d with nodesA := applyZones d.spans .a d.nodesA, nodesB := applyZones d.spans .b d.nodesB }

/-- Re-selection over every record of both chains (R111). -/
def Directory.reselect (d : Directory) : Directory :=
  { d with nodesA := d.nodesA.map (Node.select d.catalog), nodesB := d.nodesB.map (Node.select d.catalog) }

/-! ### Enumeration completion (R114) -/

/-- The chain's records are rebuilt from the answers, calibrated and zoned; packed indices follow from the lists (R103;
log 19). -/
def Directory.complete (d : Directory) (c : Chain) (answers : List NodeAnswer) : Directory :=
  d.setNodes c (applyZones d.spans c (answers.map fun w => (Node.ofAnswer w).select d.catalog))

/-! ### Node status (R116, R118) -/

/-- A status byte of good parity (R213). -/
def statusOfByte (b : Byte) : NodeStatus := ⟨b.getLsbD 0, b.getLsbD 1, b.getLsbD 2, b.getLsbD 3⟩

/-- A record absorbs its status byte; a byte of bad parity leaves it as it was (R116). -/
def Node.absorb (n : Node) (b : Byte) : Node := if parityGood b then { n with status := statusOfByte b } else n

/-- The chain's records absorb the status bytes in position order (R116). -/
def absorbAll : List Node → List Byte → List Node
  | n :: ns, b :: bs => n.absorb b :: absorbAll ns bs
  | ns, _ => ns

/-- Some record's overtemp went from no to yes (R118). -/
def gainedOvertemp (old new : List Node) : Bool :=
  (old.zip new).any fun (a, b) => !a.status.overtemp && b.status.overtemp

/-! ### Last-sent values (R82, R119) -/

/-- A latch word records the frame's entries in the chain's records. -/
def latchEntries : List Node → List Entry → List Node
  | n :: ns, e :: es => { n with sent := true, lastSent := e.duty, top := e.top } :: latchEntries ns es
  | ns, _ => ns

/-- The latch word of a dark frame records duties 0 and top layer none (R119). -/
def latchDark (ns : List Node) : List Node := ns.map fun n => { n with sent := true, lastSent := Rgb.all 0, top := none }

end Sys2Proof.Machine
end

