-- ==== Sys2Proof/Machine/Render.lean ====
section
/-! DEFINITION. Machine/Render.lean: the Compositor (04): the snapshot a render captures, and the eight stages that
compute a frame from it. -/

namespace Sys2Proof.Machine

/-! ### The snapshot (R76) -/

/-- The presentation of a layer (R49). -/
def Layer.presentation (l : Layer) : Presentation :=
  if l.sweepActive then
    .sweep l.captured.colour l.captured.opacity l.captured.width l.captured.trail l.captured.reverse
      l.captured.duration l.elapsed
  else .plain l.colour l.opacity

/-- The layer contributes to a render (R17). -/
def Arbiter.visible (a : Arbiter) (i : Slot) : Bool :=
  let l := a.layers[i]
  l.state.playing && (!isScene i || (decide (a.floor ≤ l.level) && a.master && (decide (a.hush = 0) || decide (l.level = 7))))

/-- Applied A (R153). -/
def Ambient.applied (m : Ambient) : Nat := if m.overrideOn then m.overrideValue else m.measured

/-- The packed index of position `p` on a chain (R103). -/
def Directory.packed (d : Directory) : Chain → Nat → Nat
  | .a, p => p
  | .b, p => d.nodesA.length + p

/-- A node record as a snapshot holds it (R76). -/
def Node.snap (n : Node) (position packed : Nat) : SnapNode :=
  { position := position, packed := packed, zone := n.zone, source := n.source, gains := n.gains,
    currents := n.currents, cap := n.cap, status := n.status }

/-- The snapshot of a render of chain `c` that begins now (R76). -/
def State.snapshot (s : State) (c : Chain) : Snapshot :=
  { layers := (List.finRange 12).filterMap fun i =>
      if s.arb.visible i then
        let l := s.arb.layers[i]
        some { slot := i, level := l.level, selector := l.selector, presentation := l.presentation }
      else none
    u := s.arb.u
    a := s.amb.applied
    nodes := (s.dir.nodes c).mapIdx fun p n => n.snap p (s.dir.packed c p)
    zones := s.dir.nodesA.map (·.zone) ++ s.dir.nodesB.map (·.zone)
    budget := (s.port c).budget }

/-! ### Stage 1: coverage (4.2) -/

/-- The selector selects the zone code (R32). -/
def Selector.selects (k : Selector) (zone : BitVec 8) : Bool := zone &&& k.mask = k.value &&& k.mask

/-- The number of selected nodes in the directory (R60). -/
def sweepCount (zones : List (BitVec 8)) (k : Selector) : Nat := zones.countP k.selects

/-- The rank of the selected node of packed index `packed` (R60). -/
def sweepRank (zones : List (BitVec 8)) (k : Selector) (reverse : Bool) (packed : Nat) : Nat :=
  let j := (zones.take packed).countP k.selects
  if reverse then sweepCount zones k - 1 - j else j

/-- The head of a SWEEP at elapsed `e` of `d` over `n` nodes, in 1/256 of a node (R61). -/
def sweepHead (n e d : Nat) : Nat := n * 256 * e / d

/-- The weight of rank `k` with the head at `h`, band width `w` (R61). -/
def sweepWeight (k h w : Nat) (trail : Bool) : Nat :=
  if trail && decide (k * 256 ≤ h) then 255
  else
    let d := if k * 256 ≤ h then h - k * 256 else k * 256 - h
    if w * 256 ≤ d then 0 else 255 - d * 255 / (w * 256)

/-- The colour and the per-node opacity of a layer at a node of the snapshot, or nothing where the layer does not cover
the node (R86). -/
def SnapLayer.covers (l : SnapLayer) (zones : List (BitVec 8)) (n : SnapNode) : Option (Rgb × Nat) :=
  if l.selector.selects n.zone then
    match l.presentation with
    | .plain colour opacity => if 0 < opacity then some (colour, opacity) else none
    | .sweep colour opacity width trail reverse duration elapsed =>
      let count := sweepCount zones l.selector
      let weight := sweepWeight (sweepRank zones l.selector reverse n.packed) (sweepHead count elapsed duration) width trail
      let here := opacity * weight / 255
      if 0 < here then some (colour, here) else none
  else none

/-! ### Stage 2: composition (4.3) -/

/-- Composition order: ascending (level, slot) (R88). -/
def SnapLayer.before (l k : SnapLayer) : Bool :=
  l.level < k.level || (decide (l.level = k.level) && decide (l.slot ≤ k.slot))

/-- The layers of a snapshot in composition order. -/
def Snapshot.ordered (p : Snapshot) : List SnapLayer := p.layers.insertionSort fun l k => l.before k = true

/-- One channel of P after a layer of colour `l` at opacity `α` (R88). -/
def blend (p l α : Nat) : Nat := ((p : Int) + (2 * ((l : Int) - p) * α + 255) / 510).toNat

/-- P and the last covering layer after a layer has been composed. -/
def composeStep (zones : List (BitVec 8)) (n : SnapNode) (acc : Rgb × Option SnapLayer) (l : SnapLayer) :
    Rgb × Option SnapLayer :=
  match l.covers zones n with
  | some (k, α) => (⟨blend acc.1.r k.r α, blend acc.1.g k.g α, blend acc.1.b k.b α⟩, some l)
  | none => acc

/-- The perceptual colour and the top layer of a node (R88, R89). -/
def Snapshot.compose (p : Snapshot) (n : SnapNode) : Rgb × Option SnapLayer :=
  p.ordered.foldl (composeStep p.zones n) (Rgb.all 0, none)

/-! ### Stages 3 to 6 (4.4 to 4.7) -/

/-- Linearisation (R90). -/
def linear (p : Nat) : Nat := (2 * p ^ 2 * 4095 + 65025) / (2 * 65025)

/-- The brightness factor M under a top layer of this level (R91). -/
def brightness (u a level : Nat) : Nat := if 8 ≤ level then Config.one else u * a / Config.one

/-- Brightness (R92). -/
def dim (lin m : Nat) : Nat := lin * m / Config.one

/-- Calibration, limited to the duty cap (R93). -/
def calibrate (lin gain cap : Nat) : Nat := min cap ((2 * lin * gain + 32768) / 65536)

/-- Overtemperature derate (R95). -/
def derate (overtemp : Bool) (d : Nat) : Nat := if overtemp then d / 2 else d

/-- A function of each channel. -/
def Rgb.map₂ (f : Nat → Nat → Nat) (x y : Rgb) : Rgb := ⟨f x.r y.r, f x.g y.g, f x.b y.b⟩

/-- A covered node's duties after stage 6. -/
def Snapshot.coveredDuty (p : Snapshot) (n : SnapNode) (colour : Rgb) (level : Nat) : Rgb :=
  let m := brightness p.u p.a level
  Rgb.map₂ (fun c gain => derate n.status.overtemp (calibrate (dim (linear c) m) gain n.cap)) colour n.gains

/-- The frame entry of a node before the budget: an uncovered node has duties 0 and no top layer (R89). -/
def Snapshot.entry (p : Snapshot) (n : SnapNode) : Entry :=
  match p.compose n with
  | (colour, some l) => ⟨p.coveredDuty n colour l.level, some l.slot⟩
  | (_, none) => ⟨Rgb.all 0, none⟩

/-! ### Stage 7: the chain budget (4.8, 4.9) -/

/-- The currents that count: 0 for an open channel (R96). -/
def SnapNode.drawn (n : SnapNode) : Rgb :=
  ⟨if n.status.openR then 0 else n.currents.r, if n.status.openG then 0 else n.currents.g,
   if n.status.openB then 0 else n.currents.b⟩

/-- Duty times counted current over the three channels (R97). -/
def drawOf (d i : Rgb) : Nat := d.r * i.r + d.g * i.g + d.b * i.b

/-- The chain total T (R97). -/
def Snapshot.total (p : Snapshot) : Nat := (p.nodes.map fun n => drawOf (p.entry n).duty n.drawn).sum

/-- The budget sum Bs (R97). -/
def Snapshot.budgetSum (p : Snapshot) : Nat := p.budget * 10 * 4095

/-- The scale S (R98). -/
def Snapshot.scale (p : Snapshot) : Nat :=
  if p.total ≤ p.budgetSum then 4096 else p.budgetSum * 4096 / p.total

/-- The duties under scale `k`; S of 4096 leaves them unchanged (R98). -/
def scaled (k : Nat) (d : Rgb) : Rgb :=
  if k = 4096 then d else ⟨d.r * k / 4096, d.g * k / 4096, d.b * k / 4096⟩

/-- The frame a render of this snapshot produces (R79, R98). -/
def Snapshot.frame (p : Snapshot) : Frame :=
  let k := p.scale
  { entries := p.nodes.map fun n => let e := p.entry n; ⟨scaled k e.duty, e.top⟩
    total := p.total
    scale := k }

/-! ### Renders (4.1) -/

/-- The copy of a finished frame into the send buffer completes the render: the pending frame is replaced, last S, last
T and the scale mark follow, and BUDGET_LIMIT is set when a run of scaled renders begins (R80, R100, R101). -/
def State.completeRender (s : State) (c : Chain) (f : Frame) : State :=
  let k := s.comp c
  let limited : Bool := f.scale < 4096
  let s := s.setComp c { k with render := none, buffer := none, lastScale := f.scale, lastTotal := f.total,
                                scaleMark := limited }
  (s.setPort c { s.port c with pendingFrame := some f }).raiseIf (limited && !k.scaleMark) .budgetLimit

/-- The port is shifting a frame out of the send buffer (R80). DEDUCED, unsafe: a duty frame shift that was cut off from
the send buffer counts as one (log 14), and the shift of a closing dark frame does not, so that a frame finished during
it is copied at once (R132, R126; log 40). -/
def Port.shiftingDuty (p : Port) : Bool :=
  match p.transfer with
  | some (.duty _ _ _) => true
  | _ => false

/-- A finished frame that waited for the shift to end is copied when it has ended (R80). -/
def State.copyFinished (s : State) (c : Chain) : State :=
  match (s.comp c).buffer with
  | some f => if (s.port c).shiftingDuty then s else s.completeRender c f
  | none => s

end Sys2Proof.Machine
end

