-- ==== Sys2Proof/Machine/PortOps.lean ====
section
/-! DEFINITION. Machine/PortOps.lean: what several commands do with a chain port (06): timing, transfers in progress and
waiting, leaving and entering RUNNING, passes, the return check, and the words on the wire. -/

namespace Sys2Proof.Machine

/-! ### Tick timers -/

/-- A tick-timed event may be taken: the tick that completes its time is the last one taken or the coming one (log
4). -/
def timerDue (left : Nat) : Bool := left ≤ 1

/-- The timer after the event, when the next falls `ticks` ticks after it (log 4): an event taken ahead of its tick
leaves that tick to come. -/
def timerAgain (left ticks : Nat) : Nat := ticks + left

/-! ### Bit clock and period (R128, R129) -/

/-- The applied divisor (R128). -/
def divisorOf (pre sel : Nat) : Nat := min (max ((pre + 1) * 2 ^ (sel + 1)) 4) 512

/-- The applied divisor of a port. -/
def Port.divisor (p : Port) : Nat := divisorOf p.pre p.sel

/-- The bits of a duty frame of `n` nodes, its trailer included (R127). -/
def frameBits (n : Nat) : Nat := 16 + 48 * n + 16 + 8 * n

/-- The effective period of a chain of `n` records, in ms (R129). -/
def Port.effectivePeriod (p : Port) (n : Nat) : Nat :=
  max p.period ((frameBits n * p.divisor + 47999) / 48000 + 1)

/-- The refresh period clamped to 5–40 (R135). -/
def clampPeriod (t : Nat) : Nat := max 5 (min t 40)

/-! ### Transfers (R125) -/

/-- The transfer that a waiting one becomes when it begins; a duty frame shift without a frame is not begun (log 15). -/
def Port.transferFor (p : Port) (n : Nat) : Waiting → Option Transfer
  | .duty true => p.lastLatched.map fun f => .duty f .repeated false
  | .duty false => p.pendingFrame.map fun f => .duty f .pending false
  | .dark => some (.dark n false)
  | .identify => some .request

/-- Transfers that wait begin in the order they fell due: the first that can begin does, and those before it are
dropped. -/
def Port.firstOf (p : Port) (n : Nat) : List Waiting → Option Transfer × List Waiting
  | [] => (none, [])
  | w :: ws =>
    match p.transferFor n w with
    | some t => (some t, ws)
    | none => p.firstOf n ws

/-- With no transfer in progress, the first that waits begins (R125); `n` is the chain's record count. -/
def Port.beginNext (p : Port) (n : Nat) : Port :=
  match p.transfer with
  | some _ => p
  | none => { p with transfer := (p.firstOf n p.waiting).1, waiting := (p.firstOf n p.waiting).2 }

/-- A transfer falls due: it begins at once, or waits for the one in progress (R125). -/
def Port.fallDue (p : Port) (n : Nat) (w : Waiting) : Port := { p with waiting := p.waiting ++ [w] }.beginNext n

/-- The transfer in progress stops or ends. -/
def Port.endTransfer (p : Port) : Port := { p with transfer := none }

/-- A duty frame shift in progress is cut off from the send buffer (log 14). -/
def Transfer.detach : Transfer → Transfer
  | .duty f _ latched => .duty f .detached latched
  | t => t

/-! ### Leaving and entering RUNNING (R83, R130, R137 to R146) -/

/-- The port leaves RUNNING: both places of the send buffer are emptied, latched since RUNNING becomes no, and a duty
frame shift still waiting is not begun (R125, R130). -/
def Port.left (p : Port) : Port :=
  { p with pendingFrame := none, lastLatched := none, latchedSince := false,
           waiting := p.waiting.filter fun w => w ≠ .duty true && w ≠ .duty false,
           transfer := p.transfer.map Transfer.detach }

/-- A render of the chain in flight is abandoned (R83). -/
def Comp.abandoned (k : Comp) : Comp := { k with render := none, buffer := none }

/-- Every exit of chain `c`'s port from RUNNING (R83, R130); the new state is the caller's. -/
def State.leaveRunning (s : State) (c : Chain) : State :=
  if (s.port c).state = .running then (s.setComp c (s.comp c).abandoned).setPort c (s.port c).left else s

/-- The port enters RUNNING: its first period start comes at the next tick (R129, R138, R142, R145, R146). -/
def Port.run (p : Port) : Port := { p with state := .running, periodTimer := 1, latchedSince := false }

/-- A pass of the port stops at once: its transfer ends, its settle ends, and a pass that waits is not begun (R143). -/
def Port.stopPass (p : Port) : Port :=
  { p with
    transfer := match p.transfer with
      | some .request => none
      | some .collect => none
      | t => t
    settle := none
    waiting := p.waiting.filter (· ≠ .identify) }

/-- The ENUM NOTICE of an abandoned pass, with the count of the records held (R143). -/
def State.abandonNotice (s : State) (c : Chain) : Notice := .enumeration c (s.count c) .abandoned

/-- The port begins an identify pass: the request transfer, after a transfer in progress (R139, R140). -/
def State.beginPass (s : State) (c : Chain) : State :=
  s.setPort c ({ s.port c with state := .enumerating }.fallDue (s.count c) .identify)

/-- The port goes OFF, with a closing dark frame unless its chain has no records (R137). -/
def State.closePort (s : State) (c : Chain) : State :=
  let p : Port := { s.port c with state := .off }
  s.setPort c (if s.count c = 0 then p else p.fallDue (s.count c) .dark)

/-- A RUNNING or ENUMERATING port goes OFF as SET CHAIN STATE OFF does; the notice of an abandoned pass is returned
(R137, R143, R146). -/
def State.takeOff (s : State) (c : Chain) : State × List Notice :=
  match (s.port c).state with
  | .running => ((s.leaveRunning c).closePort c, [])
  | .enumerating => ((s.setPort c (s.port c).stopPass).closePort c, [s.abandonNotice c])
  | _ => (s, [])

/-- The port's closing dark frame has ended: no transfer is in progress and no dark frame waits for its turn. -/
def Port.darkDone (p : Port) : Bool := p.transfer.isNone && !p.waiting.contains .dark

/-- After a cancelled sleep, a port whose closing dark frame has ended and whose wake mark is set enters RUNNING as at
wake, its wake mark cleared (R207). A request that takes the port out of OFF before that clears the mark at once (log
21). -/
def Port.resumeIf (p : Port) (sleepPending : Bool) : Port :=
  if p.wakeMark && !sleepPending && p.darkDone then
    let q := { p with wakeMark := false }
    if p.state = .off then q.run else q
  else p

/-- A request takes the port out of OFF: a wake mark left by a cancelled sleep has nothing more to do (log 21). -/
def Port.unmark (p : Port) : Port := { p with wakeMark := false }

/-- A port at wake (R146, R209). -/
def Port.wake (p : Port) : Port := if p.wakeMark then { p with wakeMark := false }.run else p

/-- A port at the entry to DORMANT: a RELEASED port goes OFF, foreign active is cleared (R146, R206). -/
def Port.dormant (p : Port) : Port :=
  { p with foreignActive := false, state := if p.state = .released then .off else p.state }

/-- One tick of a port's timers: the period timer of a RUNNING port, the settle of a pass, the quiet ticks (R129, R140,
R144). DESIGN CHOICE, unsafe: with foreign active set the quiet ticks count also while the port itself drives CKx (log
41). -/
def Port.tick (p : Port) : Port :=
  { p with
    periodTimer := if p.state = .running then p.periodTimer - 1 else p.periodTimer
    settle := p.settle.map (· - 1)
    quietTimer := if p.foreignActive then p.quietTimer - 1 else p.quietTimer }

/-! ### The return check (R133, R134) -/

/-- The frame is correct: the latch marker, then exactly one status byte per node (R133). -/
def trailerCorrect (trailer : List Byte) (n : Nat) : Bool :=
  trailer.take 2 = latchMarker && decide (trailer.length = n + 2)

/-- The runs and LOOP_BROKEN after a judged frame (R134). -/
def Port.judge (p : Port) (correct : Bool) : Port :=
  if p.loopBroken then
    if correct then
      if p.correctRun < 2 then { p with correctRun := p.correctRun + 1 }
      else { p with correctRun := 3, loopBroken := false, failingRun := 0 }
    else { p with correctRun := 0 }
  else if correct then { p with failingRun := 0 }
  else if p.failingRun < 2 then { p with failingRun := p.failingRun + 1 }
  else { p with failingRun := 3, loopBroken := true, loopBreaks := countUp p.loopBreaks, correctRun := 0 }

/-- The number of nodes of a frame being shifted, and whether its latch word is out. -/
def Transfer.shift? : Transfer → Option (Nat × Bool)
  | .duty f _ latched => some (f.entries.length, latched)
  | .dark n latched => some (n, latched)
  | _ => none

/-! ### The words on the wire (R126, R213) -/

/-- The node words a duty frame or dark frame carries, in position order (R126, R213). -/
def Transfer.nodeWords : Transfer → List (BitVec 48)
  | .duty f _ _ => f.entries.map fun e => nodeWord e.duty.r e.duty.g e.duty.b
  | .dark n _ => List.replicate n (nodeWord 0 0 0)
  | _ => []

/-- The 16-bit words around them: start and latch word of a frame, start and identify word of a request transfer, start
and collect word of a collect transfer (R126, R140). -/
def Transfer.words : Transfer → BitVec 16 × BitVec 16
  | .duty _ _ _ => (startWord, latchWord)
  | .dark _ _ => (startWord, latchWord)
  | .request => (startWord, identifyWord)
  | .collect => (startWord, collectWord)

end Sys2Proof.Machine
end

