-- ==== Sys2Proof/Machine/Ambient.lean ====
section
/-! DEFINITION. Machine/Ambient.lean: the Ambient Unit (07): the dimming curve, LUX_EDGE, GATE_WINDOW_END, SET_CURVE,
SET_AMBIENT_OVERRIDE_ON, SET_AMBIENT_OVERRIDE_OFF and GET_AMBIENT. -/

namespace Sys2Proof.Machine

/-! ### The curve (R152) -/

/-- The value between two points at level `x`; the floor is toward minus infinity also on a falling section (R152). -/
def section_ (p q : CurvePoint) (x : Nat) : Nat :=
  ((p.factor : Int) + (((q.factor : Int) - p.factor) * ((x : Int) - p.count)) / ((q.count : Int) - p.count)).toNat

/-- The curve's value at a level (R152). -/
def Curve.value (c : Curve) (x : Nat) : Nat :=
  if x < c.p0.count then c.p0.factor
  else if x < c.p1.count then section_ c.p0 c.p1 x
  else if x < c.p2.count then section_ c.p1 c.p2 x
  else if x < c.p3.count then section_ c.p2 c.p3 x
  else if x < c.p4.count then section_ c.p3 c.p4 x
  else c.p4.factor

/-! ### Windows (R148 to R151) -/

/-- Ls after a window of count `n` (R150). -/
def smooth (seeded : Bool) (ls n : Nat) : Nat := if seeded then (7 * ls + n + 4) / 8 else n

/-- Ls and measured A are updated from a window of count `n` (R150). -/
def Ambient.update (m : Ambient) (n : Nat) : Ambient :=
  let ls := smooth m.seeded m.ls n
  { m with ls := ls, seeded := true, measured := m.curve.value ls }

/-- What a window end makes of its count (R151); the flag says that the unit became stale. -/
def Ambient.judge (m : Ambient) (n : Nat) : Ambient × Bool :=
  if m.stale then
    if n = 0 then (m, false)
    else (({ m with stale := false, staleCount := 0, seeded := false } : Ambient).update n, false)
  else if n ≠ 0 then (({ m with staleCount := 0 } : Ambient).update n, false)
  else if m.staleCount < 9 then (({ m with staleCount := m.staleCount + 1 } : Ambient).update n, false)
  else ({ m with staleCount := 10, stale := true }, true)

/-- The window in progress is discarded (R149). -/
def Ambient.discard (m : Ambient) : Ambient := { m with windowOpen := false, counter := 0, windowTimer := 0 }

/-- The unit restarts its measuring as after a reset; the working curve is kept (R155). -/
def Ambient.restart (m : Ambient) : Ambient := { Ambient.reset with curve := m.curve, measured := m.curve.value 0 }

/-- One tick of the unit: the first tick opens a window, later ones count in it (R149); no window opens while a sleep is
pending (R148). -/
def Ambient.tick (m : Ambient) (sleepPending : Bool) : Ambient :=
  if m.windowOpen then { m with windowTimer := m.windowTimer - 1 }
  else if sleepPending then m
  else { m with windowOpen := true, counter := 0, windowTimer := Config.windowTicks }

/-- Ticks elapsed in the window in progress, 0–99 (R158). -/
def Ambient.ticksElapsed (m : Ambient) : Nat :=
  if m.windowOpen then min (Config.windowTicks - m.windowTimer) (Config.windowTicks - 1) else 0

/-- LUX_EDGE: a rising edge counts while a window is open, saturating at 65535 (R148). -/
def execLuxEdge (s : State) : Result :=
  .next (if s.awake && s.amb.windowOpen then { s with amb := { s.amb with counter := countUp s.amb.counter } } else s)

/-- GATE_WINDOW_END: the counter's value is taken as N and judged, SENSOR_STALE is set at the entry to stale, and the
next window begins with the counter at 0 (R149 to R151). -/
def execGateWindowEnd (s : State) : Result :=
  .next
    (if s.awake && s.amb.windowOpen && timerDue s.amb.windowTimer then
      let (m, becameStale) := s.amb.judge s.amb.counter
      let m := { m with lastCount := s.amb.counter, counter := 0,
                        windowTimer := timerAgain s.amb.windowTimer Config.windowTicks }
      (({ s with amb := m } : State).raiseIf becameStale .sensorStale).settle
    else s)

/-! ### Requests (7.6) -/

/-- The owner of SET CURVE (R156). -/
def setCurve (p : List Byte) (s : State) : Answer :=
  let k := curveOfBytes p
  if k.ascending = false then .plain s .invalid
  else
    let m := s.amb
    let measured := if m.stale then m.measured else k.value (if m.seeded then m.ls else 0)
    ⟨{ s with amb := { m with curve := k, measured := measured } }, .ok, k.points.flatMap fun x => be16 x.factor⟩

/-- SET_CURVE (R156). -/
def execSetCurve (tag : Byte) (payload : List Byte) (s : State) : Result :=
  .next (s.serve ⟨0x50, tag, payload⟩ true (setCurve payload))

/-- The owner of SET AMBIENT OVERRIDE (R157). -/
def setAmbientOverride (p : List Byte) (s : State) : Answer :=
  let m := s.amb
  match boolCode? (byteAt p 0) with
  | some true =>
    let value := min (wordAt p 1) Config.one
    ⟨{ s with amb := { m with overrideOn := true, overrideValue := value } }, .ok, be16 value⟩
  | some false =>
    if m.overrideOn then ⟨{ s with amb := { m with overrideOn := false } }, .ok, be16 m.measured⟩
    else .plain s .already
  | none => .plain s .invalid

/-- SET_AMBIENT_OVERRIDE_ON: SET AMBIENT OVERRIDE whose mode is not OFF (R157). -/
def execSetAmbientOverrideOn (tag : Byte) (payload : List Byte) (s : State) : Result :=
  .next (s.serve ⟨0x51, tag, payload⟩ (variant payload 3 fun p => byteAt p 0 ≠ 0) (setAmbientOverride payload))

/-- SET_AMBIENT_OVERRIDE_OFF: SET AMBIENT OVERRIDE whose mode is not ON (R157). -/
def execSetAmbientOverrideOff (tag : Byte) (payload : List Byte) (s : State) : Result :=
  .next (s.serve ⟨0x51, tag, payload⟩ (variant payload 3 fun p => byteAt p 0 ≠ 1) (setAmbientOverride payload))

/-- The data of a GET AMBIENT reply (R158, 11.6). -/
def ambientData (m : Ambient) : List Byte :=
  be16 (if m.windowOpen then m.counter else 0) ++ be8 m.ticksElapsed ++ be16 m.lastCount ++ be8 (ofBool m.seeded) ++
    be16 (if m.seeded then m.ls else 0) ++ be8 (ofBool m.stale) ++ be8 m.staleCount ++ be16 m.measured ++
    be8 (ofBool m.overrideOn) ++ be16 m.overrideValue ++ be16 m.applied ++ curveToBytes m.curve

/-- GET_AMBIENT (R158). -/
def execGetAmbient (tag : Byte) (payload : List Byte) (s : State) : Result :=
  .next (s.serve ⟨0x52, tag, payload⟩ true fun t => ⟨t, .ok, ambientData t.amb⟩)

end Sys2Proof.Machine
end

