-- ==== Sys2Proof/Machine/ChainEvents.lean ====
section
/-! DEFINITION. Machine/ChainEvents.lean: what happens on the chain wires (04, 05, 06): PERIOD_START, RENDER_COMPLETE,
LATCH_POINT, SHIFT_END, IDENTIFY_REQUEST_END, SETTLE_END, COLLECT_END, COLLECT_MARKER_TIMEOUT, FOREIGN_ACTIVITY and
FOREIGN_QUIET. An event that the port's state rules out changes nothing (log 2). -/

namespace Sys2Proof.Machine

/-- Write a chain's port through a function of it. -/
def State.onPort (s : State) (c : Chain) (f : Port → Port) : State := s.setPort c (f (s.port c))

/-! ### Period starts and renders -/

/-- A RUNNING port's period start is due (R129). -/
def State.periodDue (s : State) (c : Chain) : Bool :=
  s.awake && decide ((s.port c).state = .running) && timerDue (s.port c).periodTimer

/-- The period timer is set a whole effective period ahead, computed now (R129). -/
def State.nextPeriod (s : State) (c : Chain) : State :=
  s.onPort c fun p => { p with periodTimer := timerAgain p.periodTimer (p.effectivePeriod (s.count c)) }

/-- A period start that finds no render in flight: the pending frame, if any, is shifted, and a render begins with its
snapshot of this moment (R75, R81). -/
def State.promptPeriod (s : State) (c : Chain) : State :=
  let t := s.onPort c fun p => if p.pendingFrame.isSome then p.fallDue (s.count c) (.duty false) else p
  t.setComp c { t.comp c with render := some (t.snapshot c), lateMark := false }

/-- A period start that finds a render in flight: the frame latched last is shifted again and counted if a latch word
has been sent since RUNNING was entered; RENDER_LATE is set when a run of late periods begins (R81). -/
def State.latePeriod (s : State) (c : Chain) : State :=
  let t := s.onPort c fun p =>
    if p.latchedSince then { p with repeatedFrames := countUp p.repeatedFrames }.fallDue (s.count c) (.duty true) else p
  (t.setComp c { t.comp c with lateMark := true }).raiseIf (!(t.comp c).lateMark) .renderLate

/-- The period start of a chain with records (R81), or of one with none, which keeps its timer alone (R129). DEDUCED,
unsafe: with no records the late mark stays as it is (log 38). -/
def State.periodStart (s : State) (c : Chain) : State :=
  if s.count c = 0 then s
  else if (s.comp c).render.isSome then s.latePeriod c
  else s.promptPeriod c

/-- PERIOD_START (R81, R75, R129, R132). -/
def execPeriodStart (chain : Chain) (s : State) : Result :=
  .next (if s.periodDue chain then ((s.nextPeriod chain).periodStart chain).settle else s)

/-- The frame of a render is finished: it is copied into the send buffer at once, or waits for a shift out of the send
buffer to end (R80). -/
def State.finishRender (s : State) (c : Chain) (f : Frame) : State :=
  if (s.port c).shiftingDuty then s.setComp c { s.comp c with buffer := some f } else s.completeRender c f

/-- RENDER_COMPLETE: the frame of the render in flight, computed from its snapshot, is finished (R79, R80). -/
def execRenderComplete (chain : Chain) (s : State) : Result :=
  .next
    (match (s.comp chain).render, (s.comp chain).buffer with
     | some p, none => if s.awake then (s.finishRender chain p.frame).settle else s
     | _, _ => s)

/-! ### Shifts -/

/-- The latch of a duty frame (R132, R82). -/
def State.latchDuty (s : State) (c : Chain) (f : Frame) (o : Origin) : State :=
  let t := { s with dir := s.dir.setNodes c (latchEntries (s.dir.nodes c) f.entries) }
  t.onPort c fun p =>
    match o with
    | .pending => { p with pendingFrame := none, lastLatched := some f, latchedSince := true,
                           transfer := some (.duty f o true) }
    | .repeated => { p with latchedSince := true, transfer := some (.duty f o true) }
    | .detached => { p with transfer := some (.duty f o true) }

/-- The latch of a dark frame (R132, R119). DEDUCED, unsafe: it touches neither place of the send buffer and leaves latched
since RUNNING as it is, also in a port that is RUNNING again by then (log 14, log 35). -/
def State.latchDarkFrame (s : State) (c : Chain) (n : Nat) : State :=
  let t := { s with dir := s.dir.setNodes c (latchDark (s.dir.nodes c)) }
  t.onPort c fun p => { p with transfer := some (.dark n true) }

/-- LATCH_POINT: the port has clocked the latch word of its frame out (R132). -/
def execLatchPoint (chain : Chain) (s : State) : Result :=
  .next
    (if s.awake then
      match (s.port chain).transfer with
      | some (.duty f o false) => s.latchDuty chain f o
      | some (.dark n false) => s.latchDarkFrame chain n
      | _ => s
    else s)

/-- A handed-over trailer is absorbed: the chain's records take their status bytes, and NODE_OVERTEMP is set when a
record's overtemp goes from no to yes (R116, R118). -/
def State.absorb (s : State) (c : Chain) (bytes : List Byte) : State :=
  let old := s.dir.nodes c
  let new := absorbAll old bytes
  ({ s with dir := s.dir.setNodes c new }).raiseIf (gainedOvertemp old new) .nodeOvertemp

/-- The trailer of a shift over `n` nodes is judged: the runs and LOOP_BROKEN, LOOP_BREAK_x at the entry, and the
hand-over of a correct frame unless the chain stays broken (R133, R134). -/
def State.judgeTrailer (s : State) (c : Chain) (trailer : List Byte) (n : Nat) : State :=
  let before := s.port c
  let correct := trailerCorrect trailer n
  let after := before.judge correct
  let t := (s.setPort c after).raiseIf (after.loopBroken && !before.loopBroken) (loopBreakFlag c)
  if correct && !after.loopBroken then t.absorb c (trailer.drop 2) else t

/-- A transfer of the port has ended: a finished frame is copied (R80), a port of a cancelled sleep whose closing dark
frame this was resumes (R207), and the next transfer that waits begins (R125). -/
def State.afterTransfer (s : State) (c : Chain) : State :=
  let t := (s.onPort c Port.endTransfer).copyFinished c
  t.onPort c fun p => (p.resumeIf t.power.sleepPending).beginNext (t.count c)

/-- SHIFT_END: the last trailer clock of a frame whose latch word is out (R132, R133). -/
def execShiftEnd (chain : Chain) (trailer : List Byte) (s : State) : Result :=
  .next
    (match (s.port chain).transfer.bind Transfer.shift? with
     | some (n, true) => if s.awake then ((s.judgeTrailer chain trailer n).afterTransfer chain).settle else s
     | _ => s)

/-! ### The identify pass -/

/-- IDENTIFY_REQUEST_END: the identify word is out, and the settle of two ticks begins (R140). -/
def execIdentifyRequestEnd (chain : Chain) (s : State) : Result :=
  .next
    (if s.awake && decide ((s.port chain).transfer = some .request) then
      s.onPort chain fun p => { p with transfer := none, settle := some Config.settleTicks }
    else s)

/-- SETTLE_END: after two ticks the collect transfer begins (R140). -/
def execSettleEnd (chain : Chain) (s : State) : Result :=
  .next
    (if s.awake && (s.port chain).transfer.isNone && (s.port chain).settle.any timerDue then
      s.onPort chain fun p => { p with transfer := some .collect, settle := none }
    else s)

/-- A pass has ended COMPLETE or OVERLONG: the Directory takes the answers, LOOP_BROKEN and both runs are cleared, the
ENUM NOTICE is queued, and the port enters RUNNING (R142, R114, R134). -/
def State.completePass (s : State) (c : Chain) (answers : List NodeAnswer) (outcome : PassOutcome) : State :=
  let t := { s with dir := s.dir.complete c answers }
  let t := t.onPort c fun p =>
    (({ p with loopBroken := false, failingRun := 0, correctRun := 0 } : Port).endTransfer.run).beginNext answers.length
  t.queueAll [.enumeration c answers.length outcome]

/-- COLLECT_END: the byte that ends the pass has been read (R141, R142). -/
def execCollectEnd (chain : Chain) (returned : List Byte) (s : State) : Result :=
  .next
    (if s.awake && decide ((s.port chain).transfer = some .collect) then
      (s.completePass chain (readAnswers returned Config.maxNodes 0).1 (readAnswers returned Config.maxNodes 0).2).settle
    else s)

/-- COLLECT_MARKER_TIMEOUT: no collect marker within 160 clocks: the pass is ABANDONED, and the port enters RUNNING with
the records it held (R141, R143). -/
def execCollectMarkerTimeout (chain : Chain) (s : State) : Result :=
  .next
    (if s.awake && decide ((s.port chain).transfer = some .collect) then
      ((s.onPort chain fun p => p.stopPass.run.beginNext (s.count chain)).queueAll [s.abandonNotice chain]).settle
    else s)

/-! ### Foreign drive (6.8) -/

/-- The return state of a port that is released (R144). -/
def releaseReturn : PortState → PortState
  | .off => .off
  | _ => .running

/-- A port in OFF, ENUMERATING or RUNNING enters RELEASED: a pass is abandoned with its ENUM NOTICE, RUNNING is left by
R83, FOREIGN_x is set, and the wake mark is cleared (R144, R143, R146). -/
def State.release (s : State) (c : Chain) : State :=
  let was := (s.port c).state
  let notices := if was = .enumerating then [s.abandonNotice c] else []
  let t := (s.leaveRunning c).onPort c fun p =>
    { p.stopPass with state := .released, returnState := releaseReturn was, wakeMark := false }
  (t.queueAll notices).raise (foreignFlag c)

/-- FOREIGN_ACTIVITY: three or more transitions of CKx within one tick while the port drives nothing (R144). -/
def execForeignActivity (chain : Chain) (s : State) : Result :=
  .next
    (if s.awake && (s.port chain).transfer.isNone then
      let t := s.onPort chain fun p => { p with foreignActive := true, quietTimer := Config.quietTicks }
      (if (s.port chain).state = .released then t else t.release chain).settle
    else s)

/-- FOREIGN_QUIET: ten consecutive ticks without a transition clear foreign active (R144). -/
def execForeignQuiet (chain : Chain) (s : State) : Result :=
  .next
    (if s.awake && (s.port chain).foreignActive && timerDue (s.port chain).quietTimer then
      s.onPort chain fun p => { p with foreignActive := false }
    else s)

end Sys2Proof.Machine
end

