-- ==== Sys2Proof/Machine/CueRequests.lean ====
section
/-! DEFINITION. Machine/CueRequests.lean: the requests of the Cue Pool and the working library (02): LOAD_CUES,
READ_CUES, PUT_SCENE, PUT_SCENE_REMOVE and GET_SCENE. -/

namespace Sys2Proof.Machine

/-! ### The pool -/

/-- Index `i` belongs to the layer's ring in the pool (R33). -/
def Layer.holds (l : Layer) (i : Nat) : Bool :=
  !l.fallback && decide (l.ringBase ≤ i) && decide (i < l.ringBase + l.ringLength)

/-- The engine owns the record at `i`: it is ready and lies in the STREAM ring of a layer that is not IDLE (R38, check
4). -/
def State.owned (s : State) (i : Nat) : Bool :=
  (s.pool.read i).ready &&
    (List.finRange 12).any fun k =>
      let l := s.arb.layers[k]
      decide (l.state ≠ .idle) && decide (l.ringMode = .stream) && l.holds i

/-- Records read from their bytes; none when one has a kind outside the six (R38, check 3). -/
def cuesOf (bytes : List (List Byte)) : Option (List Cue) := bytes.mapM cueOfBytes

/-- The owner of LOAD CUES (R38, R39). -/
def loadCues (p : List Byte) (s : State) : Answer :=
  match recordCount? p with
  | none => .plain s .length
  | some n =>
    let i := wordAt p 0
    if Config.poolSize ≤ i ∨ Config.poolSize < i + n then .plain s .invalid
    else
      match cuesOf (recordBytes p n) with
      | none => .plain s .invalid
      | some cues =>
        if (List.range n).any fun k => s.owned (i + k) then .plain s .busy
        else .plain { s with pool := s.pool.writeAll i cues } .ok

/-- LOAD_CUES (R38, R39). -/
def execLoadCues (tag : Byte) (payload : List Byte) (s : State) : Result :=
  .next (s.serve ⟨0x20, tag, payload⟩ true (loadCues payload))

/-- The owner of READ CUES (R41). -/
def readCues (p : List Byte) (s : State) : Answer :=
  let i := wordAt p 0
  let n := byteAt p 2
  if n = 0 ∨ Config.maxRecords < n ∨ Config.poolSize ≤ i ∨ Config.poolSize < i + n then .plain s .invalid
  else ⟨s, .ok, (List.range n).flatMap fun k => cueToBytes (s.pool.read (i + k))⟩

/-- READ_CUES (R41). -/
def execReadCues (tag : Byte) (payload : List Byte) (s : State) : Result :=
  .next (s.serve ⟨0x21, tag, payload⟩ true (readCues payload))

/-! ### The working library -/

/-- Add or replace a scene record; the library is held in ascending order of id (R46). -/
def insertScene (library : List Scene) (c : Scene) : List Scene :=
  match library with
  | [] => [c]
  | d :: rest =>
    if c.id < d.id then c :: d :: rest
    else if c.id = d.id then c :: rest
    else d :: insertScene rest c

/-- PUT SCENE with a length of 1 or more (R46). -/
def State.addScene (s : State) (p : List Byte) (id length : Nat) : Answer :=
  match boolCode? (byteAt p 6) with
  | none => .plain s .invalid
  | some exclusive =>
    let c : Scene := { id := id, base := wordAt p 1, length := length, level := byteAt p 5, exclusive := exclusive }
    if c.inBounds = false then .plain s .invalid
    else if (findScene s.library id).isNone ∧ Config.maxScenes ≤ s.library.length then .plain s .busy
    else .plain { s with library := insertScene s.library c } .ok

/-- PUT SCENE with length 0 (R47). -/
def State.removeScene (s : State) (id : Nat) : Answer :=
  if (findScene s.library id).isNone then .plain s .already
  else .plain { s with library := s.library.filter (·.id ≠ id) } .ok

/-- The owner of PUT SCENE (R46, R47). -/
def putScene (p : List Byte) (s : State) : Answer :=
  if byteAt p 0 = 0 then .plain s .invalid
  else if wordAt p 3 = 0 then s.removeScene (byteAt p 0)
  else s.addScene p (byteAt p 0) (wordAt p 3)

/-- PUT_SCENE: PUT SCENE with a length of 1 or more (R46). -/
def execPutScene (tag : Byte) (payload : List Byte) (s : State) : Result :=
  .next (s.serve ⟨0x22, tag, payload⟩ (variant payload 7 fun p => wordAt p 3 ≠ 0) (putScene payload))

/-- PUT_SCENE_REMOVE: PUT SCENE with length 0 (R47). -/
def execPutSceneRemove (tag : Byte) (payload : List Byte) (s : State) : Result :=
  .next (s.serve ⟨0x22, tag, payload⟩ (variant payload 7 fun p => wordAt p 3 = 0) (putScene payload))

/-- The data of a scene record (11.6). -/
def sceneData (c : Scene) : List Byte :=
  be8 c.id ++ be16 c.base ++ be16 c.length ++ be8 c.level ++ be8 (ofBool c.exclusive)

/-- The owner of GET SCENE (R48). -/
def getScene (p : List Byte) (s : State) : Answer :=
  if byteAt p 0 = 0 then ⟨s, .ok, be8 s.library.length ++ s.library.flatMap fun c => be8 c.id⟩
  else
    match findScene s.library (byteAt p 0) with
    | some c => ⟨s, .ok, sceneData c⟩
    | none => .plain s .notFound

/-- GET_SCENE (R48). -/
def execGetScene (tag : Byte) (payload : List Byte) (s : State) : Result :=
  .next (s.serve ⟨0x23, tag, payload⟩ true (getScene payload))

end Sys2Proof.Machine
end

