-- ==== Sys2Proof/Machine/DirectoryRequests.lean ====
section
/-! DEFINITION. Machine/DirectoryRequests.lean: the requests of the Node Directory (05): GET_NODE, PUT_CATALOG,
GET_CATALOG, PUT_ZONE_SPAN and LOCK_CATALOG. -/

namespace Sys2Proof.Machine

/-- The status byte of GET NODE: the four conditions, and status held while the chain is LOOP_BROKEN (R117, R120). -/
def statusBits (k : NodeStatus) (held : Bool) : Nat :=
  ofBool k.overtemp + 2 * ofBool k.openR + 4 * ofBool k.openG + 8 * ofBool k.openB + 16 * ofBool held

/-- The data of a GET NODE reply (R120, 11.6). -/
def nodeData (c : Chain) (position packed : Nat) (n : Node) (held : Bool) : List Byte :=
  be8 (chainCode c) ++ be8 position ++ be8 packed ++ [n.zone] ++ be8 (ofBool n.identityValid) ++ be16 n.supplier ++
    be16 n.part ++ be8 n.bin ++ be8 n.revision ++ be8 (blockStateCode n.block) ++ be8 (orNone n.catalogEntry) ++
    be8 (calSourceCode n.source) ++ rgb16 n.gains ++ rgb16 n.currents ++ be16 n.cap ++
    be8 (statusBits n.status held) ++ be8 (ofBool n.sent) ++ rgb16 n.lastSent ++
    be8 (orNone (n.top.map fun i => i.val))

/-- The owner of GET NODE (R120). -/
def getNode (p : List Byte) (s : State) : Answer :=
  match chainCode? (byteAt p 0) with
  | none => .plain s .invalid
  | some c =>
    let position := byteAt p 1
    if 127 < position then .plain s .invalid
    else
      match (s.dir.nodes c)[position]? with
      | some n => ⟨s, .ok, nodeData c position (s.dir.packed c position) n (s.port c).loopBroken⟩
      | none => .plain s .notFound

/-- GET_NODE (R120). -/
def execGetNode (tag : Byte) (payload : List Byte) (s : State) : Result :=
  .next (s.serve ⟨0x31, tag, payload⟩ true (getNode payload))

/-- The owner of PUT CATALOG (R121): the entry is written and every record of both chains is selected anew (R111). -/
def putCatalog (p : List Byte) (s : State) : Answer :=
  if h : byteAt p 0 < 16 then
    match catalogOfBytes p with
    | none => .plain s .invalid
    | some e =>
      if s.dir.locked then .plain s .locked
      else .plain { s with dir := { s.dir with catalog := s.dir.catalog.set (byteAt p 0) e }.reselect } .ok
  else .plain s .invalid

/-- PUT_CATALOG (R121). -/
def execPutCatalog (tag : Byte) (payload : List Byte) (s : State) : Result :=
  .next (s.serve ⟨0x32, tag, payload⟩ true (putCatalog payload))

/-- The owner of GET CATALOG (R122). -/
def getCatalog (p : List Byte) (s : State) : Answer :=
  match s.dir.catalog[byteAt p 0]? with
  | some e => ⟨s, .ok, be8 (byteAt p 0) ++ catalogToBytes e⟩
  | none => .plain s .invalid

/-- GET_CATALOG (R122). -/
def execGetCatalog (tag : Byte) (payload : List Byte) (s : State) : Result :=
  .next (s.serve ⟨0x33, tag, payload⟩ true (getCatalog payload))

/-- The owner of PUT ZONE SPAN (R123): the span is written and zone codes are applied to every record of both chains
(R113). -/
def putZoneSpan (p : List Byte) (s : State) : Answer :=
  if h : byteAt p 0 < 32 then
    match spanOfBytes p with
    | none => .plain s .invalid
    | some z =>
      if s.dir.locked then .plain s .locked
      else .plain { s with dir := { s.dir with spans := s.dir.spans.set (byteAt p 0) z }.rezone } .ok
  else .plain s .invalid

/-- PUT_ZONE_SPAN (R123). -/
def execPutZoneSpan (tag : Byte) (payload : List Byte) (s : State) : Result :=
  .next (s.serve ⟨0x34, tag, payload⟩ true (putZoneSpan payload))

/-- The owner of LOCK CATALOG (R124). -/
def lockCatalog (s : State) : Answer :=
  if s.dir.locked then .plain s .already else .plain { s with dir := { s.dir with locked := true } } .ok

/-- LOCK_CATALOG (R124). -/
def execLockCatalog (tag : Byte) (payload : List Byte) (s : State) : Result :=
  .next (s.serve ⟨0x35, tag, payload⟩ true lockCatalog)

end Sys2Proof.Machine
end

