-- ==== Sys2Proof/Machine/LayerRequests.lean ====
section
/-! DEFINITION. Machine/LayerRequests.lean: the requests of the Layer Arbiter (01): START_LAYER, START_SCENE,
STOP_LAYER_IMMEDIATE, STOP_LAYER_AT_END, SET_LEVEL, GET_LAYER, SET_MASTER, HUSH, SET_POLICY, RAISE_ALERT,
CLEAR_ALERT_AT_END and CLEAR_ALERT_IMMEDIATE. -/

namespace Sys2Proof.Machine

/-- The level lies in the range of the slot's kind, for the slots a request may give a level (R1, R10, R15). -/
def levelFits (i : Slot) (level : Nat) : Bool :=
  if isScene i then level ≤ 7 else 8 ≤ level && level ≤ 14

/-- Under CANCEL a scene slot's nonzero level below `bound` is refused BELOW_FLOOR (R10, R12, R15). -/
def State.belowFloor (s : State) (i : Slot) (level bound : Nat) : Bool :=
  decide (s.arb.policy = .cancel) && isScene i && decide (level ≠ 0) && decide (level < bound)

/-! ### Starts -/

/-- The ring a START LAYER names, once its ring fields pass check 3 of R10. -/
def startFields (p : List Byte) (exclusive : Bool) : Option RingStart :=
  (ringMode? (byteAt p 7)).bind fun mode =>
    let base := wordAt p 3
    let length := wordAt p 5
    let offset := byteAt p 8
    if length = 0 ∨ Config.maxRing < length ∨ Config.poolSize < base + length ∨ length ≤ offset then none
    else
      some { level := byteAt p 1, exclusive := exclusive, sceneId := 0, base := base, length := length, mode := mode,
             offset := offset, fallback := false }

/-- The owner of START LAYER: the exclusive field first (R210), then the checks of R10 in their order. -/
def startLayer (p : List Byte) (s : State) : Answer :=
  match boolCode? (byteAt p 2), slotOf (byteAt p 0) with
  | some exclusive, some i =>
    if i = egressSlot then .plain s .invalid
    else if levelFits i (byteAt p 1) = false then .plain s .invalid
    else
      match startFields p exclusive with
      | none => .plain s .invalid
      | some r =>
        if (s.layer i).state ≠ .idle then .plain s .busy
        else if s.overlaps (fun _ => true) r.base r.length r.mode then .plain s .overlap
        else if s.belowFloor i r.level s.arb.floor then .plain s .belowFloor
        else .plain (s.startRing i r) .ok
  | _, _ => .plain s .invalid

/-- START_LAYER (R10, R11). -/
def execStartLayer (tag : Byte) (payload : List Byte) (s : State) : Result :=
  .next (s.serve ⟨0x10, tag, payload⟩ true (startLayer payload))

/-- The level a START SCENE or a trigger asks for: DEFAULT is the scene's own (R1, R12). -/
def Scene.resolve (c : Scene) (level : Nat) : Nat := if level = levelDefault then c.level else level

/-- The owner of START SCENE (R12). -/
def startScene (p : List Byte) (s : State) : Answer :=
  match slotOf (byteAt p 0) with
  | none => .plain s .invalid
  | some i =>
    if isScene i = false then .plain s .invalid
    else if byteAt p 1 = 0 then .plain s .invalid
    else if 7 < byteAt p 2 ∧ byteAt p 2 ≠ levelDefault then .plain s .invalid
    else
      match findScene s.library (byteAt p 1) with
      | none => .plain s .notFound
      | some c =>
        let level := c.resolve (byteAt p 2)
        if (s.layer i).state ≠ .idle then .plain s .busy
        else if s.overlaps (fun _ => true) c.base c.length .resident then .plain s .overlap
        else if s.belowFloor i level s.arb.floor then .plain s .belowFloor
        else .plain (s.startRing i (c.ring level c.exclusive)) .ok

/-- START_SCENE (R12). -/
def execStartScene (tag : Byte) (payload : List Byte) (s : State) : Result :=
  .next (s.serve ⟨0x11, tag, payload⟩ true (startScene payload))

/-! ### Stops -/

/-- Finishing is set (R14, R22). -/
def State.finish (s : State) (i : Slot) : State := s.setLayer i { s.layer i with finishing := true }

/-- STOP LAYER at end on a scene slot (R14). -/
def State.stopAtEnd (s : State) (i : Slot) : Answer :=
  if (s.layer i).state = .idle ∨ (s.layer i).finishing = true then .plain s .already else .plain (s.finish i) .ok

/-- STOP LAYER immediate on a scene slot (R13). -/
def State.stopNow (s : State) (i : Slot) : Answer :=
  if (s.layer i).state = .idle then .plain s .already else .plain (s.stopSlot i .stopped) .ok

/-- The owner of STOP LAYER (R13, R14). -/
def stopLayer (p : List Byte) (s : State) : Answer :=
  match slotOf (byteAt p 0), endMode? (byteAt p 1) with
  | some i, some atEnd =>
    if isScene i = false then .plain s .invalid
    else if atEnd then s.stopAtEnd i
    else s.stopNow i
  | _, _ => .plain s .invalid

/-- STOP_LAYER_IMMEDIATE: STOP LAYER whose mode is not AT_END (R13). -/
def execStopLayerImmediate (tag : Byte) (payload : List Byte) (s : State) : Result :=
  .next (s.serve ⟨0x12, tag, payload⟩ (variant payload 2 fun p => byteAt p 1 ≠ 1) (stopLayer payload))

/-- STOP_LAYER_AT_END: STOP LAYER whose mode is not IMMEDIATE (R14). -/
def execStopLayerAtEnd (tag : Byte) (payload : List Byte) (s : State) : Result :=
  .next (s.serve ⟨0x12, tag, payload⟩ (variant payload 2 fun p => byteAt p 1 ≠ 0) (stopLayer payload))

/-! ### Levels -/

/-- The highest level among the other exclusive RUNNING or STARVED layers (R15). -/
def State.floorWithout (s : State) (i : Slot) : Nat :=
  highestLevel s.arb.layers fun j l => decide (j ≠ i) && l.state.playing

/-- A layer given a level (R15): level 0 parks a scene layer that is not IDLE, a nonzero level unparks it. -/
def Layer.withLevel (l : Layer) (i : Slot) (level : Nat) : Layer :=
  { l with
    level := level
    state :=
      if l.state = .idle then .idle
      else if isScene i && decide (level = 0) then .parked
      else if l.state = .parked then .running
      else l.state }

/-- The owner of SET LEVEL (R15). -/
def setLevel (p : List Byte) (s : State) : Answer :=
  let level := byteAt p 1
  match slotOf (byteAt p 0) with
  | none => .plain s .invalid
  | some i =>
    if i = egressSlot then .plain s .invalid
    else if levelFits i level = false then .plain s .invalid
    else if (s.layer i).state = .idle then .plain (s.setLayer i ((s.layer i).withLevel i level)) .ok
    else if s.belowFloor i level (s.floorWithout i) then .plain s .belowFloor
    else .plain (s.setLayer i ((s.layer i).withLevel i level)).evalFloor .ok

/-- SET_LEVEL (R15). -/
def execSetLevel (tag : Byte) (payload : List Byte) (s : State) : Result :=
  .next (s.serve ⟨0x13, tag, payload⟩ true (setLevel payload))

/-- The data of a GET LAYER reply (R16, 11.6). -/
def layerData (i : Slot) (l : Layer) : List Byte :=
  let colour := if l.sweepActive then l.captured.colour else l.colour
  let opacity := if l.sweepActive then l.captured.opacity else l.opacity
  be8 i.val ++ be8 (layerStateCode l.state) ++ be8 (endReasonCode l.endReason) ++ be8 l.level ++
    be8 (ofBool l.exclusive) ++ be8 l.sceneId ++ be16 l.ringBase ++ be16 l.ringLength ++
    be8 (ringModeCode l.ringMode) ++ be8 (ofBool l.fallback) ++ be8 l.startOffset ++ be16 l.cueIndex ++
    be8 (ofBool l.cueBegun) ++ be16 l.elapsed ++ be16 (if l.cueBegun then l.captured.duration else 0) ++
    be8 colour.r ++ be8 colour.g ++ be8 colour.b ++ be8 opacity ++ [l.selector.value, l.selector.mask] ++
    be8 l.loopStack.length ++ be8 (ofBool l.loopOverflow) ++ be8 (ofBool l.finishing) ++
    be8 (ofBool (l.latch && !isScene i))

/-- The owner of GET LAYER (R16). -/
def getLayer (p : List Byte) (s : State) : Answer :=
  match slotOf (byteAt p 0) with
  | some i => ⟨s, .ok, layerData i (s.layer i)⟩
  | none => .plain s .invalid

/-- GET_LAYER (R16). -/
def execGetLayer (tag : Byte) (payload : List Byte) (s : State) : Result :=
  .next (s.serve ⟨0x14, tag, payload⟩ true (getLayer payload))

/-! ### Master, hush, policy -/

/-- The owner of SET MASTER (R18). -/
def setMaster (p : List Byte) (s : State) : Answer :=
  match boolCode? (byteAt p 0) with
  | some on =>
    let u := min (wordAt p 1) Config.one
    ⟨{ s with arb := { s.arb with master := on, u := u } }, .ok, be16 u⟩
  | none => .plain s .invalid

/-- SET_MASTER (R18). -/
def execSetMaster (tag : Byte) (payload : List Byte) (s : State) : Result :=
  .next (s.serve ⟨0x15, tag, payload⟩ true (setMaster payload))

/-- The owner of HUSH (R19). -/
def hush (p : List Byte) (s : State) : Answer :=
  let seconds := min (wordAt p 0) Config.maxHush
  if seconds = 0 ∧ s.arb.hush = 0 then .plain s .already
  else ⟨{ s with arb := { s.arb with hush := seconds * 1000 } }, .ok, be16 seconds⟩

/-- HUSH (R19). -/
def execHush (tag : Byte) (payload : List Byte) (s : State) : Result :=
  .next (s.serve ⟨0x16, tag, payload⟩ true (hush payload))

/-- A change to CANCEL cuts every SUSPENDED scene layer (R9). -/
def State.cutSuspended (s : State) : State :=
  let (t, notices) := s.endLayers (fun i l => isScene i && decide (l.state = .suspended)) .cut
  t.queueOpen notices

/-- The owner of SET POLICY (R9, R6). -/
def setPolicy (p : List Byte) (s : State) : Answer :=
  match policy? (byteAt p 0) with
  | some k =>
    let t := { s with arb := { s.arb with policy := k } }
    .plain (if k = .cancel then t.cutSuspended else t).evalFloor .ok
  | none => .plain s .invalid

/-- SET_POLICY (R9). -/
def execSetPolicy (tag : Byte) (payload : List Byte) (s : State) : Result :=
  .next (s.serve ⟨0x17, tag, payload⟩ true (setPolicy payload))

/-! ### Alerts -/

/-- RAISE ALERT on a scene of the library, once scene id and exclusive have passed (R21). -/
def State.raiseAlert (s : State) (id : Nat) (exclusive : Bool) : Answer :=
  let l := s.layer alertSlot
  match findScene s.library id with
  | none => .plain s .notFound
  | some c =>
    if l.state ≠ .idle then
      if l.sceneId = id then .plain (s.setLayer alertSlot { l with latch := true, finishing := false }) .already
      else .plain s .busy
    else if s.overlaps (fun _ => true) c.base c.length .resident then .plain s .overlap
    else .plain ((s.setLayer alertSlot { l with latch := true }).startRing alertSlot (c.ring l.level exclusive)) .ok

/-- The owner of RAISE ALERT (R21). -/
def raiseAlert (p : List Byte) (s : State) : Answer :=
  match boolCode? (byteAt p 1) with
  | some exclusive => if byteAt p 0 = 0 then .plain s .invalid else s.raiseAlert (byteAt p 0) exclusive
  | none => .plain s .invalid

/-- RAISE_ALERT (R21). -/
def execRaiseAlert (tag : Byte) (payload : List Byte) (s : State) : Result :=
  .next (s.serve ⟨0x18, tag, payload⟩ true (raiseAlert payload))

/-- CLEAR ALERT on slot 10 or 11, once slot and mode have passed (R22). -/
def State.clearAlert (s : State) (i : Slot) (atEnd : Bool) : Answer :=
  let l := s.layer i
  if i = egressSlot ∧ s.arb.egressLevel = true then .plain s .lineActive
  else if l.latch = false ∧ l.state = .idle then .plain s .already
  else
    let t := s.setLayer i { l with latch := false }
    if l.state = .idle then .plain t .ok
    else if atEnd then .plain (t.finish i) .ok
    else .plain (t.stopSlot i .stopped) .ok

/-- The owner of CLEAR ALERT (R22). -/
def clearAlert (p : List Byte) (s : State) : Answer :=
  match slotOf (byteAt p 0), endMode? (byteAt p 1) with
  | some i, some atEnd => if isScene i then .plain s .invalid else s.clearAlert i atEnd
  | _, _ => .plain s .invalid

/-- CLEAR_ALERT_AT_END: CLEAR ALERT whose mode is not IMMEDIATE (R22). -/
def execClearAlertAtEnd (tag : Byte) (payload : List Byte) (s : State) : Result :=
  .next (s.serve ⟨0x19, tag, payload⟩ (variant payload 2 fun p => byteAt p 1 ≠ 0) (clearAlert payload))

/-- CLEAR_ALERT_IMMEDIATE: CLEAR ALERT whose mode is not AT_END (R22). -/
def execClearAlertImmediate (tag : Byte) (payload : List Byte) (s : State) : Result :=
  .next (s.serve ⟨0x19, tag, payload⟩ (variant payload 2 fun p => byteAt p 1 ≠ 1) (clearAlert payload))

end Sys2Proof.Machine
end

