-- ==== Sys2Proof/Machine/LinkEvents.lean ====
section
/-! DEFINITION. Machine/LinkEvents.lean: the receiver and the transmitter of the scene link (09): FRAME_RECEIVED,
FRAMING_ERROR, INTER_BYTE_TIMEOUT, LINK_BREAK, WAIT_IDLE_END and TRANSMIT_COMPLETE. -/

namespace Sys2Proof.Machine

/-! ### The receiver (9.2) -/

/-- A good frame joins the receive buffer, or is dropped as an overrun when two are held (R177). -/
def Link.deliver (l : Link) (f : LinkFrame) : Link :=
  if l.rxBuffer.length < Config.maxFrames then { l with rxBuffer := l.rxBuffer ++ [f] }
  else { l.raise .rxOverrun with overruns := countUp l.overruns }

/-- The second CRC byte: the frame is good, or it is discarded with a CRC error (R177). -/
def Link.judgeFrame (l : Link) (f : LinkFrame) (crc : Nat) : Link :=
  let l := { l with receiver := .hunt }
  if (crc16 f.covered).toNat = crc then l.deliver f
  else { l.raise .rxError with crcErrors := countUp l.crcErrors }

/-- One byte taken from SLI, in each state of the receiver (R175 to R177). -/
def Link.takeByte (l : Link) (b : Byte) : Link :=
  match l.receiver with
  | .waitIdle => l
  | .hunt => if b = syncByte then { l with receiver := .header [] } else l
  | .header [] =>
    if Config.maxPayload < b.toNat then
      { l.raise .rxError with receiver := .hunt, overlength := countUp l.overlength }
    else { l with receiver := .header [b] }
  | .header [length] => { l with receiver := .header [length, b] }
  | .header (length :: kind :: _) =>
    { l with receiver := if length.toNat = 0 then .check length kind b [] none else .payload length kind b [] }
  | .payload length kind tag taken =>
    let taken := taken ++ [b]
    { l with receiver := if taken.length < length.toNat then .payload length kind tag taken
                         else .check length kind tag taken none }
  | .check length kind tag taken none => { l with receiver := .check length kind tag taken (some b) }
  | .check _ kind tag taken (some high) => l.judgeFrame ⟨kind, tag, taken⟩ (high.toNat * 256 + b.toNat)

/-- A frame is in progress: HEADER, PAYLOAD or CHECK (R178). -/
def Receiver.inFrame : Receiver → Bool
  | .waitIdle => false
  | .hunt => false
  | _ => true

/-- A framing error: outside WAIT_IDLE it is counted, sets RX_ERROR and discards a frame in progress; in WAIT_IDLE it only
restarts the timing (R175, R178). -/
def Link.framingError (l : Link) : Link :=
  if l.receiver = .waitIdle then l
  else { l.raise .rxError with receiver := .hunt, framingErrors := countUp l.framingErrors }

/-- One character taken from SLI by its samples: its byte, or a framing error, whose data bits are not used (R173). -/
def Link.takeCharacter (l : Link) (samples : List Bool) : Link :=
  match characterByte samples with
  | some b => l.takeByte b
  | none => l.framingError

/-- FRAME_RECEIVED: the characters that carry the bytes of the operand are taken one by one (R173); a frame that ends is
judged, and delivered, dropped or discarded (R176, R177). In DORMANT and without supply nothing is received. -/
def execFrameReceived (characters : List Byte) (s : State) : Result :=
  .next
    (if s.running then
      ({ s with link := characters.foldl (fun l b => l.takeCharacter (characterBits b)) s.link }).settle
    else s)

/-- FRAMING_ERROR: a character whose stop bit samples low (R173, R175, R178). -/
def execFramingError (s : State) : Result :=
  .next
    (if s.running && decide (s.link.receiver ≠ .waitIdle) then
      ({ s with link := s.link.framingError }).settle
    else s)

/-- INTER_BYTE_TIMEOUT: the frame in progress is discarded, one timeout counted, RX_ERROR set (R178). -/
def execInterByteTimeout (s : State) : Result :=
  .next
    (if s.running && s.link.receiver.inFrame then
      ({ s with link := { s.link.raise .rxError with receiver := .hunt, timeouts := countUp s.link.timeouts } }).settle
    else s)

/-- LINK_BREAK: the receiver enters WAIT_IDLE; nothing else is touched (R179). -/
def execLinkBreak (s : State) : Result :=
  .next (if s.running then { s with link := { s.link with receiver := .waitIdle } } else s)

/-- WAIT_IDLE_END: after 500 µs of continuous high the receiver enters HUNT; in DORMANT it does no timing (R175,
R182). -/
def execWaitIdleEnd (s : State) : Result :=
  .next
    (if s.running && decide (s.link.receiver = .waitIdle) then { s with link := { s.link with receiver := .hunt } }
     else s)

/-! ### The transmitter (9.4) -/

/-- The reply that a hold waits for has left SLO in full (R182): after RESTART, and while the sleep is pending, the
transmitter stops; after a cancelled sleep the hold ends and the transmitter goes on (R207). -/
def Link.holdReplyDone (l : Link) (sleepPending : Bool) : Link :=
  match l.hold with
  | .none => l
  | .restart => { l with txStopped := true, replySent := true }
  | .sleep => if sleepPending then { l with txStopped := true, replySent := true } else { l with hold := .none }

/-- The last byte of the frame in transmission has left SLO. The last reply unsent under a hold is the reply of the
request that imposed it (R182). -/
def Link.sent (l : Link) (sleepPending : Bool) : Link :=
  match l.tx with
  | none => l
  | some f =>
    let l := { l with tx := none }
    if f.isReply && l.replies.isEmpty then l.holdReplyDone sleepPending else l

/-- TRANSMIT_COMPLETE: the transmitter finishes its frame and chooses the next (R183). DESIGN CHOICE, unsafe: where a
cancelled sleep's hold ends here, that choice comes before the dispatch of any buffered frame (R207; log 36). -/
def execTransmitComplete (s : State) : Result :=
  .next
    (if s.running && s.link.tx.isSome then ({ s with link := s.link.sent s.power.sleepPending }).settle else s)

end Sys2Proof.Machine
end

