-- ==== Sys2Proof/Machine/LinkRequests.lean ====
section
/-! DEFINITION. Machine/LinkRequests.lean: the dispatch of frames that name no request, and the requests of the Scene
Link Interface (09): UNKNOWN_KIND, REPORT_KIND_DISCARD, PING, GET_STATUS, GET_COUNTERS, SET_EVENT_MASK and
CLEAR_EVENTS. -/

namespace Sys2Proof.Machine

/-- UNKNOWN_KIND: a KIND below 0x70 that names no request is answered UNKNOWN (R181, check 2). -/
def execUnknownKind (kind tag : Byte) (payload : List Byte) (s : State) : Result :=
  .next
    (if !isReportKind kind && !namesRequest kind && s.atDispatch ⟨kind, tag, payload⟩ then
      (s.takeFrame.reply ⟨kind, tag, payload⟩ .unknown []).settle
    else s)

/-- REPORT_KIND_DISCARD: a KIND of 0x70 or above is discarded without reply, and RX_ERROR is set (R181, check 1). -/
def execReportKindDiscard (kind tag : Byte) (payload : List Byte) (s : State) : Result :=
  .next
    (if isReportKind kind && s.atDispatch ⟨kind, tag, payload⟩ then (s.takeFrame.raise .rxError).settle else s)

/-- PING (R190). -/
def execPing (tag : Byte) (payload : List Byte) (s : State) : Result :=
  .next (s.serve ⟨0x01, tag, payload⟩ true fun t => ⟨t, .ok, be8 (partCode t.power.part) ++ payload⟩)

/-! ### GET STATUS (R191, 11.6) -/

/-- The code of the region being written; 0 when IDLE. -/
def storeRegionCode : StoreOp → Nat
  | .idle => 0
  | .settings _ => 1
  | .library _ => 2

/-- Offsets 1 to 11: the part and its store operation. -/
def partStatus (s : State) : List Byte :=
  be8 (partCode s.power.part) ++ be16 s.store.identity.part ++ be8 s.store.identity.revision ++
    be32 s.store.identity.serial ++ be8 (ofBool s.power.plantHigh) ++
    be8 (if storeRegionCode s.store.op = 0 then 0 else 1) ++ be8 (storeRegionCode s.store.op)

/-- Offsets 12 to 20: the link. -/
def linkStatus (l : Link) : List Byte :=
  be16 l.setBits.toNat ++ be16 l.reportedBits.toNat ++ be16 l.mask.toNat ++ be8 l.rxBuffer.length ++
    be8 (l.unsent + 1) ++ be8 l.notices.length

/-- Hush remaining, whole seconds rounded up (R16). -/
def hushSeconds (a : Arbiter) : Nat := (a.hush + 999) / 1000

/-- Offsets 21 to 54: the Arbiter. -/
def arbiterStatus (a : Arbiter) : List Byte :=
  (List.finRange 12).flatMap (fun i => be8 (layerStateCode a.layers[i].state) ++ be8 a.layers[i].level) ++
    be8 a.floor ++ be8 (ofBool a.master) ++ be16 a.u ++ be8 (policyCode a.policy) ++ be16 (hushSeconds a) ++
    be8 (ofBool (a.layers[alertSlot]).latch) ++ be8 (ofBool (a.layers[egressSlot]).latch) ++
    be8 (ofBool a.egressLevel)

/-- A port block (R147). -/
def portStatus (p : Port) (n : Nat) : List Byte :=
  be8 (portStateCode p.state) ++ be8 (portStateCode p.returnState) ++ be8 (ofBool p.loopBroken) ++
    be8 (ofBool p.foreignActive) ++ be8 n ++ be8 p.pre ++ be8 p.sel ++ be16 p.divisor ++ be8 p.period ++
    be8 (p.effectivePeriod n) ++ be16 p.budget

/-- A Compositor block (R101). -/
def compStatus (k : Comp) : List Byte :=
  be16 k.lastScale ++ be32 k.lastTotal ++ be8 (ofBool k.scaleMark) ++ be8 (ofBool k.lateMark)

/-- The data of a GET STATUS reply (R191). -/
def statusData (s : State) : List Byte :=
  partStatus s ++ linkStatus s.link ++ arbiterStatus s.arb ++ be16 s.amb.applied ++ be8 (ofBool s.amb.stale) ++
    be8 (s.count .a) ++ be8 (s.count .b) ++ be8 (ofBool s.dir.locked) ++ portStatus s.portA (s.count .a) ++
    portStatus s.portB (s.count .b) ++ compStatus s.compA ++ compStatus s.compB

/-- GET_STATUS (R191). -/
def execGetStatus (tag : Byte) (payload : List Byte) (s : State) : Result :=
  .next (s.serve ⟨0x02, tag, payload⟩ true fun t => ⟨t, .ok, statusData t⟩)

/-! ### Counters, mask, flags -/

/-- The chain counters of a port (R147). -/
def chainCounters (p : Port) : List Byte := be16 p.repeatedFrames ++ be16 p.abortedFrames ++ be16 p.loopBreaks

/-- The data of a GET COUNTERS reply (R189, 11.6). -/
def counterData (s : State) : List Byte :=
  be16 s.link.crcErrors ++ be16 s.link.framingErrors ++ be16 s.link.timeouts ++ be16 s.link.overlength ++
    be16 s.link.overruns ++ chainCounters s.portA ++ chainCounters s.portB

/-- The port with its chain counters at 0 (R147). -/
def Port.cleared (p : Port) : Port := { p with repeatedFrames := 0, abortedFrames := 0, loopBreaks := 0 }

/-- All eleven counters at 0 (R189). -/
def State.clearCounters (s : State) : State :=
  { s with
    link := { s.link with crcErrors := 0, framingErrors := 0, timeouts := 0, overlength := 0, overruns := 0 }
    portA := s.portA.cleared
    portB := s.portB.cleared }

/-- The owner of GET COUNTERS (R189). -/
def getCounters (p : List Byte) (s : State) : Answer :=
  match boolCode? (byteAt p 0) with
  | some clear => ⟨if clear then s.clearCounters else s, .ok, counterData s⟩
  | none => .plain s .invalid

/-- GET_COUNTERS (R189). -/
def execGetCounters (tag : Byte) (payload : List Byte) (s : State) : Result :=
  .next (s.serve ⟨0x03, tag, payload⟩ true (getCounters payload))

/-- The owner of SET EVENT MASK (R187). -/
def setEventMask (p : List Byte) (s : State) : Answer :=
  ⟨{ s with link := { s.link with mask := BitVec.ofNat 16 (wordAt p 0) } }, .ok, be16 (wordAt p 0)⟩

/-- SET_EVENT_MASK (R187). -/
def execSetEventMask (tag : Byte) (payload : List Byte) (s : State) : Result :=
  .next (s.serve ⟨0x04, tag, payload⟩ true (setEventMask payload))

/-- The owner of CLEAR EVENTS (R188). -/
def clearEvents (p : List Byte) (s : State) : Answer :=
  let link := s.link.clearFlags (BitVec.ofNat 16 (wordAt p 0))
  ⟨{ s with link := link }, .ok, be16 link.standing.toNat⟩

/-- CLEAR_EVENTS (R188). -/
def execClearEvents (tag : Byte) (payload : List Byte) (s : State) : Result :=
  .next (s.serve ⟨0x05, tag, payload⟩ true (clearEvents payload))

end Sys2Proof.Machine
end

