-- ==== Sys2Proof/Machine/PortRequests.lean ====
section
/-! DEFINITION. Machine/PortRequests.lean: the requests of the chain ports (06): ENUMERATE, SET_CHAIN_TIMING,
SET_CHAIN_BUDGET, SET_CHAIN_STATE_OFF, SET_CHAIN_STATE_ON and RECLAIM_CHAIN. -/

namespace Sys2Proof.Machine

/-- The chain field first (06, 6.6), then the owner for that chain. -/
def onChain (p : List Byte) (s : State) (owner : Chain → State → Answer) : Answer :=
  match chainCode? (byteAt p 0) with
  | some c => owner c s
  | none => .plain s .invalid

/-- ENUMERATE by the port's state (R139; log 21). -/
def State.enumerate (c : Chain) (s : State) : Answer :=
  match (s.port c).state with
  | .off => .plain ((s.onPort c Port.unmark).beginPass c) .accepted
  | .running => .plain ((s.leaveRunning c).beginPass c) .accepted
  | .enumerating => .plain s .busy
  | .released => .plain s .chainReleased

/-- ENUMERATE (R139). -/
def execEnumerate (tag : Byte) (payload : List Byte) (s : State) : Result :=
  .next (s.serve ⟨0x30, tag, payload⟩ true fun t => onChain payload t State.enumerate)

/-- A shift in progress is aborted and counted (R132, R135). -/
def Port.countAbort (p : Port) : Port := { p with abortedFrames := countUp p.abortedFrames }

/-- A pass of the port is under way: in either transfer or in its settle (R135). -/
def Port.inPass (p : Port) : Bool :=
  p.settle.isSome || decide (p.transfer = some .request) || decide (p.transfer = some .collect)

/-- The notice of a pass that still waits for a shift when SET CHAIN TIMING abandons it for a new one (R143). DEDUCED,
unsafe: such a pass is abandoned as one under way is (log 23). -/
def State.waitingPassNotice (s : State) (c : Chain) : List Notice :=
  if (s.port c).waiting.contains .identify then [s.abandonNotice c] else []

/-- What SET CHAIN TIMING does to what the port is doing (R135): a duty shift is aborted, a closing dark frame is
aborted and shifted again (log 22), a pass is abandoned and begun anew (R143). A pass that waits behind the shift is
abandoned too, and the new pass takes its place in the order of waiting: at once after an aborted duty shift, and after
a closing dark frame that is shifted again (DEDUCED, unsafe: log 23). A port in a pass is not RUNNING, so that there is
no RUNNING to leave. -/
def State.retime (s : State) (c : Chain) : State :=
  match (s.port c).transfer with
  | some (.duty _ _ _) => ((s.onPort c Port.countAbort).afterTransfer c).queueAll (s.waitingPassNotice c)
  | some (.dark n _) =>
    (s.onPort c fun p => { p.countAbort with transfer := some (.dark n false) }).queueAll (s.waitingPassNotice c)
  | _ =>
    if (s.port c).inPass then (((s.leaveRunning c).onPort c Port.stopPass).beginPass c).queueAll [s.abandonNotice c]
    else s

/-- SET CHAIN TIMING on a chain (R135). -/
def State.setTiming (pre sel period : Nat) (c : Chain) (s : State) : Answer :=
  if 7 < pre ∨ 7 < sel then .plain s .invalid
  else
    ⟨(s.onPort c fun p => { p with pre := pre, sel := sel, period := clampPeriod period }).retime c, .ok,
      be16 (divisorOf pre sel) ++ be8 (clampPeriod period)⟩

/-- SET_CHAIN_TIMING (R135). -/
def execSetChainTiming (tag : Byte) (payload : List Byte) (s : State) : Result :=
  .next (s.serve ⟨0x40, tag, payload⟩ true fun t =>
    onChain payload t (State.setTiming (byteAt payload 1) (byteAt payload 2) (byteAt payload 3)))

/-- SET CHAIN BUDGET on a chain (R136). -/
def State.setBudget (budget : Nat) (c : Chain) (s : State) : Answer :=
  let applied := min budget Config.maxBudget
  ⟨s.onPort c fun p => { p with budget := applied }, .ok, be16 applied⟩

/-- SET_CHAIN_BUDGET (R136). -/
def execSetChainBudget (tag : Byte) (payload : List Byte) (s : State) : Result :=
  .next (s.serve ⟨0x41, tag, payload⟩ true fun t => onChain payload t (State.setBudget (wordAt payload 1)))

/-- SET CHAIN STATE OFF by the port's state (R137). -/
def State.switchOff (s : State) (c : Chain) : Answer :=
  match (s.port c).state with
  | .off => .plain s .already
  | .released => .plain s .chainReleased
  | _ => .plain ((s.takeOff c).1.queueAll (s.takeOff c).2) .ok

/-- SET CHAIN STATE ON by the port's state (R138; log 21). -/
def State.switchOn (s : State) (c : Chain) : Answer :=
  match (s.port c).state with
  | .off => .plain (s.onPort c fun p => p.unmark.run) .ok
  | .released => .plain s .chainReleased
  | _ => .plain s .already

/-- SET CHAIN STATE on a chain: the state field (11.2), then by its value. -/
def State.setChainState (code : Nat) (c : Chain) (s : State) : Answer :=
  match boolCode? code with
  | some true => s.switchOn c
  | some false => s.switchOff c
  | none => .plain s .invalid

/-- SET_CHAIN_STATE_OFF: SET CHAIN STATE whose state is not ON (R137). -/
def execSetChainStateOff (tag : Byte) (payload : List Byte) (s : State) : Result :=
  .next (s.serve ⟨0x42, tag, payload⟩ (variant payload 2 fun p => byteAt p 1 ≠ 1) fun t =>
    onChain payload t (State.setChainState (byteAt payload 1)))

/-- SET_CHAIN_STATE_ON: SET CHAIN STATE whose state is not OFF (R138). -/
def execSetChainStateOn (tag : Byte) (payload : List Byte) (s : State) : Result :=
  .next (s.serve ⟨0x42, tag, payload⟩ (variant payload 2 fun p => byteAt p 1 ≠ 0) fun t =>
    onChain payload t (State.setChainState (byteAt payload 1)))

/-- RECLAIM CHAIN by the port's state (R145). -/
def State.reclaim (c : Chain) (s : State) : Answer :=
  let p := s.port c
  if p.state ≠ .released then .plain s .already
  else if p.foreignActive then .plain s .chainReleased
  else .plain (s.onPort c fun p => if p.returnState = .running then p.run else { p with state := .off }) .ok

/-- RECLAIM_CHAIN (R145). -/
def execReclaimChain (tag : Byte) (payload : List Byte) (s : State) : Result :=
  .next (s.serve ⟨0x43, tag, payload⟩ true fun t => onChain payload t State.reclaim)

end Sys2Proof.Machine
end

