-- ==== Sys2Proof/Machine/Engine.lean ====
section
/-! DEFINITION. Machine/Engine.lean: one handling of one layer by the Timeline Engine (03): begin, completion, the six
cue kinds, loops, zero-duration steps, starvation and runaway. -/

namespace Sys2Proof.Machine

/-- What one handling works on: the layer record, the pool it reads and gives cues back to, and the link, where it sets
flags and queues notices. -/
structure Play where
  layer : Layer
  pool : Pool
  link : Link
deriving DecidableEq, Repr

/-- How the taking of cues goes on (R51, R52). -/
inductive Flow where
  /-- the cue completed where it was begun, and the next is due -/
  | again
  /-- a cue is in play, or the layer is STARVED: the handling ends -/
  | rests
  /-- an END ended the layer -/
  | completed
  /-- the 17th zero-duration step fell due -/
  | runaway
deriving DecidableEq, Repr

/-! ### The ring -/

/-- The three cues of the fallback ring (R26). -/
def fallbackCue (i : Nat) : Cue :=
  match i with
  | 0 => { Cue.empty with kind := .set, colour := Rgb.all 255, opacity := 255 }
  | 1 => { Cue.empty with kind := .hold }
  | _ => Cue.empty

/-- The record at the layer's cursor (R26, R29). -/
def Play.cue (e : Play) : Cue :=
  if e.layer.fallback then fallbackCue e.layer.cueIndex else e.pool.read e.layer.cueIndex

/-- The successor of the current index, by the captured wrap (R33). -/
def Layer.successor (l : Layer) : Nat :=
  if l.captured.wrap || decide (l.ringBase + l.ringLength ≤ l.cueIndex + 1) then l.ringBase else l.cueIndex + 1

/-- The LOOP's jump target: a target at or beyond the ring length is offset 0 (R31, R64). -/
def Layer.jumpTarget (l : Layer) (target : Nat) : Nat :=
  if target < l.ringLength then l.ringBase + target else l.ringBase

/-- The ring is in STREAM mode, and its cues are handed over by the ready flag (R35). -/
def Layer.streams (l : Layer) : Bool := l.ringMode = .stream && !l.fallback

/-! ### Begin and completion (R52, R53) -/

/-- The values a cue's begin captures: the fields its kind uses (R31, R43); a FADE also captures the layer's present
colour and opacity. SWEEP width 0 is taken as 1, above 32 as 32 (R59). -/
def Layer.capture (l : Layer) (c : Cue) : Captured :=
  let flow : Captured := { Captured.zero with kind := c.kind, notify := c.notify }
  match c.kind with
  | .set => { flow with wrap := c.wrap, colour := c.colour, opacity := c.opacity, selector := c.selector }
  | .fade =>
    { flow with wrap := c.wrap, startColour := l.colour, startOpacity := l.opacity, colour := c.colour,
                opacity := c.opacity, duration := c.duration, selector := c.selector }
  | .hold => { flow with wrap := c.wrap, duration := c.duration, selector := c.selector }
  | .sweep =>
    { flow with wrap := c.wrap, trail := c.trail, reverse := c.reverse, colour := c.colour, opacity := c.opacity,
                duration := c.duration, width := min (max c.width 1) 32, selector := c.selector }
  | .loop => { flow with wrap := c.wrap }
  | .end_ => flow

/-- The cue at the cursor is begun: values captured, cue begun yes, elapsed 0, and a STARVED layer RUNNING (R52,
R71). -/
def Layer.beginCue (l : Layer) (c : Cue) : Layer :=
  { l with state := .running, cueBegun := true, elapsed := 0, captured := l.capture c }

/-- Steps 1 and 2 of a completion: the STREAM write-back DONE, then the CUE NOTICE DONE (R53, R36, R74). -/
def Play.handBack (e : Play) (i : Slot) : Play :=
  { e with
    pool := if e.layer.streams then e.pool.giveBack e.layer.cueIndex .done else e.pool
    link := if e.layer.captured.notify then e.link.queue (.cue i e.layer.cueIndex .done) else e.link }

/-- Step 3 of a completion: the cursor moves to `next`, with cue begun no and elapsed 0 (R53). -/
def Layer.moveTo (l : Layer) (next : Nat) : Layer := { l with cueIndex := next, cueBegun := false, elapsed := 0 }

/-- A completion whose cursor moves to `next` (R53, steps 1 to 3). -/
def Play.complete (e : Play) (i : Slot) (next : Nat) : Play :=
  { e.handBack i with layer := e.layer.moveTo next }

/-- The layer record after `f`. -/
def Play.onLayer (e : Play) (f : Layer → Layer) : Play := { e with layer := f e.layer }

/-! ### Drawing kinds (3.3) -/

/-- One component of a FADE at elapsed `e` of `d`, from `s` to `t`: `s` plus the rounded value of (t − s)·e/d (R57). -/
def fadeValue (s t e d : Nat) : Nat :=
  ((s : Int) + (2 * ((t : Int) - s) * e + d) / (2 * d)).toNat

/-- The layer's colour and opacity at elapsed `e` of the FADE in play (R57). -/
def Layer.fadeAt (l : Layer) (e : Nat) : Layer :=
  let k := l.captured
  { l with
    elapsed := e
    colour := ⟨fadeValue k.startColour.r k.colour.r e k.duration, fadeValue k.startColour.g k.colour.g e k.duration,
               fadeValue k.startColour.b k.colour.b e k.duration⟩
    opacity := fadeValue k.startOpacity k.opacity e k.duration }

/-- The end state of a SWEEP: colour C, at α with trail and at 0 without (R59). -/
def Layer.endSweep (l : Layer) : Layer :=
  { l with sweepActive := false, colour := l.captured.colour,
           opacity := if l.captured.trail then l.captured.opacity else 0 }

/-- The plain colour, opacity and selector of the captured values (R55, R56). -/
def Layer.show (l : Layer) : Layer :=
  { l with colour := l.captured.colour, opacity := l.captured.opacity, selector := l.captured.selector }

/-- The captured selector becomes the current selector (R56, R58, R59). -/
def Layer.select (l : Layer) : Layer := { l with selector := l.captured.selector }

/-! ### LOOP and END (3.4) -/

/-- The LOOP at the cursor is taken (R64, R65, R66): the new record and the index the cursor moves to. -/
def Layer.takeLoop (l : Layer) (c : Cue) : Layer × Nat :=
  let rest := l.loopStack.dropWhile (·.index ≠ l.cueIndex)
  let jump := l.jumpTarget c.loopTarget
  if l.finishing then
    match rest with
    | _ :: below => ({ l with loopStack := below }, l.successor)
    | [] => (l, l.successor)
  else
    match rest with
    | ⟨_, none⟩ :: _ => ({ l with loopStack := rest }, jump)
    | ⟨i, some (n + 1)⟩ :: below => ({ l with loopStack := ⟨i, some n⟩ :: below }, jump)
    | ⟨_, some 0⟩ :: below => ({ l with loopStack := below }, l.successor)
    | [] =>
      if l.loopStack.length < Config.maxLoops then
        let entry : LoopEntry := ⟨l.cueIndex, if c.width = 0 then none else some (c.width - 1)⟩
        ({ l with loopStack := entry :: l.loopStack }, jump)
      else ({ l with loopOverflow := true }, l.successor)

/-- An END restarts the ring: the slot is 10 or 11, its latch is set and finishing is clear (R23, R62). -/
def Layer.restarts (l : Layer) (i : Slot) : Bool := (i.val = 10 || i.val = 11) && l.latch && !l.finishing

/-! ### Zero-duration steps (3.5) -/

/-- Taking the cue would be a zero-duration step (R68). -/
def Layer.zeroStep (l : Layer) (i : Slot) (c : Cue) : Bool :=
  match c.kind with
  | .set => true
  | .fade => c.duration = 0
  | .sweep => c.duration = 0
  | .hold => c.duration = 0 && l.finishing
  | .loop => true
  | .end_ => l.restarts i

/-- A zero-duration step is counted (R68). -/
def Layer.countStep (l : Layer) : Layer := { l with stepCount := l.stepCount + 1 }

/-- The cue at the cursor, found due and allowed, is begun and acts by its kind (R52, R55 to R66, R73). -/
def Play.takeCue (e : Play) (i : Slot) (c : Cue) : Play × Flow :=
  let e := e.onLayer fun l => if l.zeroStep i c then (l.beginCue c).countStep else l.beginCue c
  match c.kind with
  | .set => ((e.onLayer Layer.show).complete i e.layer.successor, .again)
  | .fade =>
    if c.duration = 0 then ((e.onLayer Layer.show).complete i e.layer.successor, .again)
    else (e.onLayer Layer.select, .rests)
  | .hold =>
    let e := e.onLayer Layer.select
    if c.duration = 0 && e.layer.finishing then (e.complete i e.layer.successor, .again) else (e, .rests)
  | .sweep =>
    let e := e.onLayer Layer.select
    if c.duration = 0 then ((e.onLayer Layer.endSweep).complete i e.layer.successor, .again)
    else (e.onLayer fun l => { l with sweepActive := true }, .rests)
  | .loop =>
    let (l, next) := e.layer.takeLoop c
    (({ e with layer := l } : Play).complete i next, .again)
  | .end_ =>
    if e.layer.restarts i then
      ((e.onLayer fun l => { l with loopStack := [] }).complete i e.layer.ringBase, .again)
    else (e.handBack i, .completed)

/-- The layer enters STARVED, or stays so: cursor kept, cue begun no, elapsed 0; LAYER_STARVED is set when it enters
(R70, R71). -/
def Play.starve (e : Play) : Play :=
  { e with
    layer := { e.layer with state := .starved, cueBegun := false, elapsed := 0, sweepActive := false }
    link := if e.layer.state = .starved then e.link else e.link.raise .layerStarved }

/-- The cue at the cursor is due to begin (R52): the ready check, the step limit, the begin; and again for as long as
the cues taken complete where they are begun. `fuel` bounds the cues taken: with the limit of 16 steps, 17 suffice. -/
def Play.due (i : Slot) : Nat → Play → Play × Flow
  | 0, e => (e, .rests)
  | fuel + 1, e =>
    let c := e.cue
    if e.layer.streams && !c.ready then (e.starve, .rests)
    else if e.layer.zeroStep i c && decide (Config.maxSteps ≤ e.layer.stepCount) then (e, .runaway)
    else
      match e.takeCue i c with
      | (e, .again) => Play.due i fuel e
      | done => done

/-- Cues a handling can take: 16 zero-duration steps and one more cue. -/
def dueFuel : Nat := Config.maxSteps + 1

/-- Elapsed rises by 1 in a begun FADE, HOLD or SWEEP of captured duration above 0; at the duration the cue completes
(R51, R54). -/
def Play.advance (e : Play) (i : Slot) : Play × Flow :=
  let now := e.layer.elapsed + 1
  let e := e.onLayer fun l =>
    match l.captured.kind with
    | .fade => l.fadeAt now
    | _ => { l with elapsed := now }
  if now < e.layer.captured.duration then (e, .rests)
  else
    let e := e.onLayer fun l => if l.sweepActive then l.endSweep else l
    Play.due i dueFuel (e.complete i e.layer.successor)

/-- One handling of a RUNNING or STARVED layer in slot `i`, taken whole (R50, R51). -/
def Play.handle (e : Play) (i : Slot) : Play × Flow :=
  let e := e.onLayer fun l => { l with stepCount := 0 }
  if !e.layer.cueBegun then Play.due i dueFuel e
  else if e.layer.sweepActive || decide (0 < e.layer.captured.duration) then e.advance i
  else if e.layer.finishing then Play.due i dueFuel (e.complete i e.layer.successor)
  else (e.onLayer fun l => { l with elapsed := countUp l.elapsed }, .rests)

/-- The handling of slot `i` and what the Arbiter makes of its end: COMPLETED (R62, R4); RUNAWAY, where slot 11 with its
latch set is restarted on the fallback ring, its end reason kept (R69, R26). -/
def State.handleSlot (s : State) (i : Slot) : State :=
  if (s.layer i).state.playing then
    let (e, flow) := Play.handle ⟨s.layer i, s.pool, s.link⟩ i
    let t := { s.setLayer i e.layer with pool := e.pool, link := e.link }
    match flow with
    | .completed => (t.setLayer i (e.layer.toIdle i .completed)).evalFloor
    | .runaway =>
      let t := (t.raise .layerRunaway).setLayer i (e.layer.toIdle i .runaway)
      if decide (i = egressSlot) && e.layer.latch then
        let l := ((t.layer i).started fallbackRing (t.startState i fallbackRing.level))
        (t.setLayer i { l with endReason := .runaway }).evalFloor
      else t.evalFloor
    | _ => t
  else s

/-- The order in which a tick handles the slots: those the operand names, each once, then the others in ascending order
(R50; log 5). -/
def slotOrder (order : List Nat) : List Slot :=
  let named := (order.filterMap slotOf).dedup
  named ++ (List.finRange 12).filter (· ∉ named)

/-- Every RUNNING or STARVED layer is handled, each when its turn comes (R50). -/
def State.handleLayers (s : State) (order : List Nat) : State := (slotOrder order).foldl State.handleSlot s

end Sys2Proof.Machine
end

