-- ==== Sys2Proof/Machine/Timeline.lean ====
section
/-! DEFINITION. Machine/Timeline.lean: the timebase and the EGRESS line: TICK, HUSH_EXPIRY, EGRESS_LINE_CHANGE,
DEBOUNCED_ASSERTION and DEBOUNCED_DEASSERTION. -/

namespace Sys2Proof.Machine

/-- The final tick of a hush: hush becomes inactive and HUSH_END is set (R20). -/
def State.expireHush (s : State) : State := ({ s with arb := { s.arb with hush := 0 } }).raise .hushEnd

/-- A tick lowers an active hush countdown by 1; at 0 the hush expires (R20). -/
def State.tickHush (s : State) : State :=
  if s.arb.hush = 0 then s
  else if s.arb.hush = 1 then s.expireHush
  else { s with arb := { s.arb with hush := s.arb.hush - 1 } }

/-- A tick of the EGRESS debounce: time counts while the raw line differs from the debounced level (R24). -/
def Arbiter.tickEgress (a : Arbiter) : Arbiter :=
  if a.egressLine = a.egressLevel then a else { a with egressTimer := a.egressTimer - 1 }

/-- One tick: in AWAKE the hush, the debounce, the gate window, the ports' timers and the layers; in STARTING the
debounce alone (R197); otherwise the timebase is stopped. DESIGN CHOICE, unsafe: an idle transmitter chooses once, at the
end of the tick, among all that the tick queued and raised (log 39). -/
def State.tick (s : State) (order : List Nat) : State :=
  match s.power.part with
  | .awake =>
    let s := s.tickHush
    let s := { s with arb := s.arb.tickEgress, amb := s.amb.tick s.power.sleepPending, portA := s.portA.tick,
                      portB := s.portB.tick }
    (s.handleLayers order).settle
  | .starting => { s with arb := s.arb.tickEgress }
  | _ => s

/-- TICK (R50, R20, R24, R129, R149). -/
def execTick (order : List Nat) (s : State) : Result := .next (s.tick order)

/-- HUSH_EXPIRY: the hush part of the countdown's final tick, taken ahead of the rest of that tick (R20; log 4). -/
def execHushExpiry (s : State) : Result :=
  .next (if s.awake && decide (s.arb.hush = 1) then s.expireHush.settle else s)

/-- EGRESS_LINE_CHANGE: the raw line changes, and the debounce timing starts or restarts (R24). -/
def execEgressLineChange (asserted : Bool) (s : State) : Result :=
  .next
    (if asserted = s.arb.egressLine then s
     else { s with arb := { s.arb with egressLine := asserted, egressTimer := Config.debounceTicks } })

/-- A debounced assertion while a sleep is pending cancels the sleep (R207): the hold and the transmitter's stop end if
the SLEEP reply has left SLO, else when it does; the ports resume; the Ambient Unit restarts. DESIGN CHOICE, unsafe: the
transmitter that resumes chooses its next frame before any buffered frame is dispatched (log 36). -/
def State.cancelSleep (s : State) : State :=
  if s.power.sleepPending then
    { s with
      power := { s.power with sleepPending := false }
      link := if s.link.replySent then { s.link with hold := .none, txStopped := false, replySent := false } else s.link
      portA := s.portA.resumeIf false
      portB := s.portB.resumeIf false
      amb := s.amb.restart }
  else s

/-- The slot 11 latch is set by a debounced assertion (R25). -/
def State.latchEgress (s : State) : State :=
  (s.setLayer egressSlot { s.layer egressSlot with latch := true }).raise .egress

/-- In AWAKE an IDLE slot 11 starts, and a playing one loses its finishing mark (R25). -/
def State.lightEgress (s : State) : State :=
  if (s.layer egressSlot).state = .idle then s.startEgress
  else s.setLayer egressSlot { s.layer egressSlot with finishing := false }

/-- The debounced level takes the raw level (R24). -/
def State.takeEgressLevel (s : State) : State :=
  { s with arb := { s.arb with egressLevel := s.arb.egressLine, egressTimer := Config.debounceTicks } }

/-- The raw line has differed from the debounced level for the debounce time (R24; log 4). -/
def State.debounceDue (s : State) : Bool :=
  s.running && decide (s.arb.egressLine ≠ s.arb.egressLevel) && timerDue s.arb.egressTimer

/-- DEBOUNCED_ASSERTION (R25, R27, R207). -/
def execDebouncedAssertion (s : State) : Result :=
  .next
    (if s.debounceDue && s.arb.egressLine then
      let t := s.takeEgressLevel.latchEgress
      (if s.awake then t.lightEgress.cancelSleep else t).settle
    else s)

/-- DEBOUNCED_DEASSERTION: the debounced level is deasserted; latch and layer stay (R24). -/
def execDebouncedDeassertion (s : State) : Result :=
  .next (if s.debounceDue && !s.arb.egressLine then s.takeEgressLevel else s)

end Sys2Proof.Machine
end

