-- ==== Sys2Proof/Machine/PowerStore.lean ====
section
/-! DEFINITION. Machine/PowerStore.lean: the Settings Store and power control (10): POWER_ON, STARTUP_COMPLETE,
SUPPLY_REMOVAL, STORE_SETTINGS, STORE_LIBRARY, STORE_WRITE_END, RESTART, RESTART_TAKEN, SLEEP, DORMANT_ENTRY,
WAKE_BY_LINK and WAKE_BY_EGRESS. -/

namespace Sys2Proof.Machine

/-! ### Power (R196, R203) -/

/-- POWER_ON: PLANT is sampled and every block takes its values of power-on, over the stored regions (R195, R196). -/
def execPowerOn (plantHigh : Bool) (s : State) : Result :=
  .next
    (State.powerOn s.pending plantHigh s.arb.egressLine s.store.identityRegion s.store.settingsRegion
      s.store.libraryRegion s.openChoices)

/-- SUPPLY_REMOVAL: all activity ends; what the regions hold stays, a region being written having been erased at its
acceptance (R203; log 24). -/
def execSupplyRemoval (s : State) : Result :=
  let t := State.powerOn s.pending s.power.plantHigh s.arb.egressLine s.store.identityRegion s.store.settingsRegion
    s.store.libraryRegion s.openChoices
  .next { t with power := { t.power with part := .unpowered } }

/-! ### The load (R194, R198, R199) -/

/-- The items of SETTINGS when it is replaced by defaults (R194). -/
def StoredSettings.default : StoredSettings :=
  { catalog := Vector.replicate 16 CatalogEntry.default, spans := Vector.replicate 32 ZoneSpan.default,
    triggers := Vector.replicate 24 (triggerToBytes Trigger.empty), curve := Curve.default,
    portA := PortSettings.default, portB := PortSettings.default, u := Config.one, policy := policyCode .resume,
    egressScene := 0, lockAfterStartUp := false }

/-- A library region's content is whole: no more than 32 records, no more than 1024 cues, every image complete
(R194). -/
def libraryWhole (l : List StoredScene) : Bool :=
  decide (l.length ≤ Config.maxScenes) && decide ((l.map (·.image.length)).sum ≤ Config.maxStoredCues) &&
    l.all fun c => decide (c.image.length = c.scene.length)

/-- The library region is good (R194). -/
def Store.goodLibrary (k : Store) : Option (List StoredScene) := k.libraryRegion.filter libraryWhole

/-- Some region fails its check (R194). -/
def Store.failing (k : Store) : Bool :=
  k.identityRegion.isNone || k.settingsRegion.isNone || k.goodLibrary.isNone

/-- The stored curve as it is loaded: factors limited to 1024, the default curve when the counts do not ascend
strictly (R198, R154). -/
def Curve.loaded (c : Curve) : Curve :=
  let limit (p : CurvePoint) : CurvePoint := { p with factor := min p.factor Config.one }
  if c.ascending then ⟨limit c.p0, limit c.p1, limit c.p2, limit c.p3, limit c.p4⟩ else Curve.default

/-- A port with its stored items: P within 5–40, budget at most 6000; the divisor follows from pre and sel (R198). -/
def Port.load (p : Port) (k : PortSettings) : Port :=
  { p with pre := k.pre, sel := k.sel, period := clampPeriod k.period, budget := min k.budget Config.maxBudget }

/-- The working values of SETTINGS are handed to their owners (R198, R160). -/
def State.loadSettings (s : State) (k : StoredSettings) : State :=
  let curve := k.curve.loaded
  { s with
    arb := { s.arb with u := min k.u Config.one, policy := (policy? k.policy).getD .resume }
    dir := { s.dir with catalog := k.catalog, spans := k.spans }
    portA := s.portA.load k.portA
    portB := s.portB.load k.portB
    amb := { s.amb with curve := curve, measured := curve.value 0 }
    triggers := k.triggers.map fun bytes => (triggerOfBytes bytes).getD Trigger.empty
    store := { s.store with egressScene := k.egressScene, lockAfterStartUp := k.lockAfterStartUp } }

/-- The stored records that pass: id not 0, not the id of an earlier stored record, range and level in bounds (R45,
R199). `seen` holds the ids of the earlier records. -/
def passing : List StoredScene → List Nat → List StoredScene
  | [], _ => []
  | c :: rest, seen =>
    if c.scene.id ≠ 0 && !seen.contains c.scene.id && c.scene.inBounds then c :: passing rest (c.scene.id :: seen)
    else passing rest (c.scene.id :: seen)

/-- The working library and the pool are filled, later images over earlier ones (R199, R29). -/
def State.loadLibrary (s : State) (l : List StoredScene) : State :=
  let good := passing l []
  { s with
    library := good.foldl (fun library c => insertScene library c.scene) []
    pool := good.foldl (fun pool c => Pool.writeAll pool c.scene.base (c.image.map Cue.stored)) [] }

/-- Steps 2 to 4 of the start-up (R196). -/
def State.load (s : State) : State :=
  let t := { s with store := { s.store with identity := s.store.identityRegion.getD Identity.default } }
  let t := (t.loadSettings (s.store.settingsRegion.getD StoredSettings.default)).loadLibrary
    (s.store.goodLibrary.getD [])
  let t := t.raiseIf s.store.failing .storeInvalid
  { t with dir := { t.dir with locked := t.dir.locked || (t.store.lockAfterStartUp && !t.power.plantHigh) } }

/-- Steps 5 and 6 of the start-up: AWAKE, the start of a latched slot 11 (R27), and both ports' identify passes
(R139). -/
def State.enterAwake (s : State) : State :=
  let t := { s with power := { s.power with part := .awake } }
  let t := if (t.layer egressSlot).latch then t.startEgress else t
  (t.beginPass .a).beginPass .b

/-- STARTUP_COMPLETE (R196). -/
def execStartupComplete (s : State) : Result :=
  .next (if s.power.part = .starting then s.load.enterAwake.settle else s)

/-! ### Storing (R200 to R202) -/

/-- The items of a port that SETTINGS holds. -/
def Port.settings (p : Port) : PortSettings := ⟨p.pre, p.sel, p.period, p.budget⟩

/-- The SETTINGS snapshot of the working values (R200). -/
def State.settingsSnapshot (s : State) : StoredSettings :=
  { catalog := s.dir.catalog, spans := s.dir.spans, triggers := s.triggers.map triggerToBytes, curve := s.amb.curve,
    portA := s.portA.settings, portB := s.portB.settings, u := s.arb.u, policy := policyCode s.arb.policy,
    egressScene := s.store.egressScene, lockAfterStartUp := s.store.lockAfterStartUp }

/-- The owner of STORE SETTINGS (R200). -/
def storeSettings (p : List Byte) (s : State) : Answer :=
  match boolCode? (byteAt p 1) with
  | none => .plain s .invalid
  | some lock =>
    if s.store.op ≠ .idle then .plain s .busy
    else
      let t := { s with store := { s.store with egressScene := byteAt p 0, lockAfterStartUp := lock } }
      .plain { t with store := { t.store with settingsRegion := none, op := .settings t.settingsSnapshot } } .accepted

/-- STORE_SETTINGS (R200). -/
def execStoreSettings (tag : Byte) (payload : List Byte) (s : State) : Result :=
  .next (s.serve ⟨0x60, tag, payload⟩ true (storeSettings payload))

/-- The LIBRARY snapshot: every scene record with the image of its ring (R201). -/
def State.librarySnapshot (s : State) : List StoredScene :=
  s.library.map fun c => ⟨c, (List.range c.length).map fun k => (s.pool.read (c.base + k)).stored⟩

/-- The owner of STORE LIBRARY (R201). -/
def storeLibrary (s : State) : Answer :=
  if s.store.op ≠ .idle then .plain s .busy
  else if Config.maxStoredCues < (s.library.map (·.length)).sum then .plain s .invalid
  else .plain { s with store := { s.store with libraryRegion := none, op := .library s.librarySnapshot } } .accepted

/-- STORE_LIBRARY (R201). -/
def execStoreLibrary (tag : Byte) (payload : List Byte) (s : State) : Result :=
  .next (s.serve ⟨0x61, tag, payload⟩ true storeLibrary)

/-- The end of a write: a region that reads back right holds its snapshot, another stays failing; the STORE NOTICE is
queued (R202). -/
def State.endWrite (s : State) (matched : Bool) : State :=
  match s.store.op with
  | .idle => s
  | .settings k =>
    ({ s with store := { s.store with op := .idle, settingsRegion := if matched then some k else none } }).queueAll
      [.store .settings matched]
  | .library l =>
    ({ s with store := { s.store with op := .idle, libraryRegion := if matched then some l else none } }).queueAll
      [.store .library matched]

/-- STORE_WRITE_END (R202). -/
def execStoreWriteEnd (matched : Bool) (s : State) : Result :=
  .next (if s.awake && decide (s.store.op ≠ .idle) then (s.endWrite matched).settle else s)

/-! ### RESTART (R204) -/

/-- The hold of R182, from the dispatch of the request that imposes it. -/
def State.holdFor (s : State) (h : Hold) : State := { s with link := { s.link with hold := h, replySent := false } }

/-- The owner of RESTART (R204). -/
def restart (s : State) : Answer :=
  if s.store.op ≠ .idle then .plain s .busy else .plain (s.holdFor .restart) .ok

/-- RESTART (R204). -/
def execRestart (tag : Byte) (payload : List Byte) (s : State) : Result :=
  .next (s.serve ⟨0x62, tag, payload⟩ true restart)

/-- RESTART_TAKEN: what power-on does, with the PLANT sample and the catalog lock kept (R204). -/
def execRestartTaken (s : State) : Result :=
  .next
    (if s.awake && decide (s.link.hold = .restart) && s.link.replySent then
      let t := State.powerOn s.pending s.power.plantHigh s.arb.egressLine s.store.identityRegion
        s.store.settingsRegion s.store.libraryRegion s.openChoices
      { t with dir := { t.dir with locked := s.dir.locked } }
    else s)

/-! ### SLEEP and DORMANT (R205 to R209) -/

/-- A port at SLEEP (R146): one found RELEASED goes OFF with its drivers high impedance; the notice of an abandoned pass
is returned. -/
def State.sleepPort (s : State) (c : Chain) : State × List Notice :=
  let lit : Bool := (s.port c).state = .running || (s.port c).state = .enumerating
  let (t, notices) := s.takeOff c
  (t.onPort c fun p => { p with wakeMark := lit, cutAtSleep := p.state = .released,
                                state := if p.state = .released then .off else p.state }, notices)

/-- Every layer that is not IDLE is stopped, and hush is ended (R28). -/
def State.stopLayers (s : State) : State × List Notice :=
  let (t, notices) := s.endLayers (fun _ l => decide (l.state ≠ .idle)) .stopped
  (({ t with arb := { t.arb with hush := 0 } } : State).evalFloor, notices)

/-- An accepted SLEEP, as one event (R205). The order of its notices is free (log 6). -/
def State.fallAsleep (s : State) : State :=
  let (t, cuts) := s.stopLayers
  let (t, passA) := t.sleepPort .a
  let (t, passB) := t.sleepPort .b
  let t := { t with power := { t.power with sleepPending := true }, amb := t.amb.discard }
  (t.holdFor .sleep).queueOpen (cuts ++ passA ++ passB)

/-- The owner of SLEEP (R205). -/
def sleep (s : State) : Answer :=
  if (s.layer alertSlot).latch ∨ (s.layer egressSlot).latch then .plain s .alertActive
  else if s.store.op ≠ .idle then .plain s .busy
  else .plain s.fallAsleep .ok

/-- SLEEP (R205). -/
def execSleep (tag : Byte) (payload : List Byte) (s : State) : Result :=
  .next (s.serve ⟨0x63, tag, payload⟩ true sleep)

/-- No transfer of the port is in progress or waits: its closing dark frame has ended. -/
def Port.quiet (p : Port) : Bool := p.transfer.isNone && p.waiting.isEmpty

/-- Both conditions of R206 hold: the SLEEP reply has left SLO in full, and the closing dark frames have ended. -/
def State.sleepDone (s : State) : Bool :=
  s.awake && s.power.sleepPending && decide (s.link.hold = .sleep) && s.link.replySent && s.portA.quiet &&
    s.portB.quiet

/-- DORMANT_ENTRY (R206, R182, R146). -/
def execDormantEntry (s : State) : Result :=
  .next
    (if s.sleepDone then
      { s with
        power := { s.power with part := .dormant, sleepPending := false }
        link := { s.link with receiver := .waitIdle, rxBuffer := [], hold := .none, replySent := false }
        portA := s.portA.dormant
        portB := s.portB.dormant }
    else s)

/-- The Arbiter from a wake: all layers IDLE, floor 0, hush inactive, the debounce restarted (R28, R209, R24). -/
def Arbiter.wake (a : Arbiter) : Arbiter :=
  { a with layers := a.layers.map fun l => { l with state := .idle }, floor := 0, hush := 0, egressLevel := false,
           egressTimer := Config.debounceTicks }

/-- A wake (R209). -/
def State.wake (s : State) : State :=
  ({ s with
     power := { s.power with part := .awake }
     arb := s.arb.wake
     link := { s.link with receiver := .waitIdle, txStopped := false }
     portA := s.portA.wake
     portB := s.portB.wake
     amb := s.amb.restart }).settle

/-- WAKE_BY_LINK: a falling edge on SLI in DORMANT (R208). -/
def execWakeByLink (s : State) : Result := .next (if s.power.part = .dormant then s.wake else s)

/-- WAKE_BY_EGRESS: the EGRESS line is asserted in DORMANT (R208). -/
def execWakeByEgress (s : State) : Result :=
  .next (if s.power.part = .dormant && s.arb.egressLine then s.wake else s)

end Sys2Proof.Machine
end

