-- ==== Sys2Proof/Machine/TriggerRequests.lean ====
section
/-! DEFINITION. Machine/TriggerRequests.lean: the Trigger Unit (08): VEHICLE_EVENT, PUT_TRIGGER and GET_TRIGGER. -/

namespace Sys2Proof.Machine

/-! ### Matching (R161) -/

/-- The entry's code and mask take the event code. -/
def Trigger.takes (t : Trigger) (code : BitVec 16) : Bool := t.valid && (code &&& t.mask = t.code &&& t.mask)

/-- The scan from an entry on: an end-of-table entry ends it, the first valid entry that takes the code is the match. -/
def scanFrom (code : BitVec 16) : List Trigger → Nat → Option (Nat × Trigger)
  | [], _ => none
  | t :: rest, i => if t.endOfTable then none else if t.takes code then some (i, t) else scanFrom code rest (i + 1)

/-- The matching entry of the table (R161). -/
def scan (table : Triggers) (code : BitVec 16) : Option (Nat × Trigger) := scanFrom code table.toList 0

/-! ### Actions (8.3) -/

/-- START_SCENE with replace no (R163). -/
def State.triggerStart (s : State) (i : Slot) (c : Scene) (level : Nat) : State × Status :=
  if (s.layer i).state ≠ .idle then (s, .busy)
  else if s.overlaps (fun _ => true) c.base c.length .resident then (s, .overlap)
  else if s.belowFloor i level s.arb.floor then (s, .belowFloor)
  else (s.startRing i (c.ring level c.exclusive), .ok)

/-- START_SCENE with replace yes: the checks leave the slot's present layer out of account; the layer is stopped with
R5, and the start follows in the same event, with one floor evaluation after it (R164). -/
def State.triggerReplace (s : State) (i : Slot) (c : Scene) (level : Nat) : State × Status :=
  if s.overlaps (fun j => decide (j ≠ i)) c.base c.length .resident then (s, .overlap)
  else if s.belowFloor i level (s.floorWithout i) then (s, .belowFloor)
  else
    let stopped :=
      if (s.layer i).state = .idle then s
      else
        let (t, notices) := s.endLayers (fun j _ => decide (j = i)) .stopped
        t.queueAll notices
    (stopped.startRing i (c.ring level c.exclusive), .ok)

/-- START_SCENE of an entry (R163, R164). -/
def State.triggerScene (s : State) (t : Trigger) : State × Status :=
  match slotOf t.slot, findScene s.library t.sceneId with
  | none, _ => (s, .invalid)
  | some _, none => (s, .notFound)
  | some i, some c =>
    if t.replace then s.triggerReplace i c (c.resolve t.level) else s.triggerStart i c (c.resolve t.level)

/-- The state and the status of an answer without data. -/
def Answer.pair (a : Answer) : State × Status := (a.state, a.status)

/-- The entry's action with its status (R163 to R168). A slot that PUT TRIGGER refuses is in no loaded entry (R170). -/
def State.act (s : State) (t : Trigger) : State × Status :=
  match t.action with
  | .none => (s, .ok)
  | .startScene => s.triggerScene t
  | .stopAtEnd =>
    match slotOf t.slot with
    | some i => (s.stopAtEnd i).pair
    | none => (s, .invalid)
  | .raiseAlert => (s.raiseAlert t.sceneId t.exclusive).pair
  | .clearAlert =>
    match slotOf t.slot with
    | some i => (s.clearAlert i (!t.replace)).pair
    | none => (s, .invalid)

/-! ### Requests -/

/-- The owner of VEHICLE EVENT: scan, action, notice, reply (R162, R169). -/
def vehicleEvent (p : List Byte) (s : State) : Answer :=
  let code := BitVec.ofNat 16 (wordAt p 0)
  match scan s.triggers code with
  | none => .plain s .notFound
  | some (i, t) =>
    let (acted, status) := s.act t
    .plain (if t.report then acted.queueAll [.trigger code i status] else acted) .ok

/-- VEHICLE_EVENT (R162). -/
def execVehicleEvent (tag : Byte) (payload : List Byte) (s : State) : Result :=
  .next (s.serve ⟨0x58, tag, payload⟩ true (vehicleEvent payload))

/-- The owner of PUT TRIGGER (R170, R171). -/
def putTrigger (p : List Byte) (s : State) : Answer :=
  if h : byteAt p 0 < 24 then
    match triggerOfBytes (p.drop 1) with
    | some t => .plain { s with triggers := s.triggers.set (byteAt p 0) t } .ok
    | none => .plain s .invalid
  else .plain s .invalid

/-- PUT_TRIGGER (R170). -/
def execPutTrigger (tag : Byte) (payload : List Byte) (s : State) : Result :=
  .next (s.serve ⟨0x59, tag, payload⟩ true (putTrigger payload))

/-- The owner of GET TRIGGER (R172). -/
def getTrigger (p : List Byte) (s : State) : Answer :=
  match s.triggers[byteAt p 0]? with
  | some t => ⟨s, .ok, be8 (byteAt p 0) ++ triggerToBytes t⟩
  | none => .plain s .invalid

/-- GET_TRIGGER (R172). -/
def execGetTrigger (tag : Byte) (payload : List Byte) (s : State) : Result :=
  .next (s.serve ⟨0x5A, tag, payload⟩ true (getTrigger payload))

end Sys2Proof.Machine
end

