-- ==== Sys2Proof/Machine/Dispatch.lean ====
section
/-! DEFINITION. Machine/Dispatch.lean: one arm per command. -/

namespace Sys2Proof.Machine

def exec (i : Instr) (s : State) : Host.Outcome State Fault Refusal :=
  match i with
  | .powerOn plantHigh => Sys2Proof.Machine.execPowerOn plantHigh s
  | .startupComplete => Sys2Proof.Machine.execStartupComplete s
  | .supplyRemoval => Sys2Proof.Machine.execSupplyRemoval s
  | .tick order => Sys2Proof.Machine.execTick order s
  | .hushExpiry => Sys2Proof.Machine.execHushExpiry s
  | .egressLineChange asserted => Sys2Proof.Machine.execEgressLineChange asserted s
  | .debouncedAssertion => Sys2Proof.Machine.execDebouncedAssertion s
  | .debouncedDeassertion => Sys2Proof.Machine.execDebouncedDeassertion s
  | .luxEdge => Sys2Proof.Machine.execLuxEdge s
  | .gateWindowEnd => Sys2Proof.Machine.execGateWindowEnd s
  | .periodStart chain => Sys2Proof.Machine.execPeriodStart chain s
  | .renderComplete chain => Sys2Proof.Machine.execRenderComplete chain s
  | .latchPoint chain => Sys2Proof.Machine.execLatchPoint chain s
  | .shiftEnd chain trailer => Sys2Proof.Machine.execShiftEnd chain trailer s
  | .identifyRequestEnd chain => Sys2Proof.Machine.execIdentifyRequestEnd chain s
  | .settleEnd chain => Sys2Proof.Machine.execSettleEnd chain s
  | .collectEnd chain returned => Sys2Proof.Machine.execCollectEnd chain returned s
  | .collectMarkerTimeout chain => Sys2Proof.Machine.execCollectMarkerTimeout chain s
  | .foreignActivity chain => Sys2Proof.Machine.execForeignActivity chain s
  | .foreignQuiet chain => Sys2Proof.Machine.execForeignQuiet chain s
  | .frameReceived characters => Sys2Proof.Machine.execFrameReceived characters s
  | .framingError => Sys2Proof.Machine.execFramingError s
  | .interByteTimeout => Sys2Proof.Machine.execInterByteTimeout s
  | .linkBreak => Sys2Proof.Machine.execLinkBreak s
  | .waitIdleEnd => Sys2Proof.Machine.execWaitIdleEnd s
  | .transmitComplete => Sys2Proof.Machine.execTransmitComplete s
  | .unknownKind kind tag payload => Sys2Proof.Machine.execUnknownKind kind tag payload s
  | .reportKindDiscard kind tag payload => Sys2Proof.Machine.execReportKindDiscard kind tag payload s
  | .ping tag payload => Sys2Proof.Machine.execPing tag payload s
  | .getStatus tag payload => Sys2Proof.Machine.execGetStatus tag payload s
  | .getCounters tag payload => Sys2Proof.Machine.execGetCounters tag payload s
  | .setEventMask tag payload => Sys2Proof.Machine.execSetEventMask tag payload s
  | .clearEvents tag payload => Sys2Proof.Machine.execClearEvents tag payload s
  | .startLayer tag payload => Sys2Proof.Machine.execStartLayer tag payload s
  | .startScene tag payload => Sys2Proof.Machine.execStartScene tag payload s
  | .stopLayerImmediate tag payload => Sys2Proof.Machine.execStopLayerImmediate tag payload s
  | .stopLayerAtEnd tag payload => Sys2Proof.Machine.execStopLayerAtEnd tag payload s
  | .setLevel tag payload => Sys2Proof.Machine.execSetLevel tag payload s
  | .getLayer tag payload => Sys2Proof.Machine.execGetLayer tag payload s
  | .setMaster tag payload => Sys2Proof.Machine.execSetMaster tag payload s
  | .hush tag payload => Sys2Proof.Machine.execHush tag payload s
  | .setPolicy tag payload => Sys2Proof.Machine.execSetPolicy tag payload s
  | .raiseAlert tag payload => Sys2Proof.Machine.execRaiseAlert tag payload s
  | .clearAlertAtEnd tag payload => Sys2Proof.Machine.execClearAlertAtEnd tag payload s
  | .clearAlertImmediate tag payload => Sys2Proof.Machine.execClearAlertImmediate tag payload s
  | .loadCues tag payload => Sys2Proof.Machine.execLoadCues tag payload s
  | .readCues tag payload => Sys2Proof.Machine.execReadCues tag payload s
  | .putScene tag payload => Sys2Proof.Machine.execPutScene tag payload s
  | .putSceneRemove tag payload => Sys2Proof.Machine.execPutSceneRemove tag payload s
  | .getScene tag payload => Sys2Proof.Machine.execGetScene tag payload s
  | .enumerate tag payload => Sys2Proof.Machine.execEnumerate tag payload s
  | .getNode tag payload => Sys2Proof.Machine.execGetNode tag payload s
  | .putCatalog tag payload => Sys2Proof.Machine.execPutCatalog tag payload s
  | .getCatalog tag payload => Sys2Proof.Machine.execGetCatalog tag payload s
  | .putZoneSpan tag payload => Sys2Proof.Machine.execPutZoneSpan tag payload s
  | .lockCatalog tag payload => Sys2Proof.Machine.execLockCatalog tag payload s
  | .setChainTiming tag payload => Sys2Proof.Machine.execSetChainTiming tag payload s
  | .setChainBudget tag payload => Sys2Proof.Machine.execSetChainBudget tag payload s
  | .setChainStateOff tag payload => Sys2Proof.Machine.execSetChainStateOff tag payload s
  | .setChainStateOn tag payload => Sys2Proof.Machine.execSetChainStateOn tag payload s
  | .reclaimChain tag payload => Sys2Proof.Machine.execReclaimChain tag payload s
  | .setCurve tag payload => Sys2Proof.Machine.execSetCurve tag payload s
  | .setAmbientOverrideOn tag payload => Sys2Proof.Machine.execSetAmbientOverrideOn tag payload s
  | .setAmbientOverrideOff tag payload => Sys2Proof.Machine.execSetAmbientOverrideOff tag payload s
  | .getAmbient tag payload => Sys2Proof.Machine.execGetAmbient tag payload s
  | .vehicleEvent tag payload => Sys2Proof.Machine.execVehicleEvent tag payload s
  | .putTrigger tag payload => Sys2Proof.Machine.execPutTrigger tag payload s
  | .getTrigger tag payload => Sys2Proof.Machine.execGetTrigger tag payload s
  | .storeSettings tag payload => Sys2Proof.Machine.execStoreSettings tag payload s
  | .storeLibrary tag payload => Sys2Proof.Machine.execStoreLibrary tag payload s
  | .storeWriteEnd matched => Sys2Proof.Machine.execStoreWriteEnd matched s
  | .restart tag payload => Sys2Proof.Machine.execRestart tag payload s
  | .restartTaken => Sys2Proof.Machine.execRestartTaken s
  | .sleep tag payload => Sys2Proof.Machine.execSleep tag payload s
  | .dormantEntry => Sys2Proof.Machine.execDormantEntry s
  | .wakeByLink => Sys2Proof.Machine.execWakeByLink s
  | .wakeByEgress => Sys2Proof.Machine.execWakeByEgress s

end Sys2Proof.Machine
end

