-- ==== Sys2Proof/Machine/Pins.lean ====
section
/-! DEFINITION. Machine/Pins.lean: what stands on the outputs of the part: SLO (R173, R182, R206) and, for each chain, CKx
with DOx (R125, R126, R140, R146). The pins hold no state of their own (log 20). -/

namespace Sys2Proof.Machine

/-! ### SLO -/

/-- SLO: a frame's characters, or the idle level, high. -/
inductive SloLine where
  | frame (bits : List Bool)
  | high
deriving DecidableEq, Repr

/-- SLO carries the frame in transmission while the part is STARTING or AWAKE; it is high between frames and in DORMANT
(R173, R206). -/
def State.slo (s : State) : SloLine :=
  match s.link.tx with
  | some f => if s.running then .frame f.frame.lineBits else .high
  | none => .high

/-! ### CKx and DOx -/

/-- The words a transfer clocks out on DOx, in order, most significant bit first (R125): the start word, the node words in
position order, and the word that closes them (R126, R140). The port goes on clocking after them, for a trailer or for
answers. -/
def Transfer.bits (t : Transfer) : List Bool :=
  wordBits t.words.1 ++ t.nodeWords.flatMap wordBits ++ wordBits t.words.2

/-- CKx and DOx: driven with a transfer's bits, released to a weak hold at their idle level, or high impedance (R125). -/
inductive ChainLines where
  | driven (bits : List Bool)
  | weakHold
  | highImpedance
deriving DecidableEq, Repr

/-- The lines of a chain: high impedance without supply (00), in DORMANT, in RELEASED, and in an OFF port that SLEEP found
RELEASED, while that sleep is pending (R125, R144, R146, R206; log 37); driven during a transfer; on a weak hold
between transfers (R125). -/
def State.chainLines (s : State) (c : Chain) : ChainLines :=
  let p := s.port c
  if !s.running || decide (p.state = .released) || (s.power.sleepPending && p.cutAtSleep && decide (p.state = .off)) then
    .highImpedance
  else
    match p.transfer with
    | some t => .driven t.bits
    | none => .weakHold

end Sys2Proof.Machine
end

