-- ==== Sys2Proof/WellFormed.lean ====
section
/-! DEFINITION. WellFormed.lean: the terms of Instr that name something the part's surroundings can do. The machine
gives every term a meaning; a term that is not well formed changes nothing or reads past what it lists (log 2, log 5,
log 17, log 18). -/

namespace Sys2Proof

open Machine

/-- Each slot at most once, and slots only (R50). -/
def orderWellFormed (order : List Nat) : Bool := order.all (· < 12) && decide order.Nodup

/-- A payload of the link: 0 to 240 bytes (11.1). -/
def payloadWellFormed (payload : List Byte) : Bool := decide (payload.length ≤ Config.maxPayload)

/-- A trailer of a frame of at most 128 nodes: the marker's two bytes and one byte a node (R127). -/
def trailerWellFormed (trailer : List Byte) : Bool :=
  decide (2 ≤ trailer.length) && decide (trailer.length ≤ Config.maxNodes + 2)

/-- The bytes returned after the collect marker: at most 128 answers, each behind its mark and complete, and the byte
that ends the pass (R140, R141). -/
def answersWellFormed : Nat → List Byte → Bool
  | _, [] => false
  | 0, rest => decide (rest.length = 1)
  | left + 1, b :: rest =>
    if b = answerMark then
      if (rest.getD 6 0).getLsbD 0 then decide (24 ≤ rest.length) && answersWellFormed left (rest.drop 24)
      else decide (8 ≤ rest.length) && answersWellFormed left (rest.drop 8)
    else rest.isEmpty

/-- Whether a field of a payload lets a variant's row be the one dispatched: a payload of another length is answered
LENGTH, and no field is read (R211). -/
def fieldAllows (payload : List Byte) (length offset : Nat) (other : Nat) : Bool :=
  payload.length ≠ length || byteAt payload offset ≠ other

/-- The command is one its row describes. -/
def Instr.wellFormed : Instr → Bool
  | .powerOn _ => true
  | .startupComplete => true
  | .supplyRemoval => true
  | .tick order => orderWellFormed order
  | .hushExpiry => true
  | .egressLineChange _ => true
  | .debouncedAssertion => true
  | .debouncedDeassertion => true
  | .luxEdge => true
  | .gateWindowEnd => true
  | .periodStart _ => true
  | .renderComplete _ => true
  | .latchPoint _ => true
  | .shiftEnd _ trailer => trailerWellFormed trailer
  | .identifyRequestEnd _ => true
  | .settleEnd _ => true
  | .collectEnd _ returned => answersWellFormed Config.maxNodes returned
  | .collectMarkerTimeout _ => true
  | .foreignActivity _ => true
  | .foreignQuiet _ => true
  | .frameReceived characters => !characters.isEmpty
  | .framingError => true
  | .interByteTimeout => true
  | .linkBreak => true
  | .waitIdleEnd => true
  | .transmitComplete => true
  | .unknownKind kind _ payload => !isReportKind kind && !namesRequest kind && payloadWellFormed payload
  | .reportKindDiscard kind _ payload => isReportKind kind && payloadWellFormed payload
  | .ping _ p => payloadWellFormed p
  | .getStatus _ p => payloadWellFormed p
  | .getCounters _ p => payloadWellFormed p
  | .setEventMask _ p => payloadWellFormed p
  | .clearEvents _ p => payloadWellFormed p
  | .startLayer _ p => payloadWellFormed p
  | .startScene _ p => payloadWellFormed p
  | .stopLayerImmediate _ p => payloadWellFormed p && fieldAllows p 2 1 1
  | .stopLayerAtEnd _ p => payloadWellFormed p && fieldAllows p 2 1 0
  | .setLevel _ p => payloadWellFormed p
  | .getLayer _ p => payloadWellFormed p
  | .setMaster _ p => payloadWellFormed p
  | .hush _ p => payloadWellFormed p
  | .setPolicy _ p => payloadWellFormed p
  | .raiseAlert _ p => payloadWellFormed p
  | .clearAlertAtEnd _ p => payloadWellFormed p && fieldAllows p 2 1 0
  | .clearAlertImmediate _ p => payloadWellFormed p && fieldAllows p 2 1 1
  | .loadCues _ p => payloadWellFormed p
  | .readCues _ p => payloadWellFormed p
  | .putScene _ p => payloadWellFormed p && (decide (p.length ≠ 7) || decide (wordAt p 3 ≠ 0))
  | .putSceneRemove _ p => payloadWellFormed p && (decide (p.length ≠ 7) || decide (wordAt p 3 = 0))
  | .getScene _ p => payloadWellFormed p
  | .enumerate _ p => payloadWellFormed p
  | .getNode _ p => payloadWellFormed p
  | .putCatalog _ p => payloadWellFormed p
  | .getCatalog _ p => payloadWellFormed p
  | .putZoneSpan _ p => payloadWellFormed p
  | .lockCatalog _ p => payloadWellFormed p
  | .setChainTiming _ p => payloadWellFormed p
  | .setChainBudget _ p => payloadWellFormed p
  | .setChainStateOff _ p => payloadWellFormed p && fieldAllows p 2 1 1
  | .setChainStateOn _ p => payloadWellFormed p && fieldAllows p 2 1 0
  | .reclaimChain _ p => payloadWellFormed p
  | .setCurve _ p => payloadWellFormed p
  | .setAmbientOverrideOn _ p => payloadWellFormed p && fieldAllows p 3 0 0
  | .setAmbientOverrideOff _ p => payloadWellFormed p && fieldAllows p 3 0 1
  | .getAmbient _ p => payloadWellFormed p
  | .vehicleEvent _ p => payloadWellFormed p
  | .putTrigger _ p => payloadWellFormed p
  | .getTrigger _ p => payloadWellFormed p
  | .storeSettings _ p => payloadWellFormed p
  | .storeLibrary _ p => payloadWellFormed p
  | .storeWriteEnd _ => true
  | .restart _ p => payloadWellFormed p
  | .restartTaken => true
  | .sleep _ p => payloadWellFormed p
  | .dormantEntry => true
  | .wakeByLink => true
  | .wakeByEgress => true

end Sys2Proof
end

