-- ==== Sys2Proof/Safety.lean ====
section
/-! DEFINITION. Safety.lean: the terms the statements use: when a request is dispatched, what its answer leaves, and the
laws of spec/ that every step keeps. -/

namespace Sys2Proof.Machine

/-- A step is safe when it answers a next state: the part never faults, and no command is refused. -/
def Safe (s : State) : Prop := ∃ t, step s = .next t

/-! ### Requests -/

/-- The frame of a request command: its row's kind (11.3), the TAG and the payload. The other commands have none. -/
def requestFrame? : Instr → Option LinkFrame
  | .ping tag p => some ⟨0x01, tag, p⟩
  | .getStatus tag p => some ⟨0x02, tag, p⟩
  | .getCounters tag p => some ⟨0x03, tag, p⟩
  | .setEventMask tag p => some ⟨0x04, tag, p⟩
  | .clearEvents tag p => some ⟨0x05, tag, p⟩
  | .startLayer tag p => some ⟨0x10, tag, p⟩
  | .startScene tag p => some ⟨0x11, tag, p⟩
  | .stopLayerImmediate tag p => some ⟨0x12, tag, p⟩
  | .stopLayerAtEnd tag p => some ⟨0x12, tag, p⟩
  | .setLevel tag p => some ⟨0x13, tag, p⟩
  | .getLayer tag p => some ⟨0x14, tag, p⟩
  | .setMaster tag p => some ⟨0x15, tag, p⟩
  | .hush tag p => some ⟨0x16, tag, p⟩
  | .setPolicy tag p => some ⟨0x17, tag, p⟩
  | .raiseAlert tag p => some ⟨0x18, tag, p⟩
  | .clearAlertAtEnd tag p => some ⟨0x19, tag, p⟩
  | .clearAlertImmediate tag p => some ⟨0x19, tag, p⟩
  | .loadCues tag p => some ⟨0x20, tag, p⟩
  | .readCues tag p => some ⟨0x21, tag, p⟩
  | .putScene tag p => some ⟨0x22, tag, p⟩
  | .putSceneRemove tag p => some ⟨0x22, tag, p⟩
  | .getScene tag p => some ⟨0x23, tag, p⟩
  | .enumerate tag p => some ⟨0x30, tag, p⟩
  | .getNode tag p => some ⟨0x31, tag, p⟩
  | .putCatalog tag p => some ⟨0x32, tag, p⟩
  | .getCatalog tag p => some ⟨0x33, tag, p⟩
  | .putZoneSpan tag p => some ⟨0x34, tag, p⟩
  | .lockCatalog tag p => some ⟨0x35, tag, p⟩
  | .setChainTiming tag p => some ⟨0x40, tag, p⟩
  | .setChainBudget tag p => some ⟨0x41, tag, p⟩
  | .setChainStateOff tag p => some ⟨0x42, tag, p⟩
  | .setChainStateOn tag p => some ⟨0x42, tag, p⟩
  | .reclaimChain tag p => some ⟨0x43, tag, p⟩
  | .setCurve tag p => some ⟨0x50, tag, p⟩
  | .setAmbientOverrideOn tag p => some ⟨0x51, tag, p⟩
  | .setAmbientOverrideOff tag p => some ⟨0x51, tag, p⟩
  | .getAmbient tag p => some ⟨0x52, tag, p⟩
  | .vehicleEvent tag p => some ⟨0x58, tag, p⟩
  | .putTrigger tag p => some ⟨0x59, tag, p⟩
  | .getTrigger tag p => some ⟨0x5A, tag, p⟩
  | .storeSettings tag p => some ⟨0x60, tag, p⟩
  | .storeLibrary tag p => some ⟨0x61, tag, p⟩
  | .restart tag p => some ⟨0x62, tag, p⟩
  | .sleep tag p => some ⟨0x63, tag, p⟩
  | _ => none

/-- The part is AWAKE and frame `f` is the one to be dispatched now (R180). -/
def State.ready (s : State) (f : LinkFrame) : Bool := s.awake && s.atDispatch f

/-- The state after frame `f` is dispatched and answered: the frame has left the buffer, its owner has done `effect`,
the reply with `status` and `data` joins the unsent replies, and a free transmitter takes its next frame (R180, R181,
R183). Every part of the state that `effect` leaves alone, but the link, is unchanged. -/
def State.answered (s : State) (f : LinkFrame) (status : Status) (data : List Byte) (effect : State → State) : State :=
  ((effect s.takeFrame).reply f status data).settle

/-- The reply to frame `f`, with `status` and the request's `data`, has joined the unsent replies: behind those not begun
while a frame is in transmission, and as the frame in transmission where the transmitter was free with no other reply
(R181, R183). -/
def State.replied (s t : State) (f : LinkFrame) (status : Status) (data : List Byte) : Prop :=
  let r : LinkFrame := ⟨f.kind + 0x80, f.tag, be8 status.code ++ data⟩
  (s.link.tx ≠ none → t.link.replies = s.link.replies ++ [r] ∧ t.link.tx = s.link.tx) ∧
    (s.link.tx = none → s.link.txStopped = false → s.link.replies = [] →
      t.link.replies = [] ∧ t.link.tx = some ⟨true, r⟩)

/-- Nothing but the layers' records, the floor, the pool, the link and the free orders used differs between two
states. -/
def State.sameButLayers (s t : State) : Prop :=
  t.pending = s.pending ∧ t.power = s.power ∧ t.library = s.library ∧ t.compA = s.compA ∧ t.compB = s.compB ∧
    t.dir = s.dir ∧ t.portA = s.portA ∧ t.portB = s.portB ∧ t.amb = s.amb ∧ t.triggers = s.triggers ∧
    t.store = s.store ∧ t.arb.policy = s.arb.policy ∧ t.arb.master = s.arb.master ∧ t.arb.u = s.arb.u ∧
    t.arb.hush = s.arb.hush ∧ t.arb.egressLine = s.arb.egressLine ∧ t.arb.egressLevel = s.arb.egressLevel ∧
    t.arb.egressTimer = s.arb.egressTimer

/-- What a floor makes of the layer of slot `i`: under RESUME a scene layer at or above it that was SUSPENDED runs, and
one below it that was RUNNING or STARVED is SUSPENDED (R7); under CANCEL the one below it is cut (R8). -/
def Layer.underFloor (l : Layer) (policy : Policy) (floor : Nat) (i : Slot) : Layer :=
  if isScene i = false then l
  else
    match policy with
    | .resume =>
      if l.state = .suspended ∧ floor ≤ l.level then { l with state := .running }
      else if l.state.playing = true ∧ l.level < floor then { l with state := .suspended }
      else l
    | .cancel => if l.state.playing = true ∧ l.level < floor then l.toIdle i .cut else l

/-- The floor is the highest level among the exclusive layers left RUNNING or STARVED (R6), and every slot holds what
that floor makes of the record `before` (R7, R8). -/
def State.settledFrom (t : State) (policy : Policy) (before : Slot → Layer) : Prop :=
  t.arb.floor = highestLevel t.arb.layers (fun _ l => l.state.playing) ∧
    ∀ i : Slot, t.layer i = (before i).underFloor policy t.arb.floor i

/-- The records of `s` with the record of slot `i` replaced. -/
def State.layersWith (s : State) (i : Slot) (l : Layer) : Slot → Layer := fun j => if j = i then l else s.layer j

/-- The record of slot `i` as an accepted START writes it, before the floor evaluation: PARKED for a scene slot at level
0, else RUNNING (R11). -/
def State.startedIn (s : State) (i : Slot) (r : RingStart) : Layer :=
  (s.layer i).started r (if isScene i = true ∧ r.level = 0 then .parked else .running)

/-- The pool is written only where an immediate end gives a begun STREAM cue back: ready clear, status CUT (R5). -/
def State.poolYields (s t : State) : Prop :=
  ∀ k, t.pool.read k = s.pool.read k ∨
    (t.pool.read k = { s.pool.read k with ready := false, status := .cut } ∧
      ∃ i : Slot, (s.layer i).ownsCue = true ∧ (s.layer i).cueIndex = k ∧ (s.layer i).state ≠ .idle ∧
        (t.layer i).state = .idle)

/-! ### The first failing check of a request -/

/-- The slot of that number is not IDLE. -/
def State.slotBusy (s : State) (slot : Nat) : Bool := decide (∃ i : Slot, i.val = slot ∧ (s.layer i).state ≠ .idle)

/-- A ring shares an index of the pool with the ring of a layer that is not IDLE, and either of the two is STREAM (R10,
R42). -/
def State.ringTaken (s : State) (base length : Nat) (mode : RingMode) : Bool :=
  decide (∃ j : Slot, (s.layer j).conflicts base length mode = true)

/-- The status of START LAYER: the exclusive field, which R10 does not check, then the checks of R10 in their order (R210,
R10). -/
def State.startLayerStatus (s : State) (p : List Byte) : Status :=
  let slot := byteAt p 0
  let level := byteAt p 1
  let base := wordAt p 3
  let length := wordAt p 5
  let mode : RingMode := if byteAt p 7 = 0 then .stream else .resident
  if 1 < byteAt p 2 then .invalid
  else if 11 ≤ slot then .invalid
  else if (slot ≤ 9 ∧ 7 < level) ∨ (slot = 10 ∧ (level < 8 ∨ 14 < level)) then .invalid
  else if length = 0 ∨ 256 < length ∨ 2048 < base + length ∨ 1 < byteAt p 7 ∨ length ≤ byteAt p 8 then .invalid
  else if s.slotBusy slot = true then .busy
  else if s.ringTaken base length mode = true then .overlap
  else if s.arb.policy = .cancel ∧ slot ≤ 9 ∧ level ≠ 0 ∧ level < s.arb.floor then .belowFloor
  else .ok

/-- The status of START SCENE: the checks of R12 in their order. -/
def State.startSceneStatus (s : State) (p : List Byte) : Status :=
  let slot := byteAt p 0
  if 9 < slot then .invalid
  else if byteAt p 1 = 0 then .invalid
  else if 7 < byteAt p 2 ∧ byteAt p 2 ≠ 0xFF then .invalid
  else
    match findScene s.library (byteAt p 1) with
    | none => .notFound
    | some c =>
      let level := if byteAt p 2 = 0xFF then c.level else byteAt p 2
      if s.slotBusy slot = true then .busy
      else if s.ringTaken c.base c.length .resident = true then .overlap
      else if s.arb.policy = .cancel ∧ level ≠ 0 ∧ level < s.arb.floor then .belowFloor
      else .ok

/-- The status of RAISE ALERT: the cases of R21. -/
def State.raiseAlertStatus (s : State) (p : List Byte) : Status :=
  if byteAt p 0 = 0 ∨ 1 < byteAt p 1 then .invalid
  else
    match findScene s.library (byteAt p 0) with
    | none => .notFound
    | some c =>
      if (s.layer alertSlot).state ≠ .idle then
        if (s.layer alertSlot).sceneId = byteAt p 0 then .already else .busy
      else if s.ringTaken c.base c.length .resident = true then .overlap
      else .ok

/-- The status of SET LEVEL: the checks of R15 in their order. -/
def State.setLevelStatus (s : State) (p : List Byte) : Status :=
  let slot := byteAt p 0
  let level := byteAt p 1
  if 11 ≤ slot then .invalid
  else if (slot ≤ 9 ∧ 7 < level) ∨ (slot = 10 ∧ (level < 8 ∨ 14 < level)) then .invalid
  else if s.arb.policy = .cancel ∧ slot ≤ 9 ∧ s.slotBusy slot = true ∧ level ≠ 0 ∧
      (∃ j : Slot, j.val ≠ slot ∧ (s.layer j).exclusive = true ∧ (s.layer j).state.playing = true ∧
        level < (s.layer j).level) then
    .belowFloor
  else .ok

/-- The status of LOAD CUES: the checks of R38 in their order. -/
def State.loadCuesStatus (s : State) (p : List Byte) : Status :=
  let n := (p.length - 2) / 13
  let i := wordAt p 0
  if p.length < 15 ∨ 236 < p.length ∨ (p.length - 2) % 13 ≠ 0 then .length
  else if 2047 < i ∨ 2048 < i + n then .invalid
  else if ∃ k < n, 5 < byteAt p (2 + 13 * k) then .invalid
  else if ∃ k < n, s.owned (i + k) = true then .busy
  else .ok

/-- The status of PUT SCENE: the checks of R46 in their order; with length 0 those of R47. -/
def State.putSceneStatus (s : State) (p : List Byte) : Status :=
  if byteAt p 0 = 0 then .invalid
  else if wordAt p 3 = 0 then (if findScene s.library (byteAt p 0) = none then .already else .ok)
  else if 2047 < wordAt p 1 ∨ 256 < wordAt p 3 ∨ 2048 < wordAt p 1 + wordAt p 3 then .invalid
  else if 7 < byteAt p 5 ∨ 1 < byteAt p 6 then .invalid
  else if findScene s.library (byteAt p 0) = none ∧ 32 ≤ s.library.length then .busy
  else .ok

/-- The status of PUT CATALOG: the checks of R121 in their order. -/
def State.putCatalogStatus (s : State) (p : List Byte) : Status :=
  if 15 < byteAt p 0 then .invalid
  else if 1 < byteAt p 1 ∨ 1 < byteAt p 19 then .invalid
  else if 1000 < wordAt p 13 ∨ 1000 < wordAt p 15 ∨ 1000 < wordAt p 17 then .invalid
  else if s.dir.locked = true then .locked
  else .ok

/-- The status of PUT ZONE SPAN: the checks of R123 in their order. -/
def State.putSpanStatus (s : State) (p : List Byte) : Status :=
  if 31 < byteAt p 0 then .invalid
  else if 1 < byteAt p 1 ∨ 1 < byteAt p 2 then .invalid
  else if 127 < byteAt p 3 ∨ 127 < byteAt p 4 then .invalid
  else if byteAt p 4 < byteAt p 3 then .invalid
  else if s.dir.locked = true then .locked
  else .ok

/-- The status of PUT TRIGGER: the checks of R170 in their order. -/
def putTriggerStatus (p : List Byte) : Status :=
  let slot := byteAt p 8
  let level := byteAt p 10
  if 23 < byteAt p 0 then .invalid
  else if 1 < byteAt p 1 ∨ 1 < byteAt p 2 ∨ 1 < byteAt p 12 ∨ 1 < byteAt p 13 ∨ 1 < byteAt p 11 then .invalid
  else if 4 < byteAt p 7 then .invalid
  else if byteAt p 7 = 1 ∧ (9 < slot ∨ byteAt p 9 = 0 ∨ (7 < level ∧ level ≠ 0xFF)) then .invalid
  else if byteAt p 7 = 2 ∧ 9 < slot then .invalid
  else if byteAt p 7 = 3 ∧ byteAt p 9 = 0 then .invalid
  else if byteAt p 7 = 4 ∧ slot ≠ 10 ∧ slot ≠ 11 then .invalid
  else .ok

/-! ### Stored libraries -/

/-- The record at place `k` of a stored library passes: its id is not 0 and no earlier record has it, and its range and
level are in bounds (R45, R199). That an earlier record counts whether or not it passed itself is the model's reading:
log 31. -/
def passesAt (l : List StoredScene) (k : Nat) (c : StoredScene) : Prop :=
  l[k]? = some c ∧ c.scene.id ≠ 0 ∧ (∀ j d, j < k → l[j]? = some d → d.scene.id ≠ c.scene.id) ∧
    c.scene.base < 2048 ∧ 1 ≤ c.scene.length ∧ c.scene.length ≤ 256 ∧ c.scene.base + c.scene.length ≤ 2048 ∧
    c.scene.level ≤ 7

/-! ### Ticks -/

/-- In AWAKE slot `i` is RUNNING and every other slot is IDLE or PARKED: a tick handles slot `i` alone (R50, R3). -/
def State.playsAlone (s : State) (i : Slot) : Prop :=
  s.power.part = .awake ∧ (s.layer i).state = .running ∧
    ∀ j : Slot, j ≠ i → (s.layer j).state = .idle ∨ (s.layer j).state = .parked

/-- The layer plays a RESIDENT ring of the pool. -/
def Layer.inPool (l : Layer) : Prop := l.ringMode = .resident ∧ l.fallback = false

/-- The cue is a HOLD of duration above 0: a handling that begins it rests there (R58). -/
def Cue.rests (c : Cue) : Prop := c.kind = .hold ∧ 0 < c.duration

/-- Slot `i` stands RUNNING at the cue of index `next` of the pool of `s`, just begun there (R52, R58). -/
def State.begins (t : State) (i : Slot) (s : State) (next : Nat) : Prop :=
  (t.layer i).state = .running ∧ (t.layer i).cueIndex = next ∧ (t.layer i).cueBegun = true ∧
    (t.layer i).elapsed = 0 ∧ (t.layer i).captured.kind = .hold ∧
    (t.layer i).captured.duration = (s.pool.read next).duration ∧ (t.layer i).selector = (s.pool.read next).selector

/-- While the transmitter is busy, the notice joins the queue of `s` where `notify`, and nothing else does (R74, R184). -/
def State.notices (s t : State) (notify : Bool) (n : Notice) : Prop :=
  s.link.tx ≠ none → t.link.notices = if notify then (s.link.queue n).notices else s.link.notices

/-- What R64 to R66 make of the LOOP `c` at the cursor of `l`: the loop stack and the overflow mark it leaves, and the index
the cursor moves to. -/
def Layer.loopTakes (l : Layer) (c : Cue) (stack : List LoopEntry) (overflow : Bool) (next : Nat) : Prop :=
  let jump := if c.loopTarget < l.ringLength then l.ringBase + c.loopTarget else l.ringBase
  let onward := if c.wrap = true ∨ l.ringBase + l.ringLength ≤ l.cueIndex + 1 then l.ringBase else l.cueIndex + 1
  let absent := ∀ e ∈ l.loopStack, e.index ≠ l.cueIndex
  (∃ above below left, l.loopStack = above ++ ⟨l.cueIndex, left⟩ :: below ∧ (∀ e ∈ above, e.index ≠ l.cueIndex) ∧
      overflow = l.loopOverflow ∧
      if l.finishing = true then stack = below ∧ next = onward
      else
        match left with
        | none => stack = ⟨l.cueIndex, none⟩ :: below ∧ next = jump
        | some (n + 1) => stack = ⟨l.cueIndex, some n⟩ :: below ∧ next = jump
        | some 0 => stack = below ∧ next = onward) ∨
    (absent ∧ l.finishing = true ∧ stack = l.loopStack ∧ overflow = l.loopOverflow ∧ next = onward) ∨
    (absent ∧ l.finishing = false ∧ l.loopStack.length < 4 ∧
      stack = ⟨l.cueIndex, if c.width = 0 then none else some (c.width - 1)⟩ :: l.loopStack ∧
      overflow = l.loopOverflow ∧ next = jump) ∨
    (absent ∧ l.finishing = false ∧ 4 ≤ l.loopStack.length ∧ stack = l.loopStack ∧ overflow = true ∧ next = onward)

/-- The EGRESS line has been asserted for the debounce time, and the debounced level has yet to follow (R24; log 4). -/
def State.debounceOver (s : State) : Prop :=
  s.arb.egressLine = true ∧ s.arb.egressLevel = false ∧ s.arb.egressTimer ≤ 1

/-! ### Laws kept by every step -/

/-- The cue pool is in its canonical form. -/
def PoolCanonical (s : State) : Prop := s.pool.wf = true

/-- The queues of the link hold no more than the manual lets them: 16 notices, 2 frames, 2 unsent replies (R184,
R180). -/
def LinkBounded (s : State) : Prop :=
  s.link.notices.length ≤ Config.maxNotices ∧ s.link.rxBuffer.length ≤ Config.maxFrames ∧
    s.link.unsent ≤ Config.maxUnsent

/-- The floor is the highest level among the exclusive layers that are RUNNING or STARVED; no RUNNING or STARVED scene
layer is below it; slots 10 and 11 are never SUSPENDED or PARKED; under CANCEL no layer is SUSPENDED (R6, R3, R8). Until
the part is AWAKE every layer is IDLE (R2). -/
def FloorHolds (s : State) : Prop :=
  s.arb.floor = highestLevel s.arb.layers (fun _ l => l.state.playing) ∧
  (∀ i : Slot, isScene i = true → (s.layer i).state.playing = true → s.arb.floor ≤ (s.layer i).level) ∧
  (∀ i : Slot, isScene i = false → (s.layer i).state ≠ .suspended ∧ (s.layer i).state ≠ .parked) ∧
  (s.arb.policy = .cancel → ∀ i : Slot, (s.layer i).state ≠ .suspended) ∧
  (s.power.part = .starting ∨ s.power.part = .unpowered → ∀ i : Slot, (s.layer i).state = .idle)

/-- The level of a slot lies in the range of its kind (R1). -/
def levelInRange (i : Slot) (level : Nat) : Prop :=
  if isScene i then level ≤ 7 else if i = alertSlot then 8 ≤ level ∧ level ≤ 14 else level = 15

/-- Every scene record names a range of the pool and a level of a scene slot (R45). -/
def LibraryInBounds (s : State) : Prop := ∀ c ∈ s.library, c.inBounds = true

/-- A START_SCENE entry names a scene slot and a level that PUT TRIGGER takes (R170, check 4). -/
def TriggersSound (s : State) : Prop :=
  ∀ i : Fin 24, (s.triggers[i]).action = .startScene →
    (s.triggers[i]).slot ≤ 9 ∧ ((s.triggers[i]).level ≤ 7 ∨ (s.triggers[i]).level = levelDefault)

/-- Every slot holds a level of its kind (R1), with what the levels of starts are taken from. -/
def LevelsHold (s : State) : Prop :=
  (∀ i : Slot, levelInRange i (s.layer i).level) ∧ LibraryInBounds s ∧ TriggersSound s

/-- A layer that is not IDLE stands inside its ring, and a ring that is not the fallback ring lies inside the pool
(R33). -/
def Layer.inRing (l : Layer) : Prop :=
  l.state ≠ .idle →
    l.ringBase ≤ l.cueIndex ∧ l.cueIndex < l.ringBase + l.ringLength ∧
      (l.fallback = true ∨ l.ringBase + l.ringLength ≤ Config.poolSize)

/-- Every cursor stands inside its ring (R33), and no two layers that are not IDLE have overlapping rings when either is
in STREAM mode (R42). -/
def RingsHold (s : State) : Prop :=
  (∀ i : Slot, (s.layer i).inRing) ∧
  (∀ i j : Slot, i ≠ j → (s.layer i).state ≠ .idle → (s.layer i).fallback = false →
    (s.layer j).conflicts (s.layer i).ringBase (s.layer i).ringLength (s.layer i).ringMode = false) ∧
  LibraryInBounds s

/-- While the debounced EGRESS level is asserted, the slot 11 latch is set (R24). -/
def EgressLatched (s : State) : Prop := s.arb.egressLevel = true → (s.layer egressSlot).latch = true

/-- U, measured A and the override value lie in 0 to 1024, the hush in 0 to 600 s, and the curve's counts ascend with
factors of at most 1024 (R18, R19, R91, R152). -/
def FactorsHold (s : State) : Prop :=
  s.arb.u ≤ Config.one ∧ s.arb.hush ≤ Config.maxHush * 1000 ∧ s.amb.measured ≤ Config.one ∧
    s.amb.overrideValue ≤ Config.one ∧ s.amb.curve.ascending = true ∧
    ∀ q ∈ s.amb.curve.points, q.factor ≤ Config.one

/-- A transfer that takes its frame from the send buffer. -/
def Transfer.fromBuffer : Transfer → Bool
  | .duty _ .pending _ => true
  | .duty _ .repeated _ => true
  | _ => false

/-- Outside RUNNING a port's send buffer is empty, latched since RUNNING is no, no render of its chain is in flight, and
no shift takes its frame from the send buffer; a finished frame belongs to a render in flight (R83, R130, R80). -/
def PortHolds (p : Port) (k : Comp) : Prop :=
  (p.state ≠ .running →
    p.pendingFrame = none ∧ p.lastLatched = none ∧ p.latchedSince = false ∧ k.render = none ∧
      ∀ t, p.transfer = some t → t.fromBuffer = false) ∧
  (k.buffer ≠ none → k.render ≠ none)

/-- Both ports hold to R83 and R130; until the part is AWAKE they are OFF (R131, R196). -/
def PortsHold (s : State) : Prop :=
  PortHolds s.portA s.compA ∧ PortHolds s.portB s.compB ∧
    (s.power.part = .starting ∨ s.power.part = .unpowered → s.portA.state = .off ∧ s.portB.state = .off)

/-- The ranges of a port record (R130): runs of at most 3, saturating counters, P of 5 to 40, a budget of at most
6000. -/
def Port.inRange (p : Port) : Prop :=
  p.failingRun ≤ 3 ∧ p.correctRun ≤ 3 ∧ p.repeatedFrames ≤ Config.counterTop ∧ p.abortedFrames ≤ Config.counterTop ∧
    p.loopBreaks ≤ Config.counterTop ∧ 5 ≤ p.period ∧ p.period ≤ 40 ∧ p.budget ≤ Config.maxBudget

/-- Both port records are in their ranges, and every link counter is at most 65535 (R130, R189). -/
def CountersHold (s : State) : Prop :=
  s.portA.inRange ∧ s.portB.inRange ∧ s.link.crcErrors ≤ Config.counterTop ∧
    s.link.framingErrors ≤ Config.counterTop ∧ s.link.timeouts ≤ Config.counterTop ∧
    s.link.overlength ≤ Config.counterTop ∧ s.link.overruns ≤ Config.counterTop

/-- Every record has the calibration that selection gives it from the working catalog and the zone code that the working
spans give its position; a chain holds at most 128 records, and none until the part is AWAKE (R110, R111, R113, R102,
R104). -/
def DirectoryCurrent (s : State) : Prop :=
  (∀ c : Chain, (s.dir.nodes c).length ≤ Config.maxNodes ∧
    ∀ p n, (s.dir.nodes c)[p]? = some n → n.select s.dir.catalog = n ∧ n.zone = zoneAt s.dir.spans c p) ∧
  (s.power.part = .starting ∨ s.power.part = .unpowered → s.dir.nodesA = [] ∧ s.dir.nodesB = [])

/-- The working library holds at most 32 records, in ascending order of their ids, no two with one id, each in bounds
(R45). -/
def LibraryHolds (s : State) : Prop :=
  s.library.length ≤ Config.maxScenes ∧ (s.library.map (·.id)).Pairwise (· < ·) ∧ LibraryInBounds s

/-- No loop stack holds more than 4 entries or two for one LOOP cue, and no layer has taken more than 16 zero-duration
steps (R63, R68). -/
def StacksHold (s : State) : Prop :=
  ∀ i : Slot, (s.layer i).loopStack.length ≤ Config.maxLoops ∧ ((s.layer i).loopStack.map (·.index)).Nodup ∧
    (s.layer i).stepCount ≤ Config.maxSteps

end Sys2Proof.Machine
end

