-- ==== Sys2Proof/Certificates/Slice0/Obligations.lean ====
section
/-! DEFINITION. Certificates/Slice0/Obligations.lean: the statements for the provers. Each docstring names the rules of
spec/ the statement formalises. -/

section

open Sys2Proof Sys2Proof.Machine

/-! ### The machine as a whole -/

/-- One step runs the command at the front of the queue on the state with the queue's rest, and idles on an empty queue
(the queue is the model's own: log 1). No step faults and none is refused: the manual describes nothing that halts the
part (95; log 2). -/
def Obligations.StepRunsFrontCommand : Prop :=
  (∀ (s : State) (c : Instr) (rest : List Instr),
    step { s with pending := c :: rest } = exec c { s with pending := rest } ∧
      step { s with pending := [] } = .next { s with pending := [] }) ∧
  ∀ s : State, Safe s

/-- Every law of Safety.lean holds after reset. The values of State.reset that the spec does not give are the model's
choices: log 7, log 8, log 9. -/
def Obligations.LawsHoldAtReset : Prop :=
  PoolCanonical State.reset ∧ LinkBounded State.reset ∧ FloorHolds State.reset ∧ LevelsHold State.reset ∧
    RingsHold State.reset ∧ EgressLatched State.reset ∧ FactorsHold State.reset ∧ PortsHold State.reset ∧
    CountersHold State.reset ∧ DirectoryCurrent State.reset ∧ LibraryHolds State.reset ∧ StacksHold State.reset

/-- Every step keeps the pool in its canonical form. -/
def Obligations.StepKeepsPoolCanonical : Prop :=
  ∀ s t : State, PoolCanonical s → step s = .next t → PoolCanonical t

/-- Every step keeps the bounds of the link's queues (R180, R184). -/
def Obligations.StepKeepsLinkBounded : Prop :=
  ∀ s t : State, LinkBounded s → step s = .next t → LinkBounded t

/-- Every step keeps the law of the floor (R6, R3, R8). -/
def Obligations.StepKeepsFloor : Prop :=
  ∀ s t : State, FloorHolds s → step s = .next t → FloorHolds t

/-- Every step keeps every slot's level in the range of its kind (R1). -/
def Obligations.StepKeepsLevels : Prop :=
  ∀ s t : State, LevelsHold s → step s = .next t → LevelsHold t

/-- Every step keeps cursors inside their rings and the law of ring overlap (R33, R42). -/
def Obligations.StepKeepsRings : Prop :=
  ∀ s t : State, RingsHold s → step s = .next t → RingsHold t

/-- Every step keeps slot 11 latched while the debounced EGRESS level is asserted (R24). -/
def Obligations.StepKeepsEgressLatched : Prop :=
  ∀ s t : State, EgressLatched s → step s = .next t → EgressLatched t

/-- Every step keeps the ranges: U, the hush, the dimming curve, measured A and the override value (R18, R19, R91, R152);
the port records, their runs, periods and budgets, and the eleven counters (R130, R189). -/
def Obligations.StepKeepsRanges : Prop :=
  ∀ s t : State, step s = .next t → (FactorsHold s → FactorsHold t) ∧ (CountersHold s → CountersHold t)

/-- Every step keeps the send buffer empty and no render in flight outside RUNNING (R83, R130). -/
def Obligations.StepKeepsPorts : Prop :=
  ∀ s t : State, PortsHold s → step s = .next t → PortsHold t

/-- Every step keeps every node record calibrated from the working catalog and zoned from the working spans (R110, R111,
R113). -/
def Obligations.StepKeepsDirectoryCurrent : Prop :=
  ∀ s t : State, DirectoryCurrent s → step s = .next t → DirectoryCurrent t

/-- Every step keeps the working library within 32 records of distinct ids, each in bounds, and loop stacks within 4
entries, no two for one LOOP, with step counts within 16 (R45, R63, R68). That the library stands in ascending order
of ids is the model's reading: log 34. -/
def Obligations.StepKeepsLibraryAndStacks : Prop :=
  ∀ s t : State, step s = .next t → (LibraryHolds s → LibraryHolds t) ∧ (StacksHold s → StacksHold t)

/-- Once set, the catalog lock stays set until the next power-on; while it is set, only the start-up load and a restart
replace the catalog and the spans (R124). -/
def Obligations.CatalogLockFreezes : Prop :=
  ∀ (c : Instr) (s t : State), s.dir.locked = true → exec c s = .next t → (∀ h, c ≠ .powerOn h) →
    c ≠ .supplyRemoval →
    t.dir.locked = true ∧
      (c ≠ .startupComplete → c ≠ .restartTaken → t.dir.catalog = s.dir.catalog ∧ t.dir.spans = s.dir.spans)

/-- Only CLEAR EVENTS and a reset bring a flag back to CLEAR, and a REPORTED flag is not SET anew before that (R185,
R188). -/
def Obligations.FlagsPersist : Prop :=
  ∀ (c : Instr) (s t : State) (f : Flag), exec c s = .next t → (∀ tag p, c ≠ .clearEvents tag p) →
    (∀ h, c ≠ .powerOn h) → c ≠ .supplyRemoval → c ≠ .restartTaken →
    (s.link.flag f ≠ .clear → t.link.flag f ≠ .clear) ∧ (s.link.flag f = .reported → t.link.flag f = .reported)

/-- What an event on one chain's wires does leaves the other chain's port, render and node records alone (06, opening;
R75, R83, R103). -/
def Obligations.ChainsAreIndependent : Prop :=
  ∀ (c d : Chain) (i : Instr) (trailer returned : List Byte) (s t : State), c ≠ d →
    i ∈ [Instr.periodStart c, .renderComplete c, .latchPoint c, .shiftEnd c trailer, .identifyRequestEnd c,
      .settleEnd c, .collectEnd c returned, .collectMarkerTimeout c, .foreignActivity c, .foreignQuiet c] →
    exec i s = .next t →
    t.port d = s.port d ∧ t.comp d = s.comp d ∧ t.dir.nodes d = s.dir.nodes d ∧ t.arb = s.arb ∧ t.pool = s.pool

/-- The part state moves only by the table of chapter 10: STARTING is entered at power-on and by a restart, AWAKE from
STARTING at the end of the load and from DORMANT by a wake, DORMANT from AWAKE by its entry; a supply removal ends all
(R196, R204, R206, R208, R203). UNPOWERED is the model's state of the part without supply (log 7). -/
def Obligations.PartStateMoves : Prop :=
  ∀ (c : Instr) (s t : State), exec c s = .next t → t.power.part ≠ s.power.part →
    ((∃ h, c = .powerOn h) ∧ t.power.part = .starting) ∨
      (c = .supplyRemoval ∧ t.power.part = .unpowered) ∨
      (c = .restartTaken ∧ s.power.part = .awake ∧ t.power.part = .starting) ∨
      (c = .startupComplete ∧ s.power.part = .starting ∧ t.power.part = .awake) ∨
      (c = .dormantEntry ∧ s.power.part = .awake ∧ t.power.part = .dormant) ∨
      ((c = .wakeByLink ∨ c = .wakeByEgress) ∧ s.power.part = .dormant ∧ t.power.part = .awake)

/-- The stored regions change by the two STORE requests and the end of a write alone, and IDENTITY never (R193, R202,
R203). -/
def Obligations.RegionsChangeByStores : Prop :=
  ∀ (c : Instr) (s t : State), exec c s = .next t →
    t.store.identityRegion = s.store.identityRegion ∧
      ((∀ tag p, c ≠ .storeSettings tag p) → (∀ m, c ≠ .storeWriteEnd m) →
        t.store.settingsRegion = s.store.settingsRegion) ∧
      ((∀ tag p, c ≠ .storeLibrary tag p) → (∀ m, c ≠ .storeWriteEnd m) →
        t.store.libraryRegion = s.store.libraryRegion)

/-! ### Encodings -/

/-- The receiver in HUNT that takes a frame's bytes delivers exactly that frame, whatever its kind, TAG and payload of at
most 240 bytes (R174, R176, R177, 11.1). -/
def Obligations.ReceiverTakesFrame : Prop :=
  ∀ (l : Link) (f : LinkFrame), l.receiver = .hunt → f.payload.length ≤ Config.maxPayload →
    f.bytes.foldl Link.takeByte l = l.deliver f

/-- A cue record whose fields fit their bytes is read back from its thirteen bytes with status NONE (R212, 11.8), and a
trigger entry that PUT TRIGGER takes is read back from the thirteen bytes that GET TRIGGER returns and SETTINGS holds
(R170, R172). -/
def Obligations.RecordsRoundTrip : Prop :=
  (∀ c : Cue, c.colour.r < 256 → c.colour.g < 256 → c.colour.b < 256 → c.opacity < 256 → c.duration < 65536 →
     c.width < 256 → c.loopTarget < 256 →
     (cueToBytes c).length = Config.cueBytes ∧ cueOfBytes (cueToBytes c) = some { c with status := .none }) ∧
  ∀ (p : List Byte) (t : Trigger), triggerOfBytes p = some t →
    (triggerToBytes t).length = 13 ∧ triggerOfBytes (triggerToBytes t) = some t

/-! ### The arithmetic of drawing -/

/-- A FADE's component begins at its start value, ends at its target, and lies between them (R57). -/
def Obligations.FadeStaysBetween : Prop :=
  ∀ a b e d : Nat, 0 < d → e ≤ d →
    fadeValue a b 0 d = a ∧ fadeValue a b d d = b ∧ min a b ≤ fadeValue a b e d ∧ fadeValue a b e d ≤ max a b

/-- The top layer of a node is a covering layer of the greatest (level, slot); an uncovered node has none (R88, R89). -/
def Obligations.TopLayerIsGreatest : Prop :=
  ∀ (p : Snapshot) (n : SnapNode),
    ((p.compose n).2 = none ↔ ∀ l ∈ p.layers, l.covers p.zones n = none) ∧
      ∀ top, (p.compose n).2 = some top →
        top ∈ p.layers ∧ top.covers p.zones n ≠ none ∧
          ∀ l ∈ p.layers, l.covers p.zones n ≠ none → l.level < top.level ∨ (l.level = top.level ∧ l.slot ≤ top.slot)

/-- Every rendered frame has one entry per node; every duty is within its node's cap, and the frame's draw, open channels
not counted, is within the budget (R79, R94, R98). -/
def Obligations.FrameWithinCapsAndBudget : Prop :=
  ∀ p : Snapshot,
    p.frame.entries.length = p.nodes.length ∧
      (∀ e ∈ p.frame.entries.zip p.nodes,
        e.1.duty.r ≤ e.2.cap ∧ e.1.duty.g ≤ e.2.cap ∧ e.1.duty.b ≤ e.2.cap) ∧
      ((p.frame.entries.zip p.nodes).map fun e => drawOf e.1.duty e.2.drawn).sum ≤ p.budget * 10 * 4095

/-! ### Power -/

/-- POWER_ON puts the part in STARTING with the PLANT sample taken, every layer IDLE at its slot's level, the pool
empty, no renders, no records, unlocked, ports OFF, and the link reset; the stored regions and the lines stand as they
are (R195, R196, R2, R29, R84, R104, R124, R130, R154, R192, R202). SUPPLY_REMOVAL ends all activity: the part is
without supply, every layer IDLE, both ports OFF with no transfer; the regions keep their content (R203; log 24). That
the EGRESS line keeps its level, and the values without supply, are the model's choices: log 7, log 24. -/
def Obligations.PowerComesAndGoes : Prop :=
  (∀ (h : Bool) (s : State), ∃ t, exec (.powerOn h) s = .next t ∧
     t.power = { part := .starting, sleepPending := false, plantHigh := h } ∧
     (∀ i : Slot, t.layer i = Layer.reset (resetLevel i)) ∧ t.arb.floor = 0 ∧ t.arb.master = true ∧ t.arb.hush = 0 ∧
     t.arb.egressLevel = false ∧ t.arb.egressLine = s.arb.egressLine ∧ (∀ k, t.pool.read k = Cue.empty) ∧
     (∀ c : Chain, (t.comp c).render = none ∧ (t.comp c).buffer = none ∧ (t.comp c).lateMark = false ∧
       (t.comp c).scaleMark = false ∧ (t.comp c).lastScale = 4096 ∧ (t.comp c).lastTotal = 0 ∧
       t.dir.nodes c = [] ∧ (t.port c).state = .off ∧ (t.port c).transfer = none ∧ (t.port c).pendingFrame = none ∧
       (t.port c).lastLatched = none ∧ (t.port c).loopBroken = false) ∧
     t.dir.locked = false ∧ t.amb.windowOpen = false ∧ t.amb.seeded = false ∧ t.amb.stale = false ∧
     t.link = Link.reset ∧ t.store.op = .idle ∧ t.store.identityRegion = s.store.identityRegion ∧
     t.store.settingsRegion = s.store.settingsRegion ∧ t.store.libraryRegion = s.store.libraryRegion ∧
     t.pending = s.pending) ∧
  ∀ s : State, ∃ t, exec .supplyRemoval s = .next t ∧ t.power.part = .unpowered ∧
    (∀ i : Slot, (t.layer i).state = .idle) ∧
    (∀ c : Chain, (t.port c).state = .off ∧ (t.port c).transfer = none ∧ (t.comp c).render = none) ∧
    t.link = Link.reset ∧ t.store.op = .idle ∧ t.store.identityRegion = s.store.identityRegion ∧
    t.store.settingsRegion = s.store.settingsRegion ∧ t.store.libraryRegion = s.store.libraryRegion ∧
    t.pending = s.pending

/-- STARTUP_COMPLETE takes the working values from the regions or their defaults, every item of SETTINGS among them
and measured A at the curve's value at level 0, locks the catalog when SETTINGS asks for it and PLANT is low, enters
AWAKE, starts a latched slot 11, and begins both identify passes; with LIBRARY failing the library and the pool are
empty; what a good LIBRARY fills is StartupFillsPool's to say (R194, R196, R198, R199, R128, R160, R154, R124, R27, R139). That the load is taken whole at this command is the
model's reading: log 33. -/
def Obligations.StartupLoadsAndWakes : Prop :=
  ∀ s : State, s.power.part = .starting → s.portA.quiet = true → s.portB.quiet = true →
    ∃ t, exec .startupComplete s = .next t ∧ t.power = { s.power with part := .awake } ∧
      t.store.identity = s.store.identityRegion.getD Identity.default ∧
      (let k := s.store.settingsRegion.getD StoredSettings.default
       t.dir.catalog = k.catalog ∧ t.dir.spans = k.spans ∧ t.arb.u = min k.u 1024 ∧
         t.arb.policy = (policy? k.policy).getD .resume ∧ t.store.egressScene = k.egressScene ∧
         t.amb.curve = k.curve.loaded ∧
         t.dir.locked = (s.dir.locked || (k.lockAfterStartUp && !s.power.plantHigh)) ∧
         t.portA.period = clampPeriod k.portA.period ∧ t.portB.budget = min k.portB.budget 6000 ∧
         t.portA.pre = k.portA.pre ∧ t.portA.sel = k.portA.sel ∧ t.portA.budget = min k.portA.budget 6000 ∧
         t.portB.pre = k.portB.pre ∧ t.portB.sel = k.portB.sel ∧ t.portB.period = clampPeriod k.portB.period ∧
         (∀ i : Fin 24, t.triggers[i] = (triggerOfBytes k.triggers[i]).getD Trigger.empty) ∧
         t.store.lockAfterStartUp = k.lockAfterStartUp ∧ t.amb.measured = k.curve.loaded.value 0) ∧
      (s.store.goodLibrary = none → t.library = [] ∧ (FloorHolds s → ∀ i, t.pool.read i = Cue.empty)) ∧
      (s.store.failing = true → t.link.flag .storeInvalid ≠ .clear) ∧
      ((s.layer egressSlot).latch = true → (t.layer egressSlot).state = .running) ∧
      (∀ c : Chain, (t.port c).state = .enumerating ∧ (t.port c).transfer = some .request ∧
        t.dir.nodes c = s.dir.nodes c)

/-- With one good record in LIBRARY, the start-up leaves that scene alone in the working library and its image in the
pool, with ready clear and status NONE; every other index holds the empty record. With several, the working library holds
exactly the scenes of the records that pass, in ascending order of ids; a record that fails is passed over with its
image; an index that images of several passing records cover has the record of the last in stored order, and one that
none covers the empty record (R199, R45, R29). Which earlier records a repeated id is held against, and the order of the
library, are the model's reading: log 31, log 34. -/
def Obligations.StartupFillsPool : Prop :=
  (∀ (s : State) (c : StoredScene), FloorHolds s → s.power.part = .starting → s.store.libraryRegion = some [c] → c.scene.id ≠ 0 →
    c.scene.inBounds = true → c.image.length = c.scene.length →
    ∃ t, exec .startupComplete s = .next t ∧ t.library = [c.scene] ∧
      (∀ (k : Nat) (h : k < c.image.length), t.pool.read (c.scene.base + k) = (c.image[k]).stored) ∧
      ∀ i, i < c.scene.base ∨ c.scene.base + c.scene.length ≤ i → t.pool.read i = Cue.empty) ∧
  ∀ (s : State) (l : List StoredScene), FloorHolds s → s.power.part = .starting → s.store.libraryRegion = some l →
    l.length ≤ 32 → (l.map fun c => c.image.length).sum ≤ 1024 → (∀ c ∈ l, c.image.length = c.scene.length) →
    ∃ t, exec .startupComplete s = .next t ∧ (t.library.map fun r => r.id).Pairwise (· < ·) ∧
      (∀ r : Scene, r ∈ t.library ↔ ∃ k c, passesAt l k c ∧ c.scene = r) ∧
      (∀ (k : Nat) (c : StoredScene) (n : Nat) (x : Cue), passesAt l k c → c.image[n]? = some x →
        (∀ j d, k < j → passesAt l j d →
          c.scene.base + n < d.scene.base ∨ d.scene.base + d.scene.length ≤ c.scene.base + n) →
        t.pool.read (c.scene.base + n) = { x with ready := false, status := .none }) ∧
      ∀ i, (∀ k c, passesAt l k c → i < c.scene.base ∨ c.scene.base + c.scene.length ≤ i) →
        t.pool.read i = Cue.empty

/-! ### The timebase, EGRESS and the light sensor -/

/-- TICK in AWAKE lowers an active hush by 1 ms, and sets HUSH_END when it reaches 0; the debounce counts while the
line differs from the debounced level; a RUNNING port's period timer, a settle, and the quiet ticks of a port with
foreign active set count down; an open gate window counts down, and with none open and no sleep pending one of 100
ticks opens with its counter at 0; U, the master switch, the policy, the EGRESS levels, ports, renders, node records,
tables, the library and the store are not touched otherwise; the layers, the floor, the pool and the link are the matter of
TickLeavesAlone, TickAdvancesCue and StreamHandsCuesOver (R20, R24, R129, R140, R144, R148, R149). That timers count
ticks left and stay at 0, how a window's timer starts, and that the quiet ticks count also while the port drives CKx, are
the model's choices: log 4, log 16, log 41. -/
def Obligations.TickCountsTime : Prop :=
  ∀ (order : List Nat) (s : State), s.power.part = .awake → ∃ t, exec (.tick order) s = .next t ∧
    t.arb.hush = s.arb.hush - 1 ∧ (s.arb.hush = 1 → t.link.flag .hushEnd ≠ .clear) ∧
    t.arb.egressTimer = (if s.arb.egressLine = s.arb.egressLevel then s.arb.egressTimer else s.arb.egressTimer - 1) ∧
    t.portA = s.portA.tick ∧ t.portB = s.portB.tick ∧
    (∀ c : Chain, (s.port c).state = .running → (t.port c).periodTimer = (s.port c).periodTimer - 1) ∧
    (∀ c : Chain, (t.port c).settle = (s.port c).settle.map (· - 1) ∧
      (t.port c).quietTimer =
        (if (s.port c).foreignActive then (s.port c).quietTimer - 1 else (s.port c).quietTimer)) ∧
    t.arb.u = s.arb.u ∧ t.arb.master = s.arb.master ∧ t.arb.policy = s.arb.policy ∧
    t.arb.egressLine = s.arb.egressLine ∧ t.arb.egressLevel = s.arb.egressLevel ∧
    t.amb =
      (if s.amb.windowOpen then { s.amb with windowTimer := s.amb.windowTimer - 1 }
       else if s.power.sleepPending then s.amb
       else { s.amb with windowOpen := true, counter := 0, windowTimer := 100 }) ∧
    t.amb = s.amb.tick s.power.sleepPending ∧ t.compA = s.compA ∧ t.compB = s.compB ∧ t.dir = s.dir ∧
    t.library = s.library ∧ t.triggers = s.triggers ∧ t.store = s.store ∧ t.power = s.power ∧ t.pending = s.pending

/-- TICK leaves an IDLE or PARKED layer's whole record, and every layer's level, ring, scene id and exclusive flag, slot
11's restart apart; where every layer that is not IDLE plays a RESIDENT ring it writes no record of the pool (R3, R50,
R26, R34). -/
def Obligations.TickLeavesAlone : Prop :=
  (∀ (order : List Nat) (s t : State) (i : Slot), exec (.tick order) s = .next t →
     ((s.layer i).state = .idle ∨ (s.layer i).state = .parked → t.layer i = s.layer i) ∧
       (i ≠ egressSlot →
         (t.layer i).level = (s.layer i).level ∧ (t.layer i).exclusive = (s.layer i).exclusive ∧
           (t.layer i).sceneId = (s.layer i).sceneId ∧ (t.layer i).ringBase = (s.layer i).ringBase ∧
           (t.layer i).ringLength = (s.layer i).ringLength ∧ (t.layer i).ringMode = (s.layer i).ringMode)) ∧
  ∀ (order : List Nat) (s t : State),
    (∀ i : Slot, (s.layer i).state ≠ .idle → (s.layer i).ringMode = .resident) → exec (.tick order) s = .next t →
    t.pool = s.pool

/-- TICK, with slot `i` alone RUNNING. A cue of captured duration above 0 begun in it and its time not up: elapsed
rises by 1, a FADE takes the values of R57, the cue goes on, and nothing is written to the pool (R51, R54, R57). The
last tick of a SWEEP leaves its colour, at its opacity with trail and at 0 without, queues its CUE NOTICE DONE, and
the cue behind it, a HOLD, is begun (R59, R53, R74). A LOOP counts its entry, pushes one, falls through or overflows
by the table of R64, and the HOLD it leads to is begun (R64, R65, R66). An END ends the layer COMPLETED, its STREAM record
given back DONE, or restarts a latched alert or egress ring at its base with the loop stack emptied (R62, R73, R74). A
ring of SETs alone ends RUNAWAY with LAYER_RUNAWAY; a latched slot 11 then plays the fallback ring (R68, R69, R26).
That the step count reads 0 after the first of these, and the base of the fallback ring, are the model's choices: log
13, log 11. -/
def Obligations.TickAdvancesCue : Prop :=
  (∀ (order : List Nat) (s : State) (i : Slot), s.power.part = .awake → (s.layer i).state = .running →
     (∀ j : Slot, j ≠ i → (s.layer j).state.playing = false) → (s.layer i).cueBegun = true →
     (s.layer i).elapsed + 1 < (s.layer i).captured.duration →
     ∃ t, exec (.tick order) s = .next t ∧ t.pool = s.pool ∧
       t.layer i =
         (if (s.layer i).captured.kind = .fade then
           { (s.layer i).fadeAt ((s.layer i).elapsed + 1) with stepCount := 0 }
          else { s.layer i with elapsed := (s.layer i).elapsed + 1, stepCount := 0 })) ∧
  (∀ (order : List Nat) (s : State) (i : Slot), s.playsAlone i → (s.layer i).inPool → (s.layer i).cueBegun = true →
    (s.layer i).sweepActive = true → (s.layer i).elapsed + 1 = (s.layer i).captured.duration →
    (s.pool.read (s.layer i).successor).rests →
    ∃ t, exec (.tick order) s = .next t ∧ t.pool = s.pool ∧ t.begins i s (s.layer i).successor ∧
      (t.layer i).colour = (s.layer i).captured.colour ∧
      (t.layer i).opacity = (if (s.layer i).captured.trail then (s.layer i).captured.opacity else 0) ∧
      (t.layer i).sweepActive = false ∧ (t.layer i).loopStack = (s.layer i).loopStack ∧
      s.notices t (s.layer i).captured.notify (.cue i (s.layer i).cueIndex .done)) ∧
  (∀ (order : List Nat) (s : State) (i : Slot) (stack : List LoopEntry) (overflow : Bool) (next : Nat),
    s.playsAlone i → (s.layer i).inPool → (s.layer i).cueBegun = false →
    (s.pool.read (s.layer i).cueIndex).kind = .loop →
    (s.layer i).loopTakes (s.pool.read (s.layer i).cueIndex) stack overflow next → (s.pool.read next).rests →
    ∃ t, exec (.tick order) s = .next t ∧ t.pool = s.pool ∧ t.begins i s next ∧ (t.layer i).loopStack = stack ∧
      (t.layer i).loopOverflow = overflow ∧ (t.layer i).colour = (s.layer i).colour ∧
      (t.layer i).opacity = (s.layer i).opacity ∧
      s.notices t (s.pool.read (s.layer i).cueIndex).notify (.cue i (s.layer i).cueIndex .done)) ∧
  (∀ (order : List Nat) (s : State) (i : Slot), s.playsAlone i → (s.layer i).fallback = false →
    (s.layer i).cueBegun = false → (s.layer i).sweepActive = false →
    (s.pool.read (s.layer i).cueIndex).kind = .end_ →
    ((s.layer i).ringMode = .stream → (s.pool.read (s.layer i).cueIndex).ready = true) →
    isScene i = true ∨ (s.layer i).latch = false ∨ (s.layer i).finishing = true →
    ∃ t, exec (.tick order) s = .next t ∧ t.arb.floor = 0 ∧ (∀ j : Slot, j ≠ i → t.layer j = s.layer j) ∧
      (let c := s.pool.read (s.layer i).cueIndex
       t.pool =
           (if (s.layer i).ringMode = .stream then
             s.pool.write (s.layer i).cueIndex { c with ready := false, status := .done }
            else s.pool) ∧
         s.notices t c.notify (.cue i (s.layer i).cueIndex .done)) ∧
      (t.layer i).state = .idle ∧ (t.layer i).endReason = .completed ∧ (t.layer i).finishing = false ∧
      (t.layer i).loopStack = [] ∧ (t.layer i).cueIndex = (s.layer i).cueIndex ∧
      (t.layer i).colour = (s.layer i).colour ∧ (t.layer i).opacity = (s.layer i).opacity ∧
      (t.layer i).selector = (s.layer i).selector ∧ (t.layer i).level = (s.layer i).level ∧
      (t.layer i).latch = (if i = alertSlot then false else (s.layer i).latch)) ∧
  (∀ (order : List Nat) (s : State) (i : Slot), s.playsAlone i → (s.layer i).inPool → (s.layer i).cueBegun = false →
    (s.pool.read (s.layer i).cueIndex).kind = .end_ → isScene i = false → (s.layer i).latch = true →
    (s.layer i).finishing = false → (s.pool.read (s.layer i).ringBase).rests →
    ∃ t, exec (.tick order) s = .next t ∧ t.pool = s.pool ∧ t.arb.floor = s.arb.floor ∧
      t.begins i s (s.layer i).ringBase ∧ (t.layer i).loopStack = [] ∧
      (t.layer i).loopOverflow = (s.layer i).loopOverflow ∧ (t.layer i).latch = true ∧
      (t.layer i).colour = (s.layer i).colour ∧ (t.layer i).opacity = (s.layer i).opacity ∧
      s.notices t (s.pool.read (s.layer i).cueIndex).notify (.cue i (s.layer i).cueIndex .done)) ∧
  ∀ (order : List Nat) (s : State) (i : Slot), s.playsAlone i → (s.layer i).inPool → (s.layer i).cueBegun = false →
    (s.layer i).cueIndex = (s.layer i).ringBase → (s.pool.read (s.layer i).ringBase).kind = .set →
    (s.pool.read (s.layer i).ringBase).wrap = true ∨ (s.layer i).ringLength ≤ 1 →
    ∃ t, exec (.tick order) s = .next t ∧ t.pool = s.pool ∧ t.link.flag .layerRunaway ≠ .clear ∧
      (∀ j : Slot, j ≠ i → t.layer j = s.layer j) ∧ (t.layer i).endReason = .runaway ∧
      (¬(i = egressSlot ∧ (s.layer i).latch = true) →
        (t.layer i).state = .idle ∧ t.arb.floor = 0 ∧ (t.layer i).cueIndex = (s.layer i).ringBase ∧
          (t.layer i).colour = (s.pool.read (s.layer i).ringBase).colour ∧
          (t.layer i).opacity = (s.pool.read (s.layer i).ringBase).opacity ∧
          (t.layer i).latch = (if i = alertSlot then false else (s.layer i).latch)) ∧
      (i = egressSlot → (s.layer i).latch = true →
        (t.layer i).state = .running ∧ (t.layer i).fallback = true ∧ (t.layer i).sceneId = 0 ∧
          (t.layer i).level = 15 ∧ (t.layer i).exclusive = true ∧ (t.layer i).cueIndex = 0 ∧
          (t.layer i).cueBegun = false ∧ (t.layer i).latch = true ∧ t.arb.floor = 15)

/-- The two sides of the STREAM hand-over, with slot `i` alone playing. Its cue due and not ready: the layer is
STARVED at that cue with colour, opacity and selector held, nothing is written to the pool, and a RUNNING layer's
entry sets LAYER_STARVED (R35, R70, R71). The last tick of a begun FADE whose successor is not ready: the cue is given
back DONE with ready clear, the layer shows the target and is STARVED at the successor, every other record of the pool
stands, and its CUE NOTICE DONE is queued (R36, R53, R33, R57, R70, R74). That the step count reads 0 afterwards is
the model's choice: log 13. -/
def Obligations.StreamHandsCuesOver : Prop :=
  (∀ (order : List Nat) (s : State) (i : Slot), s.power.part = .awake → (s.layer i).state.playing = true →
     (∀ j : Slot, j ≠ i → (s.layer j).state.playing = false) → (s.layer i).cueBegun = false →
     (s.layer i).ringMode = .stream → (s.layer i).fallback = false →
     (s.pool.read (s.layer i).cueIndex).ready = false →
     ∃ t, exec (.tick order) s = .next t ∧ t.pool = s.pool ∧
       t.layer i =
         { s.layer i with state := .starved, cueBegun := false, elapsed := 0, sweepActive := false, stepCount := 0 } ∧
       ((s.layer i).state = .running → t.link.flag .layerStarved ≠ .clear)) ∧
  ∀ (order : List Nat) (s : State) (i : Slot), PoolCanonical s → s.power.part = .awake →
    (s.layer i).state = .running → (∀ j : Slot, j ≠ i → (s.layer j).state.playing = false) →
    (s.layer i).cueBegun = true → (s.layer i).sweepActive = false → (s.layer i).captured.kind = .fade →
    (s.layer i).elapsed + 1 = (s.layer i).captured.duration → (s.layer i).ringMode = .stream →
    (s.layer i).fallback = false → (s.layer i).successor ≠ (s.layer i).cueIndex →
    (s.pool.read (s.layer i).successor).ready = false →
    ∃ t, exec (.tick order) s = .next t ∧
      t.pool.read (s.layer i).cueIndex = { s.pool.read (s.layer i).cueIndex with ready := false, status := .done } ∧
      (∀ k, k ≠ (s.layer i).cueIndex → t.pool.read k = s.pool.read k) ∧ (t.layer i).state = .starved ∧
      (t.layer i).cueIndex = (s.layer i).successor ∧ (t.layer i).colour = (s.layer i).captured.colour ∧
      (t.layer i).opacity = (s.layer i).captured.opacity ∧
      s.notices t (s.layer i).captured.notify (.cue i (s.layer i).cueIndex .done)

/-- The plain events of the timebase and the pins. HUSH_EXPIRY on the last millisecond of a hush ends it and sets
HUSH_END (R20; the time of this command: log 4). EGRESS_LINE_CHANGE to the other level takes it and restarts the
debounce; DEBOUNCED_DEASSERTION, due in AWAKE or STARTING, deasserts the debounced level and leaves latch and layer
(R24). LUX_EDGE in an open window counts one edge, up to 65535 (R148). When HUSH_EXPIRY and DEBOUNCED_DEASSERTION may
be taken is the model's choice: log 4. -/
def Obligations.PlainEventsAct : Prop :=
  (∀ s : State, s.power.part = .awake → s.arb.hush = 1 →
     exec .hushExpiry s = .next (({ s with arb := { s.arb with hush := 0 } } : State).raise .hushEnd).settle) ∧
  (∀ (b : Bool) (s : State), b ≠ s.arb.egressLine →
    exec (.egressLineChange b) s = .next { s with arb := { s.arb with egressLine := b, egressTimer := 10 } }) ∧
  (∀ s : State, s.running = true → s.arb.egressLine = false → s.arb.egressLevel = true → s.arb.egressTimer ≤ 1 →
     exec .debouncedDeassertion s =
       .next { s with arb := { s.arb with egressLevel := false, egressTimer := 10 } }) ∧
  ∀ s : State, s.power.part = .awake → s.amb.windowOpen = true →
    exec .luxEdge s = .next { s with amb := { s.amb with counter := min (s.amb.counter + 1) 65535 } }

/-- DEBOUNCED_ASSERTION sets the latch and the EGRESS flag. In AWAKE an IDLE slot 11 plays the egress scene, or, with
no egress scene id, no such scene or an overlap, the fallback ring, at level 15, exclusive, and no scene layer is left
RUNNING or STARVED (R25, R26, R6); a slot 11 in play loses its finishing mark and goes on (R25). In STARTING no layer
starts (R27). With a sleep pending the sleep is cancelled: the hold and the transmitter's stop end if the SLEEP reply
has been sent, a marked port whose dark frame has ended enters RUNNING, one whose dark frame is not over waits for it,
and the Ambient Unit restarts (R207, R155). When the debounce is due, the base and length of the fallback ring, and
the Ambient Unit's override value and last count, and the record of the sent reply are the model's choices: log 4, log 11,
log 27, log 20; so is the transmitter's choice before any dispatch when the hold ends: log 36. -/
def Obligations.EgressTakesCabin : Prop :=
  (∀ s : State, LevelsHold s → s.power.part = .awake → s.power.sleepPending = false → s.debounceOver →
    (s.layer egressSlot).state = .idle →
    (∃ t, exec .debouncedAssertion s = .next t ∧ t.arb.egressLevel = true ∧ t.link.flag .egress ≠ .clear ∧
      t.arb.floor = 15 ∧ (∀ i : Slot, isScene i = true → (t.layer i).state.playing = false) ∧
      (s.store.egressScene = 0 ∨ findScene s.library s.store.egressScene = none ∨
          (∃ c j, findScene s.library s.store.egressScene = some c ∧
            (s.layer j).conflicts c.base c.length .resident = true) →
        t.layer egressSlot = { (s.layer egressSlot).started fallbackRing .running with latch := true }) ∧
      (∀ c, s.store.egressScene ≠ 0 → findScene s.library s.store.egressScene = some c →
        (∀ j : Slot, (s.layer j).conflicts c.base c.length .resident = false) →
        t.layer egressSlot =
          { (s.layer egressSlot).started
              { level := 15, exclusive := true, sceneId := c.id, base := c.base, length := c.length,
                mode := .resident, offset := 0, fallback := false } .running with latch := true }))) ∧
  (∀ s : State, s.power.part = .awake → s.power.sleepPending = false → s.debounceOver →
    (s.layer egressSlot).state ≠ .idle →
    ∃ t, exec .debouncedAssertion s = .next t ∧ t.arb.egressLevel = true ∧ t.link.flag .egress ≠ .clear ∧
      t.layer egressSlot = { s.layer egressSlot with latch := true, finishing := false } ∧
      (∀ i : Slot, i ≠ egressSlot → t.layer i = s.layer i) ∧ t.arb.floor = s.arb.floor ∧ t.pool = s.pool) ∧
  (∀ s : State, s.power.part = .starting → s.debounceOver →
    ∃ t, exec .debouncedAssertion s = .next t ∧ t.arb.egressLevel = true ∧ t.link.flag .egress ≠ .clear ∧
      t.layer egressSlot = { s.layer egressSlot with latch := true } ∧
      (∀ i : Slot, i ≠ egressSlot → t.layer i = s.layer i) ∧ t.power = s.power ∧ t.pool = s.pool) ∧
  ∀ s : State, s.power.part = .awake → s.power.sleepPending = true → s.debounceOver →
    ∃ t, exec .debouncedAssertion s = .next t ∧ t.power = { s.power with sleepPending := false } ∧
      (t.layer egressSlot).latch = true ∧ (t.layer egressSlot).state ≠ .idle ∧
      t.amb = { Ambient.reset with curve := s.amb.curve, measured := s.amb.curve.value 0 } ∧
      (s.link.replySent = true → t.link.hold = .none ∧ t.link.txStopped = false ∧ t.link.replySent = false) ∧
      (s.link.replySent = false → t.link.hold = s.link.hold ∧ t.link.txStopped = s.link.txStopped) ∧
      ∀ c : Chain,
        ((s.port c).wakeMark = true → (s.port c).state = .off → (s.port c).transfer = none →
          (s.port c).waiting = [] →
          t.port c = { s.port c with wakeMark := false, state := .running, periodTimer := 1, latchedSince := false }) ∧
        ((s.port c).wakeMark = false ∨ (s.port c).transfer ≠ none → t.port c = s.port c)

/-- GATE_WINDOW_END takes N and begins the next window; a nonzero count, or one of fewer than ten zeros in a row,
moves Ls and measured A; the tenth zero makes the unit stale, holds both and sets SENSOR_STALE; a stale unit leaves
them until a nonzero count seeds Ls afresh (R149, R150, R151). When the command may be taken and the timer it leaves
are the model's choices: log 4. -/
def Obligations.GateWindowEnds : Prop :=
  ∀ s : State, s.power.part = .awake → s.amb.windowOpen = true → s.amb.windowTimer ≤ 1 →
    ∃ t, exec .gateWindowEnd s = .next t ∧ t.amb.lastCount = s.amb.counter ∧ t.amb.counter = 0 ∧
      t.amb.windowOpen = true ∧ t.amb.windowTimer = 100 + s.amb.windowTimer ∧ t.amb.curve = s.amb.curve ∧
      (let n := s.amb.counter
       (n ≠ 0 → t.amb.stale = false ∧ t.amb.staleCount = 0 ∧ t.amb.seeded = true ∧
          t.amb.ls = (if s.amb.seeded && !s.amb.stale then (7 * s.amb.ls + n + 4) / 8 else n) ∧
          t.amb.measured = s.amb.curve.value t.amb.ls) ∧
       (n = 0 → s.amb.stale = false → s.amb.staleCount < 9 → t.amb.stale = false ∧
          t.amb.staleCount = s.amb.staleCount + 1 ∧ t.amb.seeded = true ∧
          t.amb.ls = (if s.amb.seeded then (7 * s.amb.ls + 4) / 8 else 0) ∧ t.amb.measured = s.amb.curve.value t.amb.ls) ∧
       (n = 0 → s.amb.stale = false → s.amb.staleCount = 9 → t.amb.stale = true ∧ t.amb.staleCount = 10 ∧
          t.amb.ls = s.amb.ls ∧ t.amb.measured = s.amb.measured ∧ t.link.flag .sensorStale ≠ .clear) ∧
       (n = 0 → s.amb.stale = true → t.amb.stale = true ∧ t.amb.ls = s.amb.ls ∧
          t.amb.measured = s.amb.measured)) ∧
      t.arb = s.arb ∧ t.pool = s.pool

/-! ### The frame path -/

/-- PERIOD_START, due on a RUNNING chain with records: with no render in flight, a render begins on the snapshot of
this moment and the pending frame, if any, is shifted; with one in flight, the frame latched last is shifted again and
counted if a latch word was sent since RUNNING was entered, and RENDER_LATE is set when the late mark was clear. The
next period start comes an effective period later. A snapshot holds the layers that R17 lets in with their level,
selector and presentation, U, applied A, the chain's nodes, the zone code of every node and the budget; the effective
period is the greater of P and the frame's time in whole ms, rounded up, plus 1 (R75, R76, R17, R49, R153, R81, R127,
R128, R129). When the command may be taken and the timer it leaves are the model's choices: log 4, log 15. -/
def Obligations.PeriodStartActs : Prop :=
  (∀ (c : Chain) (s : State), s.power.part = .awake → (s.port c).state = .running → (s.port c).periodTimer ≤ 1 →
     (s.port c).transfer = none → (s.port c).waiting = [] → s.count c ≠ 0 →
     ∃ t, exec (.periodStart c) s = .next t ∧
       (t.port c).periodTimer = (s.port c).effectivePeriod (s.count c) + (s.port c).periodTimer ∧
       t.arb = s.arb ∧ t.dir = s.dir ∧ t.pool = s.pool ∧ t.amb = s.amb ∧
       (t.port c).pendingFrame = (s.port c).pendingFrame ∧ (t.port c).lastLatched = (s.port c).lastLatched ∧
       ((s.comp c).render = none →
         (t.comp c).render = some (s.snapshot c) ∧ (t.comp c).lateMark = false ∧
           (t.port c).repeatedFrames = (s.port c).repeatedFrames ∧
           (t.port c).transfer = (s.port c).pendingFrame.map fun f => .duty f .pending false) ∧
       ((s.comp c).render ≠ none →
         (t.comp c).render = (s.comp c).render ∧ (t.comp c).lateMark = true ∧
           ((s.comp c).lateMark = false → t.link.flag .renderLate ≠ .clear) ∧
           ((s.port c).latchedSince = true →
             (t.port c).repeatedFrames = min ((s.port c).repeatedFrames + 1) 65535 ∧
               (t.port c).transfer = (s.port c).lastLatched.map fun f => .duty f .repeated false) ∧
           ((s.port c).latchedSince = false →
             (t.port c).transfer = none ∧ (t.port c).repeatedFrames = (s.port c).repeatedFrames))) ∧
  (∀ (c : Chain) (s : State),
    (s.snapshot c).u = s.arb.u ∧
      (s.snapshot c).a = (if s.amb.overrideOn then s.amb.overrideValue else s.amb.measured) ∧
      (s.snapshot c).budget = (s.port c).budget ∧
      (s.snapshot c).zones = s.dir.nodesA.map (fun n => n.zone) ++ s.dir.nodesB.map (fun n => n.zone) ∧
      (s.snapshot c).nodes.length = s.count c ∧
      (∀ k n, (s.dir.nodes c)[k]? = some n → (s.snapshot c).nodes[k]? = some
        ({ position := k, packed := if c = .a then k else s.dir.nodesA.length + k, zone := n.zone,
           source := n.source, gains := n.gains, currents := n.currents, cap := n.cap,
           status := n.status } : SnapNode)) ∧
      ((s.snapshot c).layers.map (fun l => l.slot)).Pairwise (· < ·) ∧
      ∀ l : SnapLayer, l ∈ (s.snapshot c).layers ↔
        ((s.layer l.slot).state = .running ∨ (s.layer l.slot).state = .starved) ∧
          (isScene l.slot = true → s.arb.floor ≤ (s.layer l.slot).level ∧ s.arb.master = true ∧
            (s.arb.hush = 0 ∨ (s.layer l.slot).level = 7)) ∧
          l.level = (s.layer l.slot).level ∧ l.selector = (s.layer l.slot).selector ∧
          l.presentation =
            (let k := s.layer l.slot
             if k.sweepActive then
               .sweep k.captured.colour k.captured.opacity k.captured.width k.captured.trail k.captured.reverse
                 k.captured.duration k.elapsed
             else .plain k.colour k.opacity)) ∧
  ∀ (p : Port) (n : Nat), ∃ m,
    (let work := (16 + 48 * n + 16 + 8 * n) * min (max ((p.pre + 1) * 2 ^ (p.sel + 1)) 4) 512
     work ≤ m * 48000 ∧ ∀ k, work ≤ k * 48000 → m ≤ k) ∧
    p.effectivePeriod n = max p.period (m + 1)

/-- RENDER_COMPLETE of a render in flight: with no shift out of the send buffer, its frame is the pending frame, last S
and last T are its own, and BUDGET_LIMIT is set when a run of scaled renders begins; during such a shift the frame waits
(R79, R80, R100, R101). That a duty frame shift cut off from the send buffer counts as such a shift, and the shift of a
closing dark frame does not, is the model's reading: log 14, log 40. -/
def Obligations.RenderCompletes : Prop :=
  ∀ (c : Chain) (s : State) (p : Snapshot), s.power.part = .awake → (s.comp c).render = some p →
    (s.comp c).buffer = none →
    ∃ t, exec (.renderComplete c) s = .next t ∧ t.arb = s.arb ∧ t.dir = s.dir ∧ t.pool = s.pool ∧
      ((s.port c).shiftingDuty = false →
        t.port c = { s.port c with pendingFrame := some p.frame } ∧
          t.comp c = { s.comp c with render := none, buffer := none, lastScale := p.frame.scale,
                                     lastTotal := p.frame.total, scaleMark := decide (p.frame.scale < 4096) } ∧
          (p.frame.scale < 4096 → (s.comp c).scaleMark = false → t.link.flag .budgetLimit ≠ .clear)) ∧
      ((s.port c).shiftingDuty = true →
        t.port c = s.port c ∧ t.comp c = { s.comp c with buffer := some p.frame })

/-- LATCH_POINT of a frame from the pending place moves it to the last-latched place and records its entries, position
by position, as last sent; of a dark frame it records duties 0 and no top layer (R132, R82, R119). That a dark frame
leaves the send buffer alone is the model's reading: log 14. -/
def Obligations.LatchPointTakesEffect : Prop :=
  (∀ (c : Chain) (s : State) (f : Frame), s.power.part = .awake →
    (s.port c).transfer = some (.duty f .pending false) → f.entries.length = s.count c →
    ∃ t, exec (.latchPoint c) s = .next t ∧ (t.port c).lastLatched = some f ∧ (t.port c).pendingFrame = none ∧
      (t.port c).latchedSince = true ∧ (t.port c).transfer = some (.duty f .pending true) ∧
      t.dir.nodes c = List.zipWith (fun (n : Node) (e : Entry) =>
        { n with sent := true, lastSent := e.duty, top := e.top }) (s.dir.nodes c) f.entries ∧
      t.arb = s.arb ∧ t.link = s.link) ∧
  ∀ (c : Chain) (s : State) (n : Nat), s.power.part = .awake → (s.port c).transfer = some (.dark n false) →
    ∃ t, exec (.latchPoint c) s = .next t ∧ (t.port c).transfer = some (.dark n true) ∧
      t.dir.nodes c = (s.dir.nodes c).map (fun n => { n with sent := true, lastSent := Rgb.all 0, top := none }) ∧
      (t.port c).pendingFrame = (s.port c).pendingFrame ∧ t.arb = s.arb ∧ t.link = s.link

/-- SHIFT_END of a duty frame or a dark frame judges the trailer by the table of R134: three failing frames in a row
set LOOP_BROKEN with its flag and count, three correct ones clear it, and a correct frame's status bytes are absorbed
unless the chain stays broken, with NODE_OVERTEMP set when a record's overtemp goes from no to yes and by nothing
else. The transfer ends; a finished frame that waited is copied into the pending place, which completes its render; and
the first transfer that waits begins: a closing dark frame of the port's present n, the request of a pass, or a duty
frame shift, which takes its frame from the send buffer as it stands then, and without one is not begun (R80, R100,
R101, R125, R132, R137, R139, R146). The end of its closing dark frame brings an OFF port of a cancelled sleep back to
RUNNING, a pass that waits is begun, and the wake mark is cleared (R207). Absorption takes each record's status byte in
position order: a byte of good parity gives the four conditions, a byte of bad parity leaves them, and nothing else
changes (R133, R134, R116, R117, R118, R213). That a trailer of another length fails, that a frame waits for a duty
frame shift cut off from the send buffer, when a waiting shift takes its frame, and the end of a cancelled sleep's mark
are the model's reading: log 18, log 14, log 15, log 21. -/
def Obligations.ShiftEndJudges : Prop :=
  (∀ (c : Chain) (s : State) (trailer : List Byte) (n : Nat), s.power.part = .awake →
     (∃ f o, (s.port c).transfer = some (.duty f o true) ∧ f.entries.length = n) ∨
       (s.port c).transfer = some (.dark n true) →
     (s.port c).wakeMark = false ∨ s.power.sleepPending = true ∨ Waiting.dark ∈ (s.port c).waiting →
     ∃ t, exec (.shiftEnd c trailer) s = .next t ∧ t.arb = s.arb ∧ t.pool = s.pool ∧
       (t.port c).state = (s.port c).state ∧ (t.port c).wakeMark = (s.port c).wakeMark ∧
       (t.port c).pendingFrame = ((s.comp c).buffer <|> (s.port c).pendingFrame) ∧
       (t.port c).lastLatched = (s.port c).lastLatched ∧
       ((s.comp c).buffer = none → t.comp c = s.comp c) ∧
       (∀ f, (s.comp c).buffer = some f →
         t.comp c = { s.comp c with render := none, buffer := none, lastScale := f.scale, lastTotal := f.total,
                                    scaleMark := decide (f.scale < 4096) } ∧
           (f.scale < 4096 → (s.comp c).scaleMark = false → t.link.flag .budgetLimit ≠ .clear)) ∧
       ((s.port c).waiting = [] → (t.port c).transfer = none ∧ (t.port c).waiting = []) ∧
       (∀ ws, (s.port c).waiting = .dark :: ws →
         (t.port c).transfer = some (.dark (s.count c) false) ∧ (t.port c).waiting = ws) ∧
       (∀ ws, (s.port c).waiting = .identify :: ws →
         (t.port c).transfer = some .request ∧ (t.port c).waiting = ws) ∧
       (∀ ws f, (s.port c).waiting = .duty false :: ws → (t.port c).pendingFrame = some f →
         (t.port c).transfer = some (.duty f .pending false) ∧ (t.port c).waiting = ws) ∧
       (∀ ws f, (s.port c).waiting = .duty true :: ws → (s.port c).lastLatched = some f →
         (t.port c).transfer = some (.duty f .repeated false) ∧ (t.port c).waiting = ws) ∧
       ((s.port c).waiting = [.duty false] ∧ (t.port c).pendingFrame = none ∨
           (s.port c).waiting = [.duty true] ∧ (s.port c).lastLatched = none →
         (t.port c).transfer = none ∧ (t.port c).waiting = []) ∧
       (let gained := ∃ (k : Nat) (a b : Node), (s.dir.nodes c)[k]? = some a ∧ (t.dir.nodes c)[k]? = some b ∧
          a.status.overtemp = false ∧ b.status.overtemp = true
        (gained → t.link.flag .nodeOvertemp ≠ .clear) ∧
          (¬gained → s.link.flag .nodeOvertemp = .clear → t.link.flag .nodeOvertemp = .clear)) ∧
       (let correct : Bool := decide (trailer.take 2 = [0x3C, 0xA5]) && decide (trailer.length = n + 2)
        let p := s.port c
        let q := t.port c
        (p.loopBroken = false → correct = true →
           q.loopBroken = false ∧ q.failingRun = 0 ∧ t.dir.nodes c = absorbAll (s.dir.nodes c) (trailer.drop 2)) ∧
        (p.loopBroken = false → correct = false → p.failingRun < 2 →
           q.loopBroken = false ∧ q.failingRun = p.failingRun + 1 ∧ t.dir = s.dir) ∧
        (p.loopBroken = false → correct = false → p.failingRun = 2 →
           q.loopBroken = true ∧ q.failingRun = 3 ∧ q.correctRun = 0 ∧ q.loopBreaks = min (p.loopBreaks + 1) 65535 ∧
             t.link.flag (loopBreakFlag c) ≠ .clear ∧ t.dir = s.dir) ∧
        (p.loopBroken = true → correct = true → p.correctRun < 2 →
           q.loopBroken = true ∧ q.correctRun = p.correctRun + 1 ∧ t.dir = s.dir) ∧
        (p.loopBroken = true → correct = true → p.correctRun = 2 →
           q.loopBroken = false ∧ q.correctRun = 3 ∧ q.failingRun = 0 ∧
             t.dir.nodes c = absorbAll (s.dir.nodes c) (trailer.drop 2)) ∧
        (p.loopBroken = true → correct = false → q.loopBroken = true ∧ q.correctRun = 0 ∧ t.dir = s.dir))) ∧
  (∀ (c : Chain) (s : State) (trailer : List Byte) (n : Nat), s.power.part = .awake →
     s.power.sleepPending = false → (s.port c).transfer = some (.dark n true) → (s.comp c).buffer = none →
     (s.port c).wakeMark = true → (s.port c).waiting = [] ∨ (s.port c).waiting = [.identify] →
     ∃ t, exec (.shiftEnd c trailer) s = .next t ∧ (t.port c).wakeMark = false ∧ (t.port c).waiting = [] ∧
       (t.port c).transfer = (if (s.port c).waiting = [] then none else some .request) ∧
       (t.port c).state = (if (s.port c).state = .off then .running else (s.port c).state) ∧
       ((s.port c).state = .off → (t.port c).periodTimer = 1 ∧ (t.port c).latchedSince = false)) ∧
  ∀ (ns : List Node) (bs : List Byte) (k : Nat) (n : Node) (b : Byte), ns[k]? = some n → bs[k]? = some b →
    (absorbAll ns bs).length = ns.length ∧
      (absorbAll ns bs)[k]? = some
        (if parityGood b then
          { n with status := ⟨b.getLsbD 0, b.getLsbD 1, b.getLsbD 2, b.getLsbD 3⟩ }
         else n)

/-! ### Identify passes and foreign drive -/

/-- An identify pass goes from its request transfer through a settle of two ticks to its collect transfer (R140).
COLLECT_END hands the answers to the Directory, one record each in the order they came, calibrated and zoned; the port
leaves LOOP_BROKEN, enters RUNNING with its first period start at the next tick, and the ENUM NOTICE carries the count
and the outcome, COMPLETE, or OVERLONG after 128 answers. The answers are those whose bytes, each behind its answer
mark and with its block exactly when its block present field says so, come up to the byte that ends the pass: another
byte than the mark, or the mark of a 129th answer (R141, R142, R114). Without a collect marker the pass is ABANDONED:
the port enters RUNNING with the records it held, whose count the ENUM NOTICE carries (R141, R143). When the settle is
due and what the operand of COLLECT_END holds are the model's choices: log 4, log 17. -/
def Obligations.IdentifyPassRuns : Prop :=
  (∀ (c : Chain) (s : State), s.power.part = .awake → (s.port c).transfer = some .request →
    exec (.identifyRequestEnd c) s =
      .next (s.setPort c { s.port c with transfer := none, settle := some 2 })) ∧
  (∀ (c : Chain) (s : State) (k : Nat), s.power.part = .awake → (s.port c).transfer = none →
     (s.port c).settle = some k → k ≤ 1 →
     exec (.settleEnd c) s = .next (s.setPort c { s.port c with transfer := some .collect, settle := none })) ∧
  (∀ (c : Chain) (returned : List Byte) (s : State), s.power.part = .awake →
     (s.port c).transfer = some .collect → (s.port c).waiting = [] →
     ∃ t, exec (.collectEnd c returned) s = .next t ∧
       (let found := readAnswers returned 128 0
        t.dir.nodes c = applyZones s.dir.spans c (found.1.map fun w => (Node.ofAnswer w).select s.dir.catalog) ∧
          t.link = (s.link.queue (.enumeration c found.1.length found.2)).startNext) ∧
       t.dir.catalog = s.dir.catalog ∧ t.dir.spans = s.dir.spans ∧ (t.port c).state = .running ∧
       (t.port c).transfer = none ∧ (t.port c).periodTimer = 1 ∧ (t.port c).loopBroken = false ∧
       (t.port c).failingRun = 0 ∧ (t.port c).correctRun = 0 ∧ t.arb = s.arb ∧ t.pool = s.pool) ∧
  (∀ (c : Chain) (s : State), s.power.part = .awake → (s.port c).transfer = some .collect →
     (s.port c).waiting = [] →
     ∃ t, exec (.collectMarkerTimeout c) s = .next t ∧ t.dir = s.dir ∧ (t.port c).state = .running ∧
       (t.port c).transfer = none ∧ (t.port c).loopBroken = (s.port c).loopBroken ∧
       t.link = (s.link.queue (.enumeration c (s.count c) .abandoned)).startNext ∧ t.arb = s.arb) ∧
  ∀ (answers : List NodeAnswer) (final : Byte) (rest : List Byte),
    (∀ w ∈ answers, w.identity.length = 8 ∧
      (if (w.identity.getD 6 0).getLsbD 0 = true then ∃ b, w.block = some b ∧ b.length = 16 else w.block = none)) →
    (let returned := answers.flatMap (fun w => (0x96 : Byte) :: w.identity ++ w.block.getD []) ++ final :: rest
     (answers.length ≤ 128 → final ≠ 0x96 → readAnswers returned 128 0 = (answers, .complete)) ∧
     (answers.length = 128 → final = 0x96 → readAnswers returned 128 0 = (answers, .overlong)))

/-- FOREIGN_ACTIVITY on an idle line releases a port that is not RELEASED, with its flag and its return state, clears its
wake mark, sets foreign active, and leaves its lines high impedance; a pass in its settle or between its transfers is
abandoned, with an ENUM NOTICE ABANDONED that carries the count of the records held. FOREIGN_QUIET, due, clears foreign
active and nothing else (R144, R143, R146, R83, R125, R183). When the two commands may be taken, and that a free
transmitter chooses once, after the pass's notice is queued and the flag is set, so that it takes the notice before a
report of the flag, and that the quiet ticks are complete also when the port drove CKx in them, are the model's choices:
log 4, log 30, log 39, log 41. -/
def Obligations.ForeignDriveReleases : Prop :=
  (∀ (c : Chain) (s : State), s.power.part = .awake → (s.port c).transfer = none →
    ∃ t, exec (.foreignActivity c) s = .next t ∧ (t.port c).state = .released ∧ (t.port c).foreignActive = true ∧
      t.dir = s.dir ∧ t.arb = s.arb ∧ t.chainLines c = .highImpedance ∧
      ((s.port c).state ≠ .released →
        t.link.flag (foreignFlag c) ≠ .clear ∧ (t.port c).wakeMark = false ∧ (t.port c).settle = none ∧
          ((s.port c).waiting = [] → (t.port c).waiting = []) ∧ (t.port c).transfer = none ∧
          (t.port c).returnState = (if (s.port c).state = .off then .off else .running)) ∧
      ((s.port c).state = .enumerating →
        t.link = ((s.link.queue (.enumeration c (s.count c) .abandoned)).raise (foreignFlag c)).startNext) ∧
      ((s.port c).state = .off ∨ (s.port c).state = .running →
        t.link = (s.link.raise (foreignFlag c)).startNext) ∧
      ((s.port c).state = .running →
        (t.comp c).render = none ∧ (t.port c).pendingFrame = none ∧ (t.port c).lastLatched = none)) ∧
  ∀ (c : Chain) (s : State), s.power.part = .awake → (s.port c).foreignActive = true →
    (s.port c).quietTimer ≤ 1 →
    exec (.foreignQuiet c) s = .next (s.setPort c { s.port c with foreignActive := false })

/-! ### The link's line -/

/-- FRAME_RECEIVED with the bytes of a frame, in HUNT: the frame joins the receive buffer, or is dropped as an overrun
when two are held (R177, R176, R174, R173). With another CRC behind the same bytes the frame is discarded with one CRC
error, and a LENGTH above 240 ends the frame at once with one overlength; each sets RX_ERROR and returns to HUNT
(R177, R176). -/
def Obligations.FrameIsReceived : Prop :=
  (∀ (f : LinkFrame) (s : State), s.running = true → s.link.receiver = .hunt →
     f.payload.length ≤ Config.maxPayload →
     ∃ t, exec (.frameReceived f.bytes) s = .next t ∧ t.link.receiver = .hunt ∧
       (s.link.rxBuffer.length < 2 → t.link.rxBuffer = s.link.rxBuffer ++ [f] ∧ t.link.overruns = s.link.overruns) ∧
       (2 ≤ s.link.rxBuffer.length → t.link.rxBuffer = s.link.rxBuffer ∧
         t.link.overruns = min (s.link.overruns + 1) 65535 ∧ t.link.flag .rxOverrun ≠ .clear) ∧
       t.arb = s.arb ∧ t.pool = s.pool ∧ t.power = s.power) ∧
  (∀ (f : LinkFrame) (crc : Nat) (s : State), s.running = true → s.link.receiver = .hunt →
    f.payload.length ≤ Config.maxPayload → crc < 65536 → crc ≠ (crc16 f.covered).toNat →
    ∃ t, exec (.frameReceived ((0xA5 : Byte) :: f.covered ++ be16 crc)) s = .next t ∧ t.link.receiver = .hunt ∧
      t.link.rxBuffer = s.link.rxBuffer ∧ t.link.crcErrors = min (s.link.crcErrors + 1) 65535 ∧
      t.link.overruns = s.link.overruns ∧ t.link.flag .rxError ≠ .clear ∧ t.arb = s.arb ∧ t.pool = s.pool) ∧
  ∀ (length : Byte) (s : State), s.running = true → s.link.receiver = .hunt → 240 < length.toNat →
    ∃ t, exec (.frameReceived [0xA5, length]) s = .next t ∧ t.link.receiver = .hunt ∧
      t.link.rxBuffer = s.link.rxBuffer ∧ t.link.overlength = min (s.link.overlength + 1) 65535 ∧
      t.link.crcErrors = s.link.crcErrors ∧ t.link.flag .rxError ≠ .clear ∧ t.arb = s.arb ∧ t.pool = s.pool

/-- A framing error outside WAIT_IDLE and a timeout within a frame each count once, set RX_ERROR and return to HUNT; a
link break leads to WAIT_IDLE, and the idle time leads from it to HUNT, with nothing else touched (R175, R178, R179). -/
def Obligations.LineFaults : Prop :=
  (∀ s : State, s.running = true → s.link.receiver ≠ .waitIdle → ∃ t, exec .framingError s = .next t ∧
    t.link.receiver = .hunt ∧ t.link.framingErrors = min (s.link.framingErrors + 1) 65535 ∧
    t.link.flag .rxError ≠ .clear ∧ t.link.rxBuffer = s.link.rxBuffer ∧ t.link.timeouts = s.link.timeouts ∧
    t.arb = s.arb) ∧
  (∀ s : State, s.running = true → s.link.receiver.inFrame = true → ∃ t, exec .interByteTimeout s = .next t ∧
    t.link.receiver = .hunt ∧ t.link.timeouts = min (s.link.timeouts + 1) 65535 ∧ t.link.flag .rxError ≠ .clear ∧
    t.link.rxBuffer = s.link.rxBuffer ∧ t.link.framingErrors = s.link.framingErrors ∧ t.arb = s.arb) ∧
  (∀ s : State, s.running = true →
    exec .linkBreak s = .next { s with link := { s.link with receiver := .waitIdle } }) ∧
  ∀ s : State, s.running = true → s.link.receiver = .waitIdle →
    exec .waitIdleEnd s = .next { s with link := { s.link with receiver := .hunt } }

/-- TRANSMIT_COMPLETE, with no hold in force: the transmitter takes the oldest reply, else the notice at the head of
the queue, else an EVENT REPORT of every flag SET and unmasked, which becomes REPORTED, else nothing (R183, R186).
Under a hold the replies left are sent in order; once the last of them has been sent the transmitter begins no frame
and stops (R182); in a cancelled sleep the hold ends with that reply and the transmitter chooses its next frame
(R207). That this choice comes before any dispatch, and the record of the sent
reply, are the model's choices: log 36, log 20. -/
def Obligations.TransmitterChooses : Prop :=
  (∀ (s : State) (f : TxFrame), s.running = true → s.link.tx = some f → s.link.hold = .none →
     s.link.txStopped = false →
     ∃ t, exec .transmitComplete s = .next t ∧ t.arb = s.arb ∧ t.pool = s.pool ∧
       (∀ r rs, s.link.replies = r :: rs → t.link.tx = some ⟨true, r⟩ ∧ t.link.replies = rs ∧
         t.link.notices = s.link.notices) ∧
       (s.link.replies = [] → ∀ n ns, s.link.notices = n :: ns → t.link.tx = some ⟨false, n.frame⟩ ∧
         t.link.notices = ns) ∧
       (s.link.replies = [] → s.link.notices = [] → s.link.newSet ≠ 0 →
         t.link.tx = some ⟨false, ⟨0x70, 0, be16 s.link.newSet.toNat ++ be16 s.link.standing.toNat⟩⟩ ∧
           ∀ g, t.link.flag g =
             (if s.link.flag g = .set ∧ s.link.mask.getLsbD g.bit.val = false then .reported else s.link.flag g)) ∧
       (s.link.replies = [] → s.link.notices = [] → s.link.newSet = 0 → t.link.tx = none ∧
         t.link.flags = s.link.flags)) ∧
  ∀ (s : State) (f : TxFrame), s.running = true → s.link.tx = some f → s.link.hold ≠ .none →
    s.link.txStopped = false →
    ∃ t, exec .transmitComplete s = .next t ∧ t.arb = s.arb ∧ t.pool = s.pool ∧ t.power = s.power ∧
      (∀ r rs, s.link.replies = r :: rs → t.link = { s.link with tx := some ⟨true, r⟩, replies := rs }) ∧
      (s.link.replies = [] → f.isReply = true → s.link.hold = .restart ∨ s.power.sleepPending = true →
        t.link = { s.link with tx := none, txStopped := true, replySent := true }) ∧
      (s.link.replies = [] → f.isReply = true → s.link.hold = .sleep → s.power.sleepPending = false →
        t.link = ({ s.link with tx := none, hold := .none } : Link).startNext)

/-! ### Dispatch -/

/-- The link checks of R181 in their order: a KIND of 0x70 or above is discarded with RX_ERROR and no reply, a KIND
that names no request is answered UNKNOWN, a length the kind does not allow LENGTH, and in STARTING every request but
PING and GET STATUS BUSY; none has another effect (R181, R211, R197). An answer leaves everything but the link as its
effect has it; its reply has KIND + 0x80, the TAG, the status, and data with OK or ACCEPTED alone; it joins the unsent
replies, the oldest of which a free transmitter takes (R181, R183). When a request command may be taken is the model's
reading: log 3. -/
def Obligations.LinkChecksAnswer : Prop :=
  (∀ (k tag : Byte) (p : List Byte) (s : State), 0x70 ≤ k.toNat → s.atDispatch ⟨k, tag, p⟩ = true →
    exec (.reportKindDiscard k tag p) s = .next (s.takeFrame.raise .rxError).settle) ∧
  (∀ (k tag : Byte) (p : List Byte) (s : State), k.toNat < 0x70 → namesRequest k = false →
    s.atDispatch ⟨k, tag, p⟩ = true →
    exec (.unknownKind k tag p) s = .next (s.answered ⟨k, tag, p⟩ .unknown [] id)) ∧
  (∀ (c : Instr) (f : LinkFrame) (s : State), requestFrame? c = some f → s.atDispatch f = true →
    lengthAllowed f.kind f.payload.length = false → exec c s = .next (s.answered f .length [] id)) ∧
  (∀ (c : Instr) (f : LinkFrame) (s : State), requestFrame? c = some f → c.wellFormed = true →
     s.atDispatch f = true → lengthAllowed f.kind f.payload.length = true → s.power.part = .starting →
     f.kind ≠ 0x01 → f.kind ≠ 0x02 → exec c s = .next (s.answered f .busy [] id)) ∧
  ∀ (f : LinkFrame) (status : Status) (data : List Byte) (effect : State → State) (s : State),
    let t := s.answered f status data effect
    let u := effect s.takeFrame
    let r : LinkFrame :=
      ⟨f.kind + 0x80, f.tag, be8 status.code ++ if status = .ok ∨ status = .accepted then data else []⟩
    t = { u with link := t.link } ∧
      (u.link.tx ≠ none → t.link = { u.link with replies := u.link.replies ++ [r] }) ∧
      (u.link.tx = none → u.link.txStopped = false → ∀ x xs, u.link.replies ++ [r] = x :: xs →
        t.link = { u.link with tx := some ⟨true, x⟩, replies := xs })

/-- A request that its owner does not answer OK or ACCEPTED leaves the state as it was and carries no data, but for
RAISE ALERT, which re-arms its alert with ALREADY and leaves the state with every other answer (each request's rule;
R21). -/
def Obligations.RefusalsChangeNothing : Prop :=
  (∀ (p : List Byte) (s : State) (owner : State → Answer),
    owner ∈ [startLayer p, startScene p, stopLayer p, setLevel p, getLayer p, setMaster p, hush p, setPolicy p,
      clearAlert p, loadCues p, readCues p, putScene p, getScene p, (fun t => onChain p t State.enumerate),
      getNode p, putCatalog p, getCatalog p, putZoneSpan p, lockCatalog,
      (fun t => onChain p t (State.setTiming (byteAt p 1) (byteAt p 2) (byteAt p 3))),
      (fun t => onChain p t (State.setBudget (wordAt p 1))),
      (fun t => onChain p t (State.setChainState (byteAt p 1))), (fun t => onChain p t State.reclaim), setCurve p,
      setAmbientOverride p, vehicleEvent p, putTrigger p, getTrigger p, getCounters p, storeSettings p, storeLibrary,
      restart, sleep] →
    (owner s).status ≠ .ok → (owner s).status ≠ .accepted → (owner s).state = s ∧ (owner s).data = []) ∧
  ∀ (p : List Byte) (s : State), (raiseAlert p s).status ≠ .ok →
    (raiseAlert p s).data = [] ∧
      (raiseAlert p s).status ∈ [Status.invalid, .notFound, .already, .busy, .overlap] ∧
      ((raiseAlert p s).status ≠ .already → (raiseAlert p s).state = s) ∧
      ((raiseAlert p s).status = .already →
        (raiseAlert p s).state = s.setLayer alertSlot { s.layer alertSlot with latch := true, finishing := false })

/-! ### Requests of the link -/

/-- PING, in STARTING and in AWAKE, replies OK with the part state and then the host's bytes unchanged; a payload longer
than 16 bytes is refused LENGTH; no other state changes (R190). -/
def Obligations.PingAnswers : Prop :=
  ∀ (tag : Byte) (p : List Byte) (s : State), s.atDispatch ⟨0x01, tag, p⟩ = true →
    (p.length ≤ 16 → exec (.ping tag p) s =
      .next (s.answered ⟨0x01, tag, p⟩ .ok (be8 (if s.power.part = .awake then 1 else 0) ++ p) id)) ∧
    (16 < p.length → exec (.ping tag p) s = .next (s.answered ⟨0x01, tag, p⟩ .length [] id))

/-- GET STATUS replies with the state of its dispatch in 102 bytes, field by field: the part, the link with the flags SET
and REPORTED, the unsent replies with this one, the Arbiter, the factors, both record counts, the lock, and the blocks of
both ports and both Compositor values; it changes nothing (R191, R147, R101, R16, 11.6). GET COUNTERS replies the eleven
counters, and clears them with clear yes; another clear is INVALID (R189, R210). SET EVENT MASK replaces the mask and no flag (R187). CLEAR EVENTS clears the named flags alone, and replies the
standing set after it (R188). -/
def Obligations.LinkRequestsAct : Prop :=
  (∀ (tag : Byte) (s : State), s.atDispatch ⟨0x02, tag, []⟩ = true →
    exec (.getStatus tag []) s = .next (s.answered ⟨0x02, tag, []⟩ .ok (statusData s.takeFrame) id)) ∧
  (∀ s : State, (statusData s).length = 102 ∧ (statusData s)[44]? = some (BitVec.ofNat 8 s.arb.floor) ∧
    ∀ i : Slot, (statusData s)[20 + 2 * i.val]? = some (BitVec.ofNat 8 (layerStateCode (s.layer i).state)) ∧
      (statusData s)[21 + 2 * i.val]? = some (BitVec.ofNat 8 (s.layer i).level)) ∧
  (∀ s : State,
    (let yes (b : Bool) : List Byte := be8 (if b then 1 else 0)
     let region : Nat := match s.store.op with
       | .idle => 0
       | .settings _ => 1
       | .library _ => 2
     let slot (i : Slot) : List Byte := be8 (layerStateCode (s.layer i).state) ++ be8 (s.layer i).level
     let port (c : Chain) : List Byte :=
       let p := s.port c
       be8 (portStateCode p.state) ++ be8 (portStateCode p.returnState) ++ yes p.loopBroken ++ yes p.foreignActive ++
         be8 (s.count c) ++ be8 p.pre ++ be8 p.sel ++ be16 (min (max ((p.pre + 1) * 2 ^ (p.sel + 1)) 4) 512) ++
         be8 p.period ++ be8 (p.effectivePeriod (s.count c)) ++ be16 p.budget
     let comp (c : Chain) : List Byte :=
       be16 (s.comp c).lastScale ++ be32 (s.comp c).lastTotal ++ yes (s.comp c).scaleMark ++ yes (s.comp c).lateMark
     statusData s =
       yes (decide (s.power.part = .awake)) ++ be16 s.store.identity.part ++ be8 s.store.identity.revision ++
         be32 s.store.identity.serial ++ yes s.power.plantHigh ++ yes (decide (s.store.op ≠ .idle)) ++ be8 region ++
         (be16 s.link.setBits.toNat ++ be16 s.link.reportedBits.toNat ++ be16 s.link.mask.toNat ++
           be8 s.link.rxBuffer.length ++
           be8 (s.link.replies.length + (if s.link.tx.any (fun f => f.isReply) = true then 1 else 0) + 1) ++
           be8 s.link.notices.length) ++
         ((slot 0 ++ slot 1 ++ slot 2 ++ slot 3 ++ slot 4 ++ slot 5 ++ slot 6 ++ slot 7 ++ slot 8 ++ slot 9 ++ slot 10 ++
           slot 11) ++ be8 s.arb.floor ++ yes s.arb.master ++ be16 s.arb.u ++
           be8 (if s.arb.policy = .cancel then 1 else 0) ++ be16 ((s.arb.hush + 999) / 1000) ++
           yes (s.layer alertSlot).latch ++ yes (s.layer egressSlot).latch ++ yes s.arb.egressLevel) ++
         be16 (if s.amb.overrideOn then s.amb.overrideValue else s.amb.measured) ++ yes s.amb.stale ++
         be8 s.dir.nodesA.length ++ be8 s.dir.nodesB.length ++ yes s.dir.locked ++ port .a ++ port .b ++ comp .a ++
         comp .b) ∧
    ∀ g : Flag, s.link.setBits.getLsbD g.bit.val = decide (s.link.flag g = .set) ∧
      s.link.reportedBits.getLsbD g.bit.val = decide (s.link.flag g = .reported) ∧
      s.link.standing.getLsbD g.bit.val = decide (s.link.flag g ≠ .clear)) ∧
  (∀ (tag : Byte) (p : List Byte) (s : State), s.ready ⟨0x03, tag, p⟩ = true → p.length = 1 → 1 < byteAt p 0 →
    exec (.getCounters tag p) s = .next (s.answered ⟨0x03, tag, p⟩ .invalid [] id)) ∧
  (∀ (tag : Byte) (p : List Byte) (s : State) (clear : Bool), s.ready ⟨0x03, tag, p⟩ = true → p.length = 1 →
    boolCode? (byteAt p 0) = some clear →
    exec (.getCounters tag p) s =
      .next (s.answered ⟨0x03, tag, p⟩ .ok
        (be16 s.link.crcErrors ++ be16 s.link.framingErrors ++ be16 s.link.timeouts ++ be16 s.link.overlength ++
          be16 s.link.overruns ++ be16 s.portA.repeatedFrames ++ be16 s.portA.abortedFrames ++
          be16 s.portA.loopBreaks ++ be16 s.portB.repeatedFrames ++ be16 s.portB.abortedFrames ++
          be16 s.portB.loopBreaks)
        fun t =>
          if clear then
            { t with
              link := { t.link with crcErrors := 0, framingErrors := 0, timeouts := 0, overlength := 0, overruns := 0 }
              portA := { t.portA with repeatedFrames := 0, abortedFrames := 0, loopBreaks := 0 }
              portB := { t.portB with repeatedFrames := 0, abortedFrames := 0, loopBreaks := 0 } }
          else t)) ∧
  (∀ (tag : Byte) (p : List Byte) (s : State), s.ready ⟨0x04, tag, p⟩ = true → p.length = 2 →
    exec (.setEventMask tag p) s =
      .next (s.answered ⟨0x04, tag, p⟩ .ok (be16 (wordAt p 0))
        fun t => { t with link := { t.link with mask := BitVec.ofNat 16 (wordAt p 0) } })) ∧
  ∀ (tag : Byte) (p : List Byte) (s : State), s.ready ⟨0x05, tag, p⟩ = true → p.length = 2 →
    ∃ l : Link,
      (∀ g : Flag, l.flag g =
        if (BitVec.ofNat 16 (wordAt p 0)).getLsbD g.bit.val = true then .clear else s.link.flag g) ∧
      exec (.clearEvents tag p) s =
        .next (s.answered ⟨0x05, tag, p⟩ .ok (be16 l.standing.toNat)
          fun t => { t with link := { t.link with flags := l.flags } })

/-! ### Requests of the Arbiter -/

/-- START LAYER, START SCENE and RAISE ALERT that pass every check: the slot takes the record of R11 with the ring, level,
exclusive flag and scene id that R10, R12 or R21 give, the floor is evaluated over it, no cue is written but by cuts, and
the reply is OK. RAISE ALERT of the scene in play re-arms it with ALREADY. A start that fails a check has the status of
the first that fails, START LAYER's exclusive field before all others, and no effect (R10, R11, R12, R21, R6, R7, R8, R5,
R42, R210). -/
def Obligations.StartsBeginLayers : Prop :=
  (∀ (tag : Byte) (p : List Byte) (s : State) (i : Slot) (exclusive : Bool) (mode : RingMode),
    PoolCanonical s → FloorHolds s → s.ready ⟨0x10, tag, p⟩ = true → p.length = 9 → slotOf (byteAt p 0) = some i →
    i ≠ egressSlot →
    (if isScene i = true then byteAt p 1 ≤ 7 else 8 ≤ byteAt p 1 ∧ byteAt p 1 ≤ 14) →
    boolCode? (byteAt p 2) = some exclusive → ringMode? (byteAt p 7) = some mode → 1 ≤ wordAt p 5 →
    wordAt p 5 ≤ 256 → wordAt p 3 + wordAt p 5 ≤ 2048 → byteAt p 8 < wordAt p 5 → (s.layer i).state = .idle →
    (∀ j : Slot, (s.layer j).conflicts (wordAt p 3) (wordAt p 5) mode = false) →
    (s.arb.policy = .cancel → isScene i = true → byteAt p 1 ≠ 0 → s.arb.floor ≤ byteAt p 1) →
    ∃ t, exec (.startLayer tag p) s = .next t ∧ s.replied t ⟨0x10, tag, p⟩ .ok [] ∧ s.sameButLayers t ∧
      t.settledFrom s.arb.policy (s.layersWith i (s.startedIn i
        { level := byteAt p 1, exclusive := exclusive, sceneId := 0, base := wordAt p 3, length := wordAt p 5,
          mode := mode, offset := byteAt p 8, fallback := false })) ∧ s.poolYields t) ∧
  (∀ (tag : Byte) (p : List Byte) (s : State) (i : Slot) (c : Scene),
    PoolCanonical s → FloorHolds s → s.ready ⟨0x11, tag, p⟩ = true → p.length = 3 → slotOf (byteAt p 0) = some i →
    isScene i = true → byteAt p 1 ≠ 0 → (byteAt p 2 ≤ 7 ∨ byteAt p 2 = 0xFF) →
    findScene s.library (byteAt p 1) = some c → (s.layer i).state = .idle →
    (∀ j : Slot, (s.layer j).conflicts c.base c.length .resident = false) →
    (let level := if byteAt p 2 = 0xFF then c.level else byteAt p 2
     (s.arb.policy = .cancel → level ≠ 0 → s.arb.floor ≤ level) →
     ∃ t, exec (.startScene tag p) s = .next t ∧ s.replied t ⟨0x11, tag, p⟩ .ok [] ∧ s.sameButLayers t ∧
       t.settledFrom s.arb.policy (s.layersWith i (s.startedIn i
         { level := level, exclusive := c.exclusive, sceneId := c.id, base := c.base, length := c.length,
           mode := .resident, offset := 0, fallback := false })) ∧ s.poolYields t)) ∧
  (∀ (tag : Byte) (p : List Byte) (s : State) (exclusive : Bool) (c : Scene),
    PoolCanonical s → FloorHolds s → s.ready ⟨0x18, tag, p⟩ = true → p.length = 2 → byteAt p 0 ≠ 0 →
    boolCode? (byteAt p 1) = some exclusive → findScene s.library (byteAt p 0) = some c →
    (s.layer alertSlot).state = .idle →
    (∀ j : Slot, (s.layer j).conflicts c.base c.length .resident = false) →
    ∃ t, exec (.raiseAlert tag p) s = .next t ∧ s.replied t ⟨0x18, tag, p⟩ .ok [] ∧ s.sameButLayers t ∧
      t.settledFrom s.arb.policy (s.layersWith alertSlot
        { s.startedIn alertSlot
            { level := (s.layer alertSlot).level, exclusive := exclusive, sceneId := c.id, base := c.base,
              length := c.length, mode := .resident, offset := 0, fallback := false } with latch := true }) ∧
      s.poolYields t) ∧
  (∀ (tag : Byte) (p : List Byte) (s : State) (exclusive : Bool) (c : Scene), s.ready ⟨0x18, tag, p⟩ = true →
    p.length = 2 → byteAt p 0 ≠ 0 → boolCode? (byteAt p 1) = some exclusive →
    findScene s.library (byteAt p 0) = some c → (s.layer alertSlot).state ≠ .idle →
    (s.layer alertSlot).sceneId = byteAt p 0 →
    exec (.raiseAlert tag p) s =
      .next (s.answered ⟨0x18, tag, p⟩ .already []
        fun t => t.setLayer alertSlot { t.layer alertSlot with latch := true, finishing := false })) ∧
  (∀ (tag : Byte) (p : List Byte) (s : State), s.ready ⟨0x10, tag, p⟩ = true → p.length = 9 →
    s.startLayerStatus p ≠ .ok →
    exec (.startLayer tag p) s = .next (s.answered ⟨0x10, tag, p⟩ (s.startLayerStatus p) [] id)) ∧
  (∀ (tag : Byte) (p : List Byte) (s : State), s.ready ⟨0x11, tag, p⟩ = true → p.length = 3 →
    s.startSceneStatus p ≠ .ok →
    exec (.startScene tag p) s = .next (s.answered ⟨0x11, tag, p⟩ (s.startSceneStatus p) [] id)) ∧
  ∀ (tag : Byte) (p : List Byte) (s : State), s.ready ⟨0x18, tag, p⟩ = true → p.length = 2 →
    s.raiseAlertStatus p ≠ .ok → s.raiseAlertStatus p ≠ .already →
    exec (.raiseAlert tag p) s = .next (s.answered ⟨0x18, tag, p⟩ (s.raiseAlertStatus p) [] id)

/-- STOP LAYER immediate and CLEAR ALERT immediate on a layer that is not IDLE end it STOPPED, give its begun STREAM cue
back CUT, queue its notice, clear the latch of an alert or egress layer, and evaluate the floor. In AT_END mode they set
finishing alone, with the latch of CLEAR ALERT cleared. On an IDLE slot a latch is cleared, or nothing changes with
ALREADY; slot 11 under an asserted line answers LINE_ACTIVE. Another slot or mode is INVALID first (R13, R14, R22, R5, R4,
R6). -/
def Obligations.StopsEndLayers : Prop :=
  (∀ (tag : Byte) (p : List Byte) (s : State) (i : Slot) (c : Instr) (kind : Byte),
    (c = .stopLayerImmediate tag p ∧ kind = 0x12 ∧ isScene i = true) ∨
      (c = .clearAlertImmediate tag p ∧ kind = 0x19 ∧ isScene i = false ∧
        ¬(i = egressSlot ∧ s.arb.egressLevel = true)) →
    PoolCanonical s → FloorHolds s → s.ready ⟨kind, tag, p⟩ = true → p.length = 2 → slotOf (byteAt p 0) = some i →
    byteAt p 1 = 0 → (s.layer i).state ≠ .idle →
    ∃ t, exec c s = .next t ∧ s.replied t ⟨kind, tag, p⟩ .ok [] ∧ s.sameButLayers t ∧
      t.settledFrom s.arb.policy (s.layersWith i
        { (s.layer i).toIdle i .stopped with latch := if isScene i = true then (s.layer i).latch else false }) ∧
      s.poolYields t ∧
      ((s.layer i).ownsCue = true → t.pool.read (s.layer i).cueIndex =
        { s.pool.read (s.layer i).cueIndex with ready := false, status := .cut }) ∧
      t.link.notices =
        (if (s.layer i).cueBegun && (s.layer i).captured.notify then
          (s.link.queue (.cue i (s.layer i).cueIndex .cut)).notices
         else s.link.notices)) ∧
  (∀ (tag : Byte) (p : List Byte) (s : State) (i : Slot), s.ready ⟨0x12, tag, p⟩ = true → p.length = 2 →
    slotOf (byteAt p 0) = some i → isScene i = true →
    (byteAt p 1 = 0 → (s.layer i).state = .idle →
      exec (.stopLayerImmediate tag p) s = .next (s.answered ⟨0x12, tag, p⟩ .already [] id)) ∧
    (byteAt p 1 = 1 → (s.layer i).state ≠ .idle → (s.layer i).finishing = false →
      exec (.stopLayerAtEnd tag p) s = .next (s.answered ⟨0x12, tag, p⟩ .ok []
        fun t => t.setLayer i { t.layer i with finishing := true })) ∧
    (byteAt p 1 = 1 → (s.layer i).state = .idle ∨ (s.layer i).finishing = true →
      exec (.stopLayerAtEnd tag p) s = .next (s.answered ⟨0x12, tag, p⟩ .already [] id))) ∧
  (∀ (c : Instr) (tag : Byte) (p : List Byte) (s : State), s.ready ⟨0x12, tag, p⟩ = true → p.length = 2 →
    (c = .stopLayerImmediate tag p ∧ byteAt p 1 ≠ 1) ∨ (c = .stopLayerAtEnd tag p ∧ byteAt p 1 ≠ 0) →
    9 < byteAt p 0 ∨ 1 < byteAt p 1 → exec c s = .next (s.answered ⟨0x12, tag, p⟩ .invalid [] id)) ∧
  (∀ (c : Instr) (tag : Byte) (p : List Byte) (s : State), s.ready ⟨0x19, tag, p⟩ = true → p.length = 2 →
    (c = .clearAlertImmediate tag p ∧ byteAt p 1 ≠ 1) ∨ (c = .clearAlertAtEnd tag p ∧ byteAt p 1 ≠ 0) →
    (byteAt p 0 ≠ 10 ∧ byteAt p 0 ≠ 11) ∨ 1 < byteAt p 1 →
    exec c s = .next (s.answered ⟨0x19, tag, p⟩ .invalid [] id)) ∧
  ∀ (tag : Byte) (p : List Byte) (s : State) (i : Slot) (c : Instr), s.ready ⟨0x19, tag, p⟩ = true → p.length = 2 →
    slotOf (byteAt p 0) = some i → isScene i = false →
    (c = .clearAlertAtEnd tag p ∧ byteAt p 1 = 1) ∨ (c = .clearAlertImmediate tag p ∧ byteAt p 1 = 0) →
    (i = egressSlot → s.arb.egressLevel = true →
      exec c s = .next (s.answered ⟨0x19, tag, p⟩ .lineActive [] id)) ∧
    (¬(i = egressSlot ∧ s.arb.egressLevel = true) →
      ((s.layer i).state = .idle → (s.layer i).latch = false →
        exec c s = .next (s.answered ⟨0x19, tag, p⟩ .already [] id)) ∧
      ((s.layer i).state = .idle → (s.layer i).latch = true →
        exec c s = .next (s.answered ⟨0x19, tag, p⟩ .ok []
          fun t => t.setLayer i { t.layer i with latch := false })) ∧
      ((s.layer i).state ≠ .idle → byteAt p 1 = 1 →
        exec c s = .next (s.answered ⟨0x19, tag, p⟩ .ok []
          fun t => t.setLayer i { t.layer i with latch := false, finishing := true })))

/-- SET LEVEL stores the level in an IDLE slot; in another it also parks at level 0, unparks at 1 to 7, and evaluates the
floor (R15). SET MASTER writes the switch and U, at most 1024 (R18). HUSH starts the countdown at its seconds, at most
600, ends an active hush at 0, or answers ALREADY (R19). SET POLICY replaces the policy, and a change to CANCEL cuts every
SUSPENDED scene layer (R9). SET LEVEL that fails a check of R15 has the status of the first that fails, and another master
or policy value is INVALID; none of them has an effect. -/
def Obligations.LevelsAndFactorsSet : Prop :=
  (∀ (tag : Byte) (p : List Byte) (s : State) (i : Slot), s.ready ⟨0x13, tag, p⟩ = true → p.length = 2 →
    slotOf (byteAt p 0) = some i → i ≠ egressSlot →
    (if isScene i = true then byteAt p 1 ≤ 7 else 8 ≤ byteAt p 1 ∧ byteAt p 1 ≤ 14) →
    ((s.layer i).state = .idle →
      exec (.setLevel tag p) s = .next (s.answered ⟨0x13, tag, p⟩ .ok []
        fun t => t.setLayer i { t.layer i with level := byteAt p 1 })) ∧
    (PoolCanonical s → FloorHolds s → (s.layer i).state ≠ .idle →
      (s.arb.policy = .cancel → isScene i = true → byteAt p 1 ≠ 0 → ∀ j : Slot, j ≠ i →
        (s.layer j).exclusive = true → (s.layer j).state.playing = true → (s.layer j).level ≤ byteAt p 1) →
      ∃ t, exec (.setLevel tag p) s = .next t ∧ s.replied t ⟨0x13, tag, p⟩ .ok [] ∧ s.sameButLayers t ∧
        t.settledFrom s.arb.policy (s.layersWith i
          { s.layer i with
            level := byteAt p 1
            state :=
              if byteAt p 1 = 0 then .parked
              else if (s.layer i).state = .parked then .running else (s.layer i).state }) ∧
        s.poolYields t)) ∧
  (∀ (tag : Byte) (p : List Byte) (s : State) (on : Bool), s.ready ⟨0x15, tag, p⟩ = true → p.length = 3 →
    boolCode? (byteAt p 0) = some on →
    exec (.setMaster tag p) s =
      .next (s.answered ⟨0x15, tag, p⟩ .ok (be16 (min (wordAt p 1) 1024))
        fun t => { t with arb := { t.arb with master := on, u := min (wordAt p 1) 1024 } })) ∧
  (∀ (tag : Byte) (p : List Byte) (s : State), s.ready ⟨0x16, tag, p⟩ = true → p.length = 2 →
    (wordAt p 0 ≠ 0 ∨ s.arb.hush ≠ 0 →
      exec (.hush tag p) s =
        .next (s.answered ⟨0x16, tag, p⟩ .ok (be16 (min (wordAt p 0) 600))
          fun t => { t with arb := { t.arb with hush := min (wordAt p 0) 600 * 1000 } })) ∧
    (wordAt p 0 = 0 → s.arb.hush = 0 →
      exec (.hush tag p) s = .next (s.answered ⟨0x16, tag, p⟩ .already [] id))) ∧
  (∀ (tag : Byte) (p : List Byte) (s : State), s.ready ⟨0x13, tag, p⟩ = true → p.length = 2 →
    s.setLevelStatus p ≠ .ok →
    exec (.setLevel tag p) s = .next (s.answered ⟨0x13, tag, p⟩ (s.setLevelStatus p) [] id)) ∧
  (∀ (tag : Byte) (p : List Byte) (s : State), s.ready ⟨0x15, tag, p⟩ = true → p.length = 3 → 1 < byteAt p 0 →
    exec (.setMaster tag p) s = .next (s.answered ⟨0x15, tag, p⟩ .invalid [] id)) ∧
  (∀ (tag : Byte) (p : List Byte) (s : State), s.ready ⟨0x17, tag, p⟩ = true → p.length = 1 → 1 < byteAt p 0 →
    exec (.setPolicy tag p) s = .next (s.answered ⟨0x17, tag, p⟩ .invalid [] id)) ∧
  ∀ (tag : Byte) (p : List Byte) (s : State) (k : Policy), PoolCanonical s → FloorHolds s →
    s.ready ⟨0x17, tag, p⟩ = true → p.length = 1 → policy? (byteAt p 0) = some k →
    ∃ t, exec (.setPolicy tag p) s = .next t ∧ s.replied t ⟨0x17, tag, p⟩ .ok [] ∧ t.arb.policy = k ∧
      s.sameButLayers { t with arb := { t.arb with policy := s.arb.policy } } ∧
      t.settledFrom k (fun j =>
        if k = .cancel ∧ (s.layer j).state = .suspended then (s.layer j).toIdle j .cut else s.layer j) ∧
      s.poolYields t

/-! ### Requests of the pool, the library and the tables -/

/-- LOAD CUES writes its 1 to 18 records together, each as given with status NONE, and no other index (R38, R39). READ CUES
replies the records as they stand (R41). PUT SCENE adds or replaces the record of its id, or removes it with length 0, and
leaves every other record and the pool (R46, R47). A request that fails a check of R38, R41, R46 or R47 has the status of
the first that fails, and no effect. -/
def Obligations.PoolAndLibraryWrites : Prop :=
  (∀ (tag : Byte) (p : List Byte) (s : State) (n : Nat), PoolCanonical s → s.ready ⟨0x20, tag, p⟩ = true → 1 ≤ n →
    n ≤ 18 → p.length = 2 + 13 * n → wordAt p 0 + n ≤ 2048 → (∀ k < n, byteAt p (2 + 13 * k) ≤ 5) →
    (∀ k < n, s.owned (wordAt p 0 + k) = false) →
    ∃ pool, exec (.loadCues tag p) s = .next (s.answered ⟨0x20, tag, p⟩ .ok [] fun t => { t with pool := pool }) ∧
      (∀ k < n, some (pool.read (wordAt p 0 + k)) = cueOfBytes ((p.drop (2 + 13 * k)).take 13)) ∧
      ∀ j, j < wordAt p 0 ∨ wordAt p 0 + n ≤ j → pool.read j = s.pool.read j) ∧
  (∀ (tag : Byte) (p : List Byte) (s : State), s.ready ⟨0x21, tag, p⟩ = true → p.length = 3 → 1 ≤ byteAt p 2 →
    byteAt p 2 ≤ 18 → wordAt p 0 + byteAt p 2 ≤ 2048 →
    exec (.readCues tag p) s =
      .next (s.answered ⟨0x21, tag, p⟩ .ok
        ((List.range (byteAt p 2)).flatMap fun k => cueToBytes (s.pool.read (wordAt p 0 + k))) id)) ∧
  (∀ (tag : Byte) (p : List Byte) (s : State) (exclusive : Bool), s.ready ⟨0x22, tag, p⟩ = true → p.length = 7 →
    byteAt p 0 ≠ 0 → 1 ≤ wordAt p 3 → wordAt p 3 ≤ 256 → wordAt p 1 + wordAt p 3 ≤ 2048 → byteAt p 5 ≤ 7 →
    boolCode? (byteAt p 6) = some exclusive →
    (findScene s.library (byteAt p 0) ≠ none ∨ s.library.length < 32) →
    ∃ library, exec (.putScene tag p) s =
        .next (s.answered ⟨0x22, tag, p⟩ .ok [] fun t => { t with library := library }) ∧
      findScene library (byteAt p 0) =
        some { id := byteAt p 0, base := wordAt p 1, length := wordAt p 3, level := byteAt p 5,
               exclusive := exclusive } ∧
      ∀ id, id ≠ byteAt p 0 → findScene library id = findScene s.library id) ∧
  (∀ (tag : Byte) (p : List Byte) (s : State), s.ready ⟨0x20, tag, p⟩ = true → s.loadCuesStatus p ≠ .ok →
    exec (.loadCues tag p) s = .next (s.answered ⟨0x20, tag, p⟩ (s.loadCuesStatus p) [] id)) ∧
  (∀ (tag : Byte) (p : List Byte) (s : State), s.ready ⟨0x21, tag, p⟩ = true → p.length = 3 →
    byteAt p 2 = 0 ∨ 18 < byteAt p 2 ∨ 2047 < wordAt p 0 ∨ 2048 < wordAt p 0 + byteAt p 2 →
    exec (.readCues tag p) s = .next (s.answered ⟨0x21, tag, p⟩ .invalid [] id)) ∧
  (∀ (c : Instr) (tag : Byte) (p : List Byte) (s : State), s.ready ⟨0x22, tag, p⟩ = true → p.length = 7 →
    (c = .putScene tag p ∧ wordAt p 3 ≠ 0) ∨ (c = .putSceneRemove tag p ∧ wordAt p 3 = 0) →
    s.putSceneStatus p ≠ .ok →
    exec c s = .next (s.answered ⟨0x22, tag, p⟩ (s.putSceneStatus p) [] id)) ∧
  ∀ (tag : Byte) (p : List Byte) (s : State), s.ready ⟨0x22, tag, p⟩ = true → p.length = 7 → byteAt p 0 ≠ 0 →
    wordAt p 3 = 0 →
    (findScene s.library (byteAt p 0) = none →
      exec (.putSceneRemove tag p) s = .next (s.answered ⟨0x22, tag, p⟩ .already [] id)) ∧
    (findScene s.library (byteAt p 0) ≠ none →
      ∃ library, exec (.putSceneRemove tag p) s =
          .next (s.answered ⟨0x22, tag, p⟩ .ok [] fun t => { t with library := library }) ∧
        findScene library (byteAt p 0) = none ∧
        ∀ id, id ≠ byteAt p 0 → findScene library id = findScene s.library id)

/-- GET SCENE, GET CATALOG and GET TRIGGER reply every field of the record they name, byte for byte, and change no state;
GET SCENE of id 0 lists the ids in use in ascending order; an id in no record is NOT_FOUND, an entry beyond its table
INVALID (R48, R122, R172). -/
def Obligations.TablesAreRead : Prop :=
  (∀ (tag : Byte) (p : List Byte) (s : State), LibraryHolds s → s.ready ⟨0x23, tag, p⟩ = true → p.length = 1 →
    (∀ c, byteAt p 0 ≠ 0 → findScene s.library (byteAt p 0) = some c →
      exec (.getScene tag p) s =
        .next (s.answered ⟨0x23, tag, p⟩ .ok
          (be8 c.id ++ be16 c.base ++ be16 c.length ++ be8 c.level ++ be8 (if c.exclusive then 1 else 0)) id)) ∧
    (byteAt p 0 ≠ 0 → findScene s.library (byteAt p 0) = none →
      exec (.getScene tag p) s = .next (s.answered ⟨0x23, tag, p⟩ .notFound [] id)) ∧
    (byteAt p 0 = 0 → ∃ ids : List Nat, ids.Pairwise (· < ·) ∧ ids.length = s.library.length ∧
      (∀ k, k ∈ ids ↔ ∃ c ∈ s.library, c.id = k) ∧
      exec (.getScene tag p) s =
        .next (s.answered ⟨0x23, tag, p⟩ .ok (be8 s.library.length ++ ids.flatMap be8) id))) ∧
  (∀ (tag : Byte) (p : List Byte) (s : State), s.ready ⟨0x33, tag, p⟩ = true → p.length = 1 →
    (15 < byteAt p 0 → exec (.getCatalog tag p) s = .next (s.answered ⟨0x33, tag, p⟩ .invalid [] id)) ∧
    ∀ k : Fin 16, byteAt p 0 = k.val →
      (let e := s.dir.catalog[k]
       exec (.getCatalog tag p) s =
         .next (s.answered ⟨0x33, tag, p⟩ .ok
           (be8 k.val ++ be8 (if e.valid then 1 else 0) ++ be16 e.supplier ++ be16 e.part ++ be8 e.bin ++
             be16 e.gains.r ++ be16 e.gains.g ++ be16 e.gains.b ++ be16 e.currents.r ++ be16 e.currents.g ++
             be16 e.currents.b ++ be8 (if e.overrideSelf then 1 else 0)) id))) ∧
  ∀ (tag : Byte) (p : List Byte) (s : State), s.ready ⟨0x5A, tag, p⟩ = true → p.length = 1 →
    (23 < byteAt p 0 → exec (.getTrigger tag p) s = .next (s.answered ⟨0x5A, tag, p⟩ .invalid [] id)) ∧
    ∀ k : Fin 24, byteAt p 0 = k.val →
      (let x := s.triggers[k]
       exec (.getTrigger tag p) s =
         .next (s.answered ⟨0x5A, tag, p⟩ .ok
           (be8 k.val ++ be8 (if x.valid then 1 else 0) ++ be8 (if x.endOfTable then 1 else 0) ++
             be16 x.code.toNat ++ be16 x.mask.toNat ++ be8 (actionCode x.action) ++ be8 x.slot ++ be8 x.sceneId ++
             be8 x.level ++ be8 (if x.exclusive then 1 else 0) ++ be8 (if x.replace then 1 else 0) ++
             be8 (if x.report then 1 else 0)) id))

/-- GET LAYER, GET NODE and GET AMBIENT reply every field of the record they name at the offsets of 11.6, in 30, 37
and 37 bytes of data, and change no state; a position without a record is NOT_FOUND, and a slot, chain or position out
of range INVALID (R16, R120, R158). The count of ticks in a gate window rests on the model's timer: log 16. -/
def Obligations.RecordsAreReported : Prop :=
  (∀ (tag : Byte) (p : List Byte) (s : State), s.ready ⟨0x14, tag, p⟩ = true → p.length = 1 →
    (11 < byteAt p 0 → exec (.getLayer tag p) s = .next (s.answered ⟨0x14, tag, p⟩ .invalid [] id)) ∧
    ∀ i : Slot, slotOf (byteAt p 0) = some i →
      (let l := s.layer i
       let d : List Byte :=
         be8 i.val ++ be8 (layerStateCode l.state) ++ be8 (endReasonCode l.endReason) ++ be8 l.level ++
           be8 (if l.exclusive then 1 else 0) ++ be8 l.sceneId ++ be16 l.ringBase ++ be16 l.ringLength ++
           be8 (ringModeCode l.ringMode) ++ be8 (if l.fallback then 1 else 0) ++ be8 l.startOffset ++
           be16 l.cueIndex ++ be8 (if l.cueBegun then 1 else 0) ++ be16 l.elapsed ++
           be16 (if l.cueBegun then l.captured.duration else 0) ++
           be8 (if l.sweepActive then l.captured.colour.r else l.colour.r) ++
           be8 (if l.sweepActive then l.captured.colour.g else l.colour.g) ++
           be8 (if l.sweepActive then l.captured.colour.b else l.colour.b) ++
           be8 (if l.sweepActive then l.captured.opacity else l.opacity) ++ [l.selector.value, l.selector.mask] ++
           be8 l.loopStack.length ++ be8 (if l.loopOverflow then 1 else 0) ++ be8 (if l.finishing then 1 else 0) ++
           be8 (if l.latch = true ∧ isScene i = false then 1 else 0)
       d.length = 30 ∧ exec (.getLayer tag p) s = .next (s.answered ⟨0x14, tag, p⟩ .ok d id))) ∧
  (∀ (tag : Byte) (p : List Byte) (s : State), s.ready ⟨0x31, tag, p⟩ = true → p.length = 2 →
    (chainCode? (byteAt p 0) = none ∨ 127 < byteAt p 1 →
      exec (.getNode tag p) s = .next (s.answered ⟨0x31, tag, p⟩ .invalid [] id)) ∧
    ∀ c : Chain, chainCode? (byteAt p 0) = some c → byteAt p 1 ≤ 127 →
      (∀ n, (s.dir.nodes c)[byteAt p 1]? = some n →
        (let d : List Byte :=
           be8 (if c = .a then 0 else 1) ++ be8 (byteAt p 1) ++
             be8 (byteAt p 1 + if c = .b then s.dir.nodesA.length else 0) ++ [n.zone] ++
             be8 (if n.identityValid then 1 else 0) ++ be16 n.supplier ++ be16 n.part ++ be8 n.bin ++
             be8 n.revision ++ be8 (blockStateCode n.block) ++ be8 (n.catalogEntry.getD 0xFF) ++
             be8 (calSourceCode n.source) ++ be16 n.gains.r ++ be16 n.gains.g ++ be16 n.gains.b ++
             be16 n.currents.r ++ be16 n.currents.g ++ be16 n.currents.b ++ be16 n.cap ++
             be8 ((if n.status.overtemp then 1 else 0) + (if n.status.openR then 2 else 0) +
               (if n.status.openG then 4 else 0) + (if n.status.openB then 8 else 0) +
               if (s.port c).loopBroken then 16 else 0) ++
             be8 (if n.sent then 1 else 0) ++ be16 n.lastSent.r ++ be16 n.lastSent.g ++ be16 n.lastSent.b ++
             be8 ((n.top.map fun i => i.val).getD 0xFF)
         d.length = 37 ∧ exec (.getNode tag p) s = .next (s.answered ⟨0x31, tag, p⟩ .ok d id))) ∧
      ((s.dir.nodes c).length ≤ byteAt p 1 →
        exec (.getNode tag p) s = .next (s.answered ⟨0x31, tag, p⟩ .notFound [] id))) ∧
  ∀ (tag : Byte) (s : State), s.ready ⟨0x52, tag, []⟩ = true →
    (let m := s.amb
     let d : List Byte :=
       be16 (if m.windowOpen then m.counter else 0) ++
         be8 (if m.windowOpen then min (100 - m.windowTimer) 99 else 0) ++ be16 m.lastCount ++
         be8 (if m.seeded then 1 else 0) ++ be16 (if m.seeded then m.ls else 0) ++ be8 (if m.stale then 1 else 0) ++
         be8 m.staleCount ++ be16 m.measured ++ be8 (if m.overrideOn then 1 else 0) ++ be16 m.overrideValue ++
         be16 (if m.overrideOn then m.overrideValue else m.measured) ++
         [m.curve.p0, m.curve.p1, m.curve.p2, m.curve.p3, m.curve.p4].flatMap
           (fun q => be16 q.count ++ be16 q.factor)
     d.length = 37 ∧ exec (.getAmbient tag []) s = .next (s.answered ⟨0x52, tag, []⟩ .ok d id))

/-- PUT CATALOG writes its entry and selects the calibration of every record anew; PUT ZONE SPAN writes its span and
zones every record anew; both are refused LOCKED under the lock, and before that INVALID by their checks in order, with no
effect. LOCK CATALOG sets the lock, or answers ALREADY (R121,
R111, R123, R113, R124). Selection takes the first entry that serves a node of valid identity and gives source, gains,
currents and cap by the table of the manual (R109, R110); a position has the zone code of the highest valid span that
covers it, or 0 (R113). -/
def Obligations.TablesAreWritten : Prop :=
  (∀ (tag : Byte) (p : List Byte) (s : State) (valid overrideSelf : Bool), s.ready ⟨0x32, tag, p⟩ = true →
    p.length = 20 → byteAt p 0 < 16 → boolCode? (byteAt p 1) = some valid →
    boolCode? (byteAt p 19) = some overrideSelf → wordAt p 13 ≤ 1000 → wordAt p 15 ≤ 1000 → wordAt p 17 ≤ 1000 →
    (s.dir.locked = true → exec (.putCatalog tag p) s = .next (s.answered ⟨0x32, tag, p⟩ .locked [] id)) ∧
    (s.dir.locked = false →
      ∃ d, exec (.putCatalog tag p) s = .next (s.answered ⟨0x32, tag, p⟩ .ok [] fun t => { t with dir := d }) ∧
        d.locked = false ∧ d.spans = s.dir.spans ∧
        (∀ k : Fin 16, d.catalog[k] =
          if k.val = byteAt p 0 then
            { valid := valid, supplier := wordAt p 2, part := wordAt p 4, bin := byteAt p 6,
              gains := ⟨wordAt p 7, wordAt p 9, wordAt p 11⟩, currents := ⟨wordAt p 13, wordAt p 15, wordAt p 17⟩,
              overrideSelf := overrideSelf }
          else s.dir.catalog[k]) ∧
        ∀ c : Chain, d.nodes c = (s.dir.nodes c).map (Node.select d.catalog))) ∧
  (∀ (tag : Byte) (p : List Byte) (s : State) (valid : Bool) (c : Chain), s.ready ⟨0x34, tag, p⟩ = true →
    p.length = 6 → byteAt p 0 < 32 → boolCode? (byteAt p 1) = some valid → chainCode? (byteAt p 2) = some c →
    byteAt p 4 ≤ 127 → byteAt p 3 ≤ byteAt p 4 →
    (s.dir.locked = true → exec (.putZoneSpan tag p) s = .next (s.answered ⟨0x34, tag, p⟩ .locked [] id)) ∧
    (s.dir.locked = false →
      ∃ d, exec (.putZoneSpan tag p) s = .next (s.answered ⟨0x34, tag, p⟩ .ok [] fun t => { t with dir := d }) ∧
        d.locked = false ∧ d.catalog = s.dir.catalog ∧
        (∀ k : Fin 32, d.spans[k] =
          if k.val = byteAt p 0 then
            { valid := valid, chain := c, first := byteAt p 3, last := byteAt p 4, zone := p.getD 5 0 }
          else s.dir.spans[k]) ∧
        ∀ e : Chain, d.nodes e =
          (s.dir.nodes e).mapIdx fun k n => { n with zone := zoneAt d.spans e k })) ∧
  (∀ (tag : Byte) (p : List Byte) (s : State), s.ready ⟨0x32, tag, p⟩ = true → p.length = 20 →
    s.putCatalogStatus p ≠ .ok →
    exec (.putCatalog tag p) s = .next (s.answered ⟨0x32, tag, p⟩ (s.putCatalogStatus p) [] id)) ∧
  (∀ (tag : Byte) (p : List Byte) (s : State), s.ready ⟨0x34, tag, p⟩ = true → p.length = 6 →
    s.putSpanStatus p ≠ .ok →
    exec (.putZoneSpan tag p) s = .next (s.answered ⟨0x34, tag, p⟩ (s.putSpanStatus p) [] id)) ∧
  (∀ (tag : Byte) (s : State), s.ready ⟨0x35, tag, []⟩ = true →
     (s.dir.locked = true → exec (.lockCatalog tag []) s = .next (s.answered ⟨0x35, tag, []⟩ .already [] id)) ∧
     (s.dir.locked = false →
       exec (.lockCatalog tag []) s = .next (s.answered ⟨0x35, tag, []⟩ .ok []
         fun t => { t with dir := { t.dir with locked := true } }))) ∧
  (∀ (k : Catalog) (n : Node),
    let serves (i : Fin 16) : Prop :=
      (k[i]).valid = true ∧ (k[i]).supplier = n.supplier ∧ (k[i]).part = n.part ∧
        ((k[i]).bin = n.bin ∨ (k[i]).bin = 255)
    let chosen (entry : Option Nat) (source : CalSource) (gains currents : Rgb) (cap : Nat) : Node :=
      { n with catalogEntry := entry, source := source, gains := gains, currents := currents, cap := cap }
    (n.identityValid = false → n.select k = chosen none .generic (Rgb.all 32768) (Rgb.all 200) 2047) ∧
      (n.identityValid = true → (∀ i, ¬serves i) →
        (∀ g, n.block = .valid → n.blockGains = some g →
          n.select k = chosen none .self g (n.blockCurrents.getD (Rgb.all 200)) 4095) ∧
        (n.block ≠ .valid → n.select k = chosen none .generic (Rgb.all 32768) (Rgb.all 200) 2047)) ∧
      ∀ i, n.identityValid = true → serves i → (∀ j, j < i → ¬serves j) →
        (∀ g, n.block = .valid → n.blockGains = some g → (k[i]).overrideSelf = false →
          n.select k = chosen (some i.val) .self g (n.blockCurrents.getD (k[i]).currents) 4095) ∧
        (n.block ≠ .valid ∨ (k[i]).overrideSelf = true →
          n.select k = chosen (some i.val) .catalog (k[i]).gains (k[i]).currents 4095)) ∧
  ∀ (z : Spans) (c : Chain) (p : Nat),
    let covers (i : Fin 32) : Prop := (z[i]).valid = true ∧ (z[i]).chain = c ∧ (z[i]).first ≤ p ∧ p ≤ (z[i]).last
    (∀ i, covers i → (∀ j, i < j → ¬covers j) → zoneAt z c p = (z[i]).zone) ∧
      ((∀ i, ¬covers i) → zoneAt z c p = 0)

/-! ### Requests of the ports -/

/-- ENUMERATE, SET CHAIN BUDGET, SET CHAIN STATE and RECLAIM CHAIN act by the port's state: a pass begins, at once or
behind the shift in progress, with ACCEPTED; the budget is written, at most 6000; the port goes ON into RUNNING or OFF
behind a closing dark frame; a quiet RELEASED port returns to its return state; each other state has its status and no
effect, and another chain or state value is INVALID (R139, R83, R136, R137, R138, R143, R145, R210). What becomes of a shift in progress when its port leaves RUNNING,
and of the wake mark of a cancelled sleep when a request takes its port out of OFF, is the model's reading: log 14,
log 21. -/
def Obligations.PortsObey : Prop :=
  (∀ (c : Instr) (f : LinkFrame) (s : State), s.ready f = true →
    (c = .enumerate f.tag f.payload ∧ f.kind = 0x30 ∧ f.payload.length = 1) ∨
      (c = .setChainBudget f.tag f.payload ∧ f.kind = 0x41 ∧ f.payload.length = 3) ∨
      (c = .setChainStateOn f.tag f.payload ∧ f.kind = 0x42 ∧ f.payload.length = 2 ∧ byteAt f.payload 1 ≠ 0) ∨
      (c = .setChainStateOff f.tag f.payload ∧ f.kind = 0x42 ∧ f.payload.length = 2 ∧ byteAt f.payload 1 ≠ 1) ∨
      (c = .reclaimChain f.tag f.payload ∧ f.kind = 0x43 ∧ f.payload.length = 1) →
    1 < byteAt f.payload 0 ∨ (f.kind = 0x42 ∧ 1 < byteAt f.payload 1) →
    exec c s = .next (s.answered f .invalid [] id)) ∧
  (∀ (tag : Byte) (p : List Byte) (s : State) (c : Chain), s.ready ⟨0x30, tag, p⟩ = true → p.length = 1 →
    chainCode? (byteAt p 0) = some c →
    ((s.port c).state = .enumerating →
      exec (.enumerate tag p) s = .next (s.answered ⟨0x30, tag, p⟩ .busy [] id)) ∧
    ((s.port c).state = .released →
      exec (.enumerate tag p) s = .next (s.answered ⟨0x30, tag, p⟩ .chainReleased [] id)) ∧
    ((s.port c).state = .off → (s.port c).transfer = none → (s.port c).waiting = [] →
      exec (.enumerate tag p) s = .next (s.answered ⟨0x30, tag, p⟩ .accepted []
        fun t => t.setPort c { t.port c with
          state := .enumerating, wakeMark := false, transfer := some .request })) ∧
    ((s.port c).state = .running → (s.port c).waiting = [] →
      exec (.enumerate tag p) s = .next (s.answered ⟨0x30, tag, p⟩ .accepted []
        fun t => (t.setComp c { t.comp c with render := none, buffer := none }).setPort c
          { t.port c with
            state := .enumerating, pendingFrame := none, lastLatched := none, latchedSince := false
            transfer := match (t.port c).transfer with
              | none => some .request
              | some x => some x.detach
            waiting := if (t.port c).transfer = none then [] else [.identify] }))) ∧
  (∀ (tag : Byte) (p : List Byte) (s : State) (c : Chain), s.ready ⟨0x41, tag, p⟩ = true → p.length = 3 →
    chainCode? (byteAt p 0) = some c →
    exec (.setChainBudget tag p) s = .next (s.answered ⟨0x41, tag, p⟩ .ok (be16 (min (wordAt p 1) 6000))
      fun t => t.setPort c { t.port c with budget := min (wordAt p 1) 6000 })) ∧
  (∀ (tag : Byte) (p : List Byte) (s : State) (c : Chain), s.ready ⟨0x42, tag, p⟩ = true → p.length = 2 →
    chainCode? (byteAt p 0) = some c → byteAt p 1 = 1 →
    ((s.port c).state = .off →
      exec (.setChainStateOn tag p) s = .next (s.answered ⟨0x42, tag, p⟩ .ok []
        fun t => t.setPort c { t.port c with
          state := .running, wakeMark := false, periodTimer := 1, latchedSince := false })) ∧
    ((s.port c).state = .running ∨ (s.port c).state = .enumerating →
      exec (.setChainStateOn tag p) s = .next (s.answered ⟨0x42, tag, p⟩ .already [] id)) ∧
    ((s.port c).state = .released →
      exec (.setChainStateOn tag p) s = .next (s.answered ⟨0x42, tag, p⟩ .chainReleased [] id))) ∧
  (∀ (tag : Byte) (p : List Byte) (s : State) (c : Chain), s.ready ⟨0x42, tag, p⟩ = true → p.length = 2 →
    chainCode? (byteAt p 0) = some c → byteAt p 1 = 0 →
    ((s.port c).state = .off →
      exec (.setChainStateOff tag p) s = .next (s.answered ⟨0x42, tag, p⟩ .already [] id)) ∧
    ((s.port c).state = .released →
      exec (.setChainStateOff tag p) s = .next (s.answered ⟨0x42, tag, p⟩ .chainReleased [] id)) ∧
    ((s.port c).state = .running → (s.port c).waiting = [] →
      exec (.setChainStateOff tag p) s = .next (s.answered ⟨0x42, tag, p⟩ .ok []
        fun t => (t.setComp c { t.comp c with render := none, buffer := none }).setPort c
          { t.port c with
            state := .off, pendingFrame := none, lastLatched := none, latchedSince := false
            transfer := match (t.port c).transfer with
              | none => if t.count c = 0 then none else some (.dark (t.count c) false)
              | some x => some x.detach
            waiting := if (t.port c).transfer = none ∨ t.count c = 0 then [] else [.dark] })) ∧
    ((s.port c).state = .enumerating → (s.port c).waiting = [] →
      ((s.port c).transfer = none ∨ (s.port c).transfer = some .request ∨ (s.port c).transfer = some .collect) →
      exec (.setChainStateOff tag p) s = .next (s.answered ⟨0x42, tag, p⟩ .ok []
        fun t =>
          { t.setPort c
              { t.port c with
                state := .off, settle := none
                transfer := if t.count c = 0 then none else some (.dark (t.count c) false) } with
            link := t.link.queue (.enumeration c (t.count c) .abandoned) }))) ∧
  ∀ (tag : Byte) (p : List Byte) (s : State) (c : Chain), s.ready ⟨0x43, tag, p⟩ = true → p.length = 1 →
    chainCode? (byteAt p 0) = some c →
    ((s.port c).state ≠ .released →
      exec (.reclaimChain tag p) s = .next (s.answered ⟨0x43, tag, p⟩ .already [] id)) ∧
    ((s.port c).state = .released → (s.port c).foreignActive = true →
      exec (.reclaimChain tag p) s = .next (s.answered ⟨0x43, tag, p⟩ .chainReleased [] id)) ∧
    ((s.port c).state = .released → (s.port c).foreignActive = false → (s.port c).returnState = .running →
      exec (.reclaimChain tag p) s = .next (s.answered ⟨0x43, tag, p⟩ .ok []
        fun t => t.setPort c { t.port c with state := .running, periodTimer := 1, latchedSince := false })) ∧
    ((s.port c).state = .released → (s.port c).foreignActive = false → (s.port c).returnState = .off →
      exec (.reclaimChain tag p) s = .next (s.answered ⟨0x43, tag, p⟩ .ok []
        fun t => t.setPort c { t.port c with state := .off }))

/-- SET CHAIN TIMING writes pre, sel and the period clamped to 5 to 40, replies the applied divisor and period, and
acts on what the port does: nothing between transfers; a duty shift is aborted and counted, and a closing dark frame
that waits for it begins; a closing dark frame is counted and shifted again; a pass is abandoned with its notice and
begun anew, and so is a pass that waits behind a shift: the new one begins at once after an aborted duty shift, and
waits for a dark frame that is shifted again. Another chain, or a pre or sel above 7, is INVALID (R135, R125, R128, R132,
R143, R210). That a dark frame past its latch word is shifted again, and what becomes of a waiting pass, are the model's
reading: log 22, log 23. -/
def Obligations.TimingActsOnTransfers : Prop :=
  (∀ (tag : Byte) (p : List Byte) (s : State), s.ready ⟨0x40, tag, p⟩ = true → p.length = 4 →
    1 < byteAt p 0 ∨ 7 < byteAt p 1 ∨ 7 < byteAt p 2 →
    exec (.setChainTiming tag p) s = .next (s.answered ⟨0x40, tag, p⟩ .invalid [] id)) ∧
  (∀ (tag : Byte) (p : List Byte) (s : State) (c : Chain), s.ready ⟨0x40, tag, p⟩ = true → p.length = 4 →
    chainCode? (byteAt p 0) = some c → byteAt p 1 ≤ 7 → byteAt p 2 ≤ 7 →
    (let period := max 5 (min (byteAt p 3) 40)
     let data := be16 (min (max ((byteAt p 1 + 1) * 2 ^ (byteAt p 2 + 1)) 4) 512) ++ be8 period
     let aborted (q : Port) (next : Transfer) (rest : List Waiting) : Port :=
       { q with pre := byteAt p 1, sel := byteAt p 2, period := period,
                abortedFrames := min (q.abortedFrames + 1) 65535, transfer := some next, waiting := rest }
     let noticed (t : State) : Link := t.link.queue (.enumeration c (t.count c) .abandoned)
     (∀ f o l, (s.port c).transfer = some (.duty f o l) → (s.comp c).buffer = none →
       (∀ rest, (s.port c).waiting = .dark :: rest →
         exec (.setChainTiming tag p) s = .next (s.answered ⟨0x40, tag, p⟩ .ok data
           fun t =>
             { t.setPort c (aborted (t.port c) (.dark (t.count c) false) rest) with
               link := if .identify ∈ rest then noticed t else t.link })) ∧
       ((s.port c).waiting = [.identify] → (s.port c).wakeMark = false →
         exec (.setChainTiming tag p) s = .next (s.answered ⟨0x40, tag, p⟩ .ok data
           fun t => { t.setPort c (aborted (t.port c) .request []) with link := noticed t }))) ∧
     (∀ n l, (s.port c).transfer = some (.dark n l) → .identify ∈ (s.port c).waiting →
       exec (.setChainTiming tag p) s = .next (s.answered ⟨0x40, tag, p⟩ .ok data
         fun t =>
           { t.setPort c (aborted (t.port c) (.dark n false) (t.port c).waiting) with link := noticed t })))) ∧
  ∀ (tag : Byte) (p : List Byte) (s : State) (c : Chain), s.ready ⟨0x40, tag, p⟩ = true → p.length = 4 →
    chainCode? (byteAt p 0) = some c → byteAt p 1 ≤ 7 → byteAt p 2 ≤ 7 → (s.port c).waiting = [] →
    (let period := max 5 (min (byteAt p 3) 40)
     let data := be16 (min (max ((byteAt p 1 + 1) * 2 ^ (byteAt p 2 + 1)) 4) 512) ++ be8 period
     let timed (q : Port) : Port := { q with pre := byteAt p 1, sel := byteAt p 2, period := period }
     ((s.port c).transfer = none → (s.port c).settle = none →
       exec (.setChainTiming tag p) s = .next (s.answered ⟨0x40, tag, p⟩ .ok data
         fun t => t.setPort c (timed (t.port c)))) ∧
     (∀ f o l, (s.port c).transfer = some (.duty f o l) → (s.comp c).buffer = none → (s.port c).wakeMark = false →
       exec (.setChainTiming tag p) s = .next (s.answered ⟨0x40, tag, p⟩ .ok data
         fun t => t.setPort c { timed (t.port c) with
           transfer := none, abortedFrames := min ((t.port c).abortedFrames + 1) 65535 })) ∧
     (∀ n l, (s.port c).transfer = some (.dark n l) →
       exec (.setChainTiming tag p) s = .next (s.answered ⟨0x40, tag, p⟩ .ok data
         fun t => t.setPort c { timed (t.port c) with
           transfer := some (.dark n false), abortedFrames := min ((t.port c).abortedFrames + 1) 65535 })) ∧
     ((s.port c).state = .enumerating →
       ((s.port c).transfer = none ∧ (s.port c).settle ≠ none) ∨ (s.port c).transfer = some .request ∨
         (s.port c).transfer = some .collect →
       exec (.setChainTiming tag p) s = .next (s.answered ⟨0x40, tag, p⟩ .ok data
         fun t =>
           { t.setPort c { timed (t.port c) with
               state := .enumerating, settle := none, transfer := some .request } with
             link := t.link.queue (.enumeration c (t.count c) .abandoned) })))

/-! ### Requests of the Ambient Unit and the Trigger Unit -/

/-- SET CURVE with ascending counts replaces the five points, factors at most 1024, and measured A follows unless the unit
is stale; other counts are INVALID (R156). SET AMBIENT OVERRIDE ON fixes the value, at most 1024; OFF replies measured A,
or ALREADY; another mode is INVALID (R157). -/
def Obligations.AmbientRequestsAct : Prop :=
  (∀ (tag : Byte) (p : List Byte) (s : State), s.ready ⟨0x50, tag, p⟩ = true → p.length = 20 →
    ((∀ k < 4, wordAt p (4 * k) < wordAt p (4 * (k + 1))) →
      ∃ curve : Curve,
        curve.points = ((List.range 5).map fun k => ⟨wordAt p (4 * k), min (wordAt p (4 * k + 2)) 1024⟩) ∧
        exec (.setCurve tag p) s =
          .next (s.answered ⟨0x50, tag, p⟩ .ok
            ((List.range 5).flatMap fun k => be16 (min (wordAt p (4 * k + 2)) 1024))
            fun t => { t with amb := { t.amb with
              curve := curve
              measured :=
                if t.amb.stale then t.amb.measured else curve.value (if t.amb.seeded then t.amb.ls else 0) } })) ∧
    (¬(∀ k < 4, wordAt p (4 * k) < wordAt p (4 * (k + 1))) →
      exec (.setCurve tag p) s = .next (s.answered ⟨0x50, tag, p⟩ .invalid [] id))) ∧
  (∀ (tag : Byte) (p : List Byte) (s : State), s.ready ⟨0x51, tag, p⟩ = true → p.length = 3 → byteAt p 0 = 1 →
    exec (.setAmbientOverrideOn tag p) s =
      .next (s.answered ⟨0x51, tag, p⟩ .ok (be16 (min (wordAt p 1) 1024))
        fun t => { t with amb := { t.amb with overrideOn := true, overrideValue := min (wordAt p 1) 1024 } })) ∧
  (∀ (c : Instr) (tag : Byte) (p : List Byte) (s : State),
    c = .setAmbientOverrideOn tag p ∨ c = .setAmbientOverrideOff tag p → s.ready ⟨0x51, tag, p⟩ = true →
    p.length = 3 → 1 < byteAt p 0 → exec c s = .next (s.answered ⟨0x51, tag, p⟩ .invalid [] id)) ∧
  ∀ (tag : Byte) (p : List Byte) (s : State), s.ready ⟨0x51, tag, p⟩ = true → p.length = 3 → byteAt p 0 = 0 →
    (s.amb.overrideOn = true → exec (.setAmbientOverrideOff tag p) s =
      .next (s.answered ⟨0x51, tag, p⟩ .ok (be16 s.amb.measured)
        fun t => { t with amb := { t.amb with overrideOn := false } })) ∧
    (s.amb.overrideOn = false →
      exec (.setAmbientOverrideOff tag p) s = .next (s.answered ⟨0x51, tag, p⟩ .already [] id))

/-- The scan takes the entries from 0 in ascending order: an end-of-table entry ends it, an entry with valid no or whose
masked code differs is passed over, and the first that is left is the match; without one there is no match (R161). -/
def Obligations.ScanFindsFirstMatch : Prop :=
  ∀ (table : Triggers) (code : BitVec 16),
    (∀ (k : Nat) (x : Trigger), scan table code = some (k, x) ↔
      ∃ h : k < 24, table[k] = x ∧ x.endOfTable = false ∧ x.valid = true ∧ code &&& x.mask = x.code &&& x.mask ∧
        ∀ (j : Nat) (hj : j < k), (table[j]).endOfTable = false ∧
          ¬((table[j]).valid = true ∧ code &&& (table[j]).mask = (table[j]).code &&& (table[j]).mask)) ∧
    (scan table code = none ↔ ¬∃ (k : Nat) (x : Trigger), scan table code = some (k, x))

/-- VEHICLE EVENT without a match answers NOT_FOUND with no effect; with one it takes the entry's action, queues the
TRIGGER NOTICE with the action's status when the entry asks for it, and answers OK (R162, R169). PUT TRIGGER writes every
field of its entry as given; one that fails a check of R170 is INVALID and changes nothing (R170, R171). -/
def Obligations.VehicleEventsAct : Prop :=
  (∀ (tag : Byte) (p : List Byte) (s : State), s.ready ⟨0x58, tag, p⟩ = true → p.length = 2 →
    (scan s.triggers (BitVec.ofNat 16 (wordAt p 0)) = none →
      exec (.vehicleEvent tag p) s = .next (s.answered ⟨0x58, tag, p⟩ .notFound [] id)) ∧
    ∀ (k : Nat) (x : Trigger), scan s.triggers (BitVec.ofNat 16 (wordAt p 0)) = some (k, x) →
      exec (.vehicleEvent tag p) s = .next (s.answered ⟨0x58, tag, p⟩ .ok [] fun t =>
        if x.report then
          { (t.act x).1 with
            link := (t.act x).1.link.queue (.trigger (BitVec.ofNat 16 (wordAt p 0)) k (t.act x).2) }
        else (t.act x).1)) ∧
  (∀ (tag : Byte) (p : List Byte) (s : State) (x : Trigger) (k : Fin 24), s.ready ⟨0x59, tag, p⟩ = true →
    p.length = 14 → byteAt p 0 = k.val → triggerOfBytes (p.drop 1) = some x →
    exec (.putTrigger tag p) s = .next (s.answered ⟨0x59, tag, p⟩ .ok []
      fun t => { t with triggers := t.triggers.set k x })) ∧
  ∀ (tag : Byte) (p : List Byte) (s : State), s.ready ⟨0x59, tag, p⟩ = true → p.length = 14 →
    (putTriggerStatus p ≠ .ok →
      exec (.putTrigger tag p) s = .next (s.answered ⟨0x59, tag, p⟩ .invalid [] id)) ∧
    ∀ (k : Fin 24) (action : Action), putTriggerStatus p = .ok → byteAt p 0 = k.val →
      action? (byteAt p 7) = some action →
      exec (.putTrigger tag p) s = .next (s.answered ⟨0x59, tag, p⟩ .ok []
        fun t =>
          let x : Trigger :=
            { valid := byteAt p 1 = 1, endOfTable := byteAt p 2 = 1, code := BitVec.ofNat 16 (wordAt p 3),
              mask := BitVec.ofNat 16 (wordAt p 5), action := action, slot := byteAt p 8, sceneId := byteAt p 9,
              level := byteAt p 10, exclusive := byteAt p 11 = 1, replace := byteAt p 12 = 1,
              report := byteAt p 13 = 1 }
          { t with triggers := t.triggers.set k x })

/-- A trigger's action acts as the request it enters at: START_SCENE with replace no as START SCENE, STOP_AT_END as
STOP LAYER AT_END, RAISE_ALERT as RAISE ALERT, CLEAR_ALERT as CLEAR ALERT in the mode its replace gives, and NONE does
nothing (R163, R165, R166, R167, R168). START_SCENE with replace yes ends the slot's layer, gives its cue back CUT
with its notice, and starts the scene in the same event; no other record of the pool is written but by cuts (R164,
R5). That under CANCEL a level below the floor which the replaced layer itself held gives a RUNNING layer is the
model's reading: log 25. -/
def Obligations.TriggersActAsRequests : Prop :=
  (∀ (s : State) (x : Trigger),
    (x.action = .none → s.act x = (s, .ok)) ∧
    (x.action = .startScene → x.replace = false → x.slot ≤ 9 → 1 ≤ x.sceneId → x.sceneId ≤ 255 →
      x.level ≤ 7 ∨ x.level = 0xFF →
      s.act x = (startScene (be8 x.slot ++ be8 x.sceneId ++ be8 x.level) s).pair) ∧
    (x.action = .stopAtEnd → x.slot ≤ 9 → s.act x = (stopLayer (be8 x.slot ++ be8 1) s).pair) ∧
    (x.action = .raiseAlert → 1 ≤ x.sceneId → x.sceneId ≤ 255 →
      s.act x = (raiseAlert (be8 x.sceneId ++ be8 (if x.exclusive then 1 else 0)) s).pair) ∧
    (x.action = .clearAlert → x.slot = 10 ∨ x.slot = 11 →
      s.act x = (clearAlert (be8 x.slot ++ be8 (if x.replace then 0 else 1)) s).pair)) ∧
  ∀ (s : State) (x : Trigger) (i : Slot) (c : Scene), PoolCanonical s → FloorHolds s → x.action = .startScene →
    x.replace = true → slotOf x.slot = some i → isScene i = true → findScene s.library x.sceneId = some c →
    (∀ j : Slot, j ≠ i → (s.layer j).conflicts c.base c.length .resident = false) →
    (let level := if x.level = 0xFF then c.level else x.level
     (s.arb.policy = .cancel → level ≠ 0 → ∀ j : Slot, j ≠ i → (s.layer j).exclusive = true →
       (s.layer j).state.playing = true → (s.layer j).level ≤ level) →
     ∃ t, s.act x = (t, .ok) ∧ s.sameButLayers t ∧
       t.settledFrom s.arb.policy (s.layersWith i (s.startedIn i
         { level := level, exclusive := c.exclusive, sceneId := c.id, base := c.base, length := c.length,
           mode := .resident, offset := 0, fallback := false })) ∧
       ((s.layer i).state ≠ .idle → (s.layer i).ownsCue = true →
         t.pool.read (s.layer i).cueIndex =
           { s.pool.read (s.layer i).cueIndex with ready := false, status := .cut }) ∧
       (∀ k, t.pool.read k = s.pool.read k ∨
         (t.pool.read k = { s.pool.read k with ready := false, status := .cut } ∧
           ∃ j : Slot, (s.layer j).ownsCue = true ∧ (s.layer j).cueIndex = k ∧ (s.layer j).state ≠ .idle ∧
             (j = i ∨ (t.layer j).state = .idle))) ∧
       ((s.layer i).state ≠ .idle → (s.layer i).cueBegun = true → (s.layer i).captured.notify = true →
         (s.link.queue (.cue i (s.layer i).cueIndex .cut)).notices <+: t.link.notices))

/-! ### Requests and events of the Store and of power control -/

/-- STORE SETTINGS takes its two fields and the snapshot of the working values, STORE LIBRARY every scene with its
image; each erases its region and answers ACCEPTED (R200, R201, R202). STORE_WRITE_END gives the region its snapshot
on a match, leaves it failing otherwise, and queues the STORE NOTICE (R202). While a write is in progress the two
STORE requests and RESTART answer BUSY, and a lock-after-start-up neither yes nor no is INVALID before that; RESTART else imposes the hold, and is taken when its reply has been sent, as a
power-on that keeps the PLANT sample and the catalog lock (R204, R182). The content of a region, the read-back result
and the record of the sent reply are the model's choices: log 10, log 20, log 29. -/
def Obligations.StoresAndRestartsRun : Prop :=
  (∀ (tag : Byte) (p : List Byte) (s : State) (lock : Bool), s.ready ⟨0x60, tag, p⟩ = true → p.length = 2 →
    boolCode? (byteAt p 1) = some lock →
    (s.store.op ≠ .idle → exec (.storeSettings tag p) s = .next (s.answered ⟨0x60, tag, p⟩ .busy [] id)) ∧
    (s.store.op = .idle → ∃ k : StoredSettings,
      exec (.storeSettings tag p) s = .next (s.answered ⟨0x60, tag, p⟩ .accepted []
        fun t => { t with store := { t.store with
          egressScene := byteAt p 0, lockAfterStartUp := lock, settingsRegion := none, op := .settings k } }) ∧
      k.catalog = s.dir.catalog ∧ k.spans = s.dir.spans ∧ k.triggers = s.triggers.map triggerToBytes ∧
      k.curve = s.amb.curve ∧ k.portA = ⟨s.portA.pre, s.portA.sel, s.portA.period, s.portA.budget⟩ ∧
      k.portB = ⟨s.portB.pre, s.portB.sel, s.portB.period, s.portB.budget⟩ ∧ k.u = s.arb.u ∧
      policy? k.policy = some s.arb.policy ∧ k.egressScene = byteAt p 0 ∧ k.lockAfterStartUp = lock)) ∧
  (∀ (tag : Byte) (p : List Byte) (s : State), s.ready ⟨0x60, tag, p⟩ = true → p.length = 2 → 1 < byteAt p 1 →
    exec (.storeSettings tag p) s = .next (s.answered ⟨0x60, tag, p⟩ .invalid [] id)) ∧
  (∀ (tag : Byte) (s : State), s.ready ⟨0x61, tag, []⟩ = true →
    (s.store.op ≠ .idle → exec (.storeLibrary tag []) s = .next (s.answered ⟨0x61, tag, []⟩ .busy [] id)) ∧
    (s.store.op = .idle → 1024 < (s.library.map (·.length)).sum →
      exec (.storeLibrary tag []) s = .next (s.answered ⟨0x61, tag, []⟩ .invalid [] id)) ∧
    (s.store.op = .idle → (s.library.map (·.length)).sum ≤ 1024 →
      exec (.storeLibrary tag []) s = .next (s.answered ⟨0x61, tag, []⟩ .accepted []
        fun t => { t with store := { t.store with
          libraryRegion := none
          op := .library (s.library.map fun c =>
            ⟨c, (List.range c.length).map fun k =>
              { s.pool.read (c.base + k) with ready := false, status := .none }⟩) } }))) ∧
  (∀ (matched : Bool) (s : State), s.power.part = .awake →
    (∀ k, s.store.op = .settings k → exec (.storeWriteEnd matched) s = .next { s with
      store := { s.store with op := .idle, settingsRegion := if matched then some k else none }
      link := (s.link.queue (.store .settings matched)).startNext }) ∧
    (∀ l, s.store.op = .library l → exec (.storeWriteEnd matched) s = .next { s with
      store := { s.store with op := .idle, libraryRegion := if matched then some l else none }
      link := (s.link.queue (.store .library matched)).startNext })) ∧
  (∀ (tag : Byte) (s : State), s.ready ⟨0x62, tag, []⟩ = true →
    (s.store.op ≠ .idle → exec (.restart tag []) s = .next (s.answered ⟨0x62, tag, []⟩ .busy [] id)) ∧
    (s.store.op = .idle → exec (.restart tag []) s = .next (s.answered ⟨0x62, tag, []⟩ .ok []
      fun t => { t with link := { t.link with hold := .restart, replySent := false } }))) ∧
  ∀ s : State, s.power.part = .awake → s.link.hold = .restart → s.link.replySent = true →
    ∃ t, exec .restartTaken s = .next t ∧
      t.power = { part := .starting, sleepPending := false, plantHigh := s.power.plantHigh } ∧
      t.dir.locked = s.dir.locked ∧ (∀ i : Slot, t.layer i = Layer.reset (resetLevel i)) ∧ t.arb.floor = 0 ∧
      t.arb.egressLevel = false ∧ t.arb.egressLine = s.arb.egressLine ∧ (∀ k, t.pool.read k = Cue.empty) ∧
      (∀ c : Chain, (t.port c).state = .off ∧ (t.port c).transfer = none ∧ (t.comp c).render = none ∧
        t.dir.nodes c = []) ∧
      t.link = Link.reset ∧ t.store.op = .idle ∧ t.store.identityRegion = s.store.identityRegion ∧
      t.store.settingsRegion = s.store.settingsRegion ∧ t.store.libraryRegion = s.store.libraryRegion

/-- SLEEP with both latches clear and no write in progress stops every layer, ends hush without HUSH_END, discards the
gate window and imposes the hold; a latch answers ALERT_ACTIVE (R205, R28). It sends a RUNNING port OFF behind a closing
dark frame with the wake mark set, its render abandoned and its send buffer emptied; a shift in progress runs to its end,
and the dark frame waits for it. It abandons the pass of an ENUMERATING port with an ENUM NOTICE, and sends it OFF in the
same way; an OFF port keeps its dark frame, and a RELEASED one goes OFF with its lines high impedance, neither with the
mark (R146, R137, R143). DORMANT_ENTRY follows when the reply has been sent and the dark frames have ended; a port
released meanwhile goes OFF and has no mark (R206, R146). A wake by the link or by the
EGRESS level brings AWAKE back with every layer IDLE, floor 0, the marked ports RUNNING, the Ambient Unit restarted,
the receiver in WAIT_IDLE, the transmitter at its next frame, and the rest kept (R208, R209, R155, R183). The window's
timer, the record of the sent reply, the Ambient Unit's override value and last count, the Arbiter's values at the wake,
the shift cut off from its send buffer, and how long a RELEASED port's lines stay so are the model's choices: log 16, log
20, log 27, log 32, log 14, log 37. -/
def Obligations.SleepsAndWakes : Prop :=
  (∀ (tag : Byte) (s : State), s.ready ⟨0x63, tag, []⟩ = true →
    ((s.layer alertSlot).latch = true ∨ (s.layer egressSlot).latch = true →
      exec (.sleep tag []) s = .next (s.answered ⟨0x63, tag, []⟩ .alertActive [] id)) ∧
    ((s.layer alertSlot).latch = false → (s.layer egressSlot).latch = false → s.store.op ≠ .idle →
      exec (.sleep tag []) s = .next (s.answered ⟨0x63, tag, []⟩ .busy [] id)) ∧
    (PoolCanonical s → (s.layer alertSlot).latch = false → (s.layer egressSlot).latch = false →
      s.store.op = .idle →
      ∃ t, exec (.sleep tag []) s = .next t ∧ s.replied t ⟨0x63, tag, []⟩ .ok [] ∧
        t.power = { s.power with sleepPending := true } ∧ t.link.hold = .sleep ∧ t.link.replySent = false ∧
        (∀ i : Slot, t.layer i =
          if (s.layer i).state = .idle then s.layer i else (s.layer i).toIdle i .stopped) ∧
        t.arb.floor = 0 ∧ t.arb.hush = 0 ∧ t.link.flag .hushEnd = s.link.flag .hushEnd ∧ s.poolYields t ∧
        t.amb = { s.amb with windowOpen := false, counter := 0, windowTimer := 0 } ∧
        (∀ c : Chain, (t.port c).state = .off ∧
          ((s.port c).state = .off → t.port c = { s.port c with wakeMark := false, cutAtSleep := false } ∧
            t.comp c = s.comp c) ∧
          ((s.port c).state = .released →
            t.port c = { s.port c with state := .off, wakeMark := false, cutAtSleep := true } ∧
              t.comp c = s.comp c ∧ t.chainLines c = .highImpedance) ∧
          ((s.port c).state = .running → (s.port c).waiting = [] →
            t.comp c = { s.comp c with render := none, buffer := none } ∧
              t.port c = { s.port c with
                state := .off, wakeMark := true, cutAtSleep := false, pendingFrame := none, lastLatched := none
                latchedSince := false
                transfer := match (s.port c).transfer with
                  | none => if s.count c = 0 then none else some (.dark (s.count c) false)
                  | some x => some x.detach
                waiting := if (s.port c).transfer = none ∨ s.count c = 0 then [] else [.dark] }) ∧
          ((s.port c).state = .enumerating → t.comp c = s.comp c ∧
            ((s.port c).waiting = [] →
              ((s.port c).transfer = none ∨ (s.port c).transfer = some .request ∨
                (s.port c).transfer = some .collect) →
              t.port c = { s.port c with
                state := .off, wakeMark := true, cutAtSleep := false, settle := none
                transfer := if s.count c = 0 then none else some (.dark (s.count c) false) }) ∧
            (∀ f o l, (s.port c).waiting = [.identify] → (s.port c).transfer = some (.duty f o l) →
              t.port c = { s.port c with
                state := .off, wakeMark := true, cutAtSleep := false, settle := none
                waiting := if s.count c = 0 then [] else [.dark] }) ∧
            (s.link.notices.length ≤ 2 → Notice.enumeration c (s.count c) .abandoned ∈ t.link.notices) ∧
            ((∀ i : Slot, (s.layer i).state = .idle) → (∀ d : Chain, d ≠ c → (s.port d).state ≠ .enumerating) →
              t.link.notices = (s.link.queue (.enumeration c (s.count c) .abandoned)).notices))) ∧
        t.dir = s.dir ∧ t.library = s.library ∧ t.triggers = s.triggers ∧ t.store = s.store)) ∧
  (∀ s : State, s.power.part = .awake → s.power.sleepPending = true → s.link.hold = .sleep →
    s.link.replySent = true →
    (∀ c : Chain, (s.port c).transfer = none ∧ (s.port c).waiting = []) →
    exec .dormantEntry s = .next { s with
      power := { s.power with part := .dormant, sleepPending := false }
      link := { s.link with receiver := .waitIdle, rxBuffer := [], hold := .none, replySent := false }
      portA := { s.portA with
        foreignActive := false, state := if s.portA.state = .released then .off else s.portA.state }
      portB := { s.portB with
        foreignActive := false, state := if s.portB.state = .released then .off else s.portB.state } }) ∧
  ∀ (c : Instr) (s : State), s.power.part = .dormant →
    c = .wakeByLink ∨ (c = .wakeByEgress ∧ s.arb.egressLine = true) →
    ∃ t, exec c s = .next t ∧ t.power = { s.power with part := .awake } ∧
      (∀ i : Slot, t.layer i = { s.layer i with state := .idle }) ∧ t.arb.floor = 0 ∧ t.arb.hush = 0 ∧
      t.arb.egressLevel = false ∧ t.arb.egressTimer = 10 ∧ t.arb.egressLine = s.arb.egressLine ∧
      t.arb.master = s.arb.master ∧ t.arb.u = s.arb.u ∧ t.arb.policy = s.arb.policy ∧
      t.link = ({ s.link with receiver := .waitIdle, txStopped := false } : Link).startNext ∧
      (∀ d : Chain, t.port d =
        if (s.port d).wakeMark then
          { s.port d with wakeMark := false, state := .running, periodTimer := 1, latchedSince := false }
        else s.port d) ∧
      t.amb = { Ambient.reset with curve := s.amb.curve, measured := s.amb.curve.value 0 } ∧ t.pool = s.pool ∧
      t.library = s.library ∧ t.dir = s.dir ∧ t.triggers = s.triggers ∧ t.store = s.store ∧ t.compA = s.compA ∧
      t.compB = s.compB

end
end

