-- ==== Sys2Proof/Laws/State.lean ====
section
/-! SUPPORT. Laws/State.lean: what each operation on the state leaves as it was, one lemma per field, and what it writes
where it writes. -/

namespace Sys2Proof.Machine

variable (s : State)

/-! ### setLayer -/

@[simp] theorem State.setLayer_pending (i : Slot) (l : Layer) : (s.setLayer i l).pending = s.pending := rfl

@[simp] theorem State.setLayer_power (i : Slot) (l : Layer) : (s.setLayer i l).power = s.power := rfl

@[simp] theorem State.setLayer_pool (i : Slot) (l : Layer) : (s.setLayer i l).pool = s.pool := rfl

@[simp] theorem State.setLayer_library (i : Slot) (l : Layer) : (s.setLayer i l).library = s.library := rfl

@[simp] theorem State.setLayer_compA (i : Slot) (l : Layer) : (s.setLayer i l).compA = s.compA := rfl

@[simp] theorem State.setLayer_compB (i : Slot) (l : Layer) : (s.setLayer i l).compB = s.compB := rfl

@[simp] theorem State.setLayer_dir (i : Slot) (l : Layer) : (s.setLayer i l).dir = s.dir := rfl

@[simp] theorem State.setLayer_portA (i : Slot) (l : Layer) : (s.setLayer i l).portA = s.portA := rfl

@[simp] theorem State.setLayer_portB (i : Slot) (l : Layer) : (s.setLayer i l).portB = s.portB := rfl

@[simp] theorem State.setLayer_amb (i : Slot) (l : Layer) : (s.setLayer i l).amb = s.amb := rfl

@[simp] theorem State.setLayer_triggers (i : Slot) (l : Layer) : (s.setLayer i l).triggers = s.triggers := rfl

@[simp] theorem State.setLayer_link (i : Slot) (l : Layer) : (s.setLayer i l).link = s.link := rfl

@[simp] theorem State.setLayer_store (i : Slot) (l : Layer) : (s.setLayer i l).store = s.store := rfl

@[simp] theorem State.setLayer_openChoices (i : Slot) (l : Layer) : (s.setLayer i l).openChoices = s.openChoices := rfl

/-! ### setPort -/

@[simp] theorem State.setPort_pending (c : Chain) (p : Port) : (s.setPort c p).pending = s.pending := by cases c <;> rfl

@[simp] theorem State.setPort_power (c : Chain) (p : Port) : (s.setPort c p).power = s.power := by cases c <;> rfl

@[simp] theorem State.setPort_arb (c : Chain) (p : Port) : (s.setPort c p).arb = s.arb := by cases c <;> rfl

@[simp] theorem State.setPort_pool (c : Chain) (p : Port) : (s.setPort c p).pool = s.pool := by cases c <;> rfl

@[simp] theorem State.setPort_library (c : Chain) (p : Port) : (s.setPort c p).library = s.library := by cases c <;> rfl

@[simp] theorem State.setPort_compA (c : Chain) (p : Port) : (s.setPort c p).compA = s.compA := by cases c <;> rfl

@[simp] theorem State.setPort_compB (c : Chain) (p : Port) : (s.setPort c p).compB = s.compB := by cases c <;> rfl

@[simp] theorem State.setPort_dir (c : Chain) (p : Port) : (s.setPort c p).dir = s.dir := by cases c <;> rfl

@[simp] theorem State.setPort_amb (c : Chain) (p : Port) : (s.setPort c p).amb = s.amb := by cases c <;> rfl

@[simp] theorem State.setPort_triggers (c : Chain) (p : Port) : (s.setPort c p).triggers = s.triggers := by cases c <;> rfl

@[simp] theorem State.setPort_link (c : Chain) (p : Port) : (s.setPort c p).link = s.link := by cases c <;> rfl

@[simp] theorem State.setPort_store (c : Chain) (p : Port) : (s.setPort c p).store = s.store := by cases c <;> rfl

@[simp] theorem State.setPort_openChoices (c : Chain) (p : Port) : (s.setPort c p).openChoices = s.openChoices := by cases c <;> rfl

/-! ### onPort -/

@[simp] theorem State.onPort_pending (c : Chain) (f : Port → Port) : (s.onPort c f).pending = s.pending := by cases c <;> rfl

@[simp] theorem State.onPort_power (c : Chain) (f : Port → Port) : (s.onPort c f).power = s.power := by cases c <;> rfl

@[simp] theorem State.onPort_arb (c : Chain) (f : Port → Port) : (s.onPort c f).arb = s.arb := by cases c <;> rfl

@[simp] theorem State.onPort_pool (c : Chain) (f : Port → Port) : (s.onPort c f).pool = s.pool := by cases c <;> rfl

@[simp] theorem State.onPort_library (c : Chain) (f : Port → Port) : (s.onPort c f).library = s.library := by cases c <;> rfl

@[simp] theorem State.onPort_compA (c : Chain) (f : Port → Port) : (s.onPort c f).compA = s.compA := by cases c <;> rfl

@[simp] theorem State.onPort_compB (c : Chain) (f : Port → Port) : (s.onPort c f).compB = s.compB := by cases c <;> rfl

@[simp] theorem State.onPort_dir (c : Chain) (f : Port → Port) : (s.onPort c f).dir = s.dir := by cases c <;> rfl

@[simp] theorem State.onPort_amb (c : Chain) (f : Port → Port) : (s.onPort c f).amb = s.amb := by cases c <;> rfl

@[simp] theorem State.onPort_triggers (c : Chain) (f : Port → Port) : (s.onPort c f).triggers = s.triggers := by cases c <;> rfl

@[simp] theorem State.onPort_link (c : Chain) (f : Port → Port) : (s.onPort c f).link = s.link := by cases c <;> rfl

@[simp] theorem State.onPort_store (c : Chain) (f : Port → Port) : (s.onPort c f).store = s.store := by cases c <;> rfl

@[simp] theorem State.onPort_openChoices (c : Chain) (f : Port → Port) : (s.onPort c f).openChoices = s.openChoices := by cases c <;> rfl

/-! ### setComp -/

@[simp] theorem State.setComp_pending (c : Chain) (k : Comp) : (s.setComp c k).pending = s.pending := by cases c <;> rfl

@[simp] theorem State.setComp_power (c : Chain) (k : Comp) : (s.setComp c k).power = s.power := by cases c <;> rfl

@[simp] theorem State.setComp_arb (c : Chain) (k : Comp) : (s.setComp c k).arb = s.arb := by cases c <;> rfl

@[simp] theorem State.setComp_pool (c : Chain) (k : Comp) : (s.setComp c k).pool = s.pool := by cases c <;> rfl

@[simp] theorem State.setComp_library (c : Chain) (k : Comp) : (s.setComp c k).library = s.library := by cases c <;> rfl

@[simp] theorem State.setComp_dir (c : Chain) (k : Comp) : (s.setComp c k).dir = s.dir := by cases c <;> rfl

@[simp] theorem State.setComp_portA (c : Chain) (k : Comp) : (s.setComp c k).portA = s.portA := by cases c <;> rfl

@[simp] theorem State.setComp_portB (c : Chain) (k : Comp) : (s.setComp c k).portB = s.portB := by cases c <;> rfl

@[simp] theorem State.setComp_amb (c : Chain) (k : Comp) : (s.setComp c k).amb = s.amb := by cases c <;> rfl

@[simp] theorem State.setComp_triggers (c : Chain) (k : Comp) : (s.setComp c k).triggers = s.triggers := by cases c <;> rfl

@[simp] theorem State.setComp_link (c : Chain) (k : Comp) : (s.setComp c k).link = s.link := by cases c <;> rfl

@[simp] theorem State.setComp_store (c : Chain) (k : Comp) : (s.setComp c k).store = s.store := by cases c <;> rfl

@[simp] theorem State.setComp_openChoices (c : Chain) (k : Comp) : (s.setComp c k).openChoices = s.openChoices := by cases c <;> rfl

/-! ### raise -/

@[simp] theorem State.raise_pending (f : Flag) : (s.raise f).pending = s.pending := rfl

@[simp] theorem State.raise_power (f : Flag) : (s.raise f).power = s.power := rfl

@[simp] theorem State.raise_arb (f : Flag) : (s.raise f).arb = s.arb := rfl

@[simp] theorem State.raise_pool (f : Flag) : (s.raise f).pool = s.pool := rfl

@[simp] theorem State.raise_library (f : Flag) : (s.raise f).library = s.library := rfl

@[simp] theorem State.raise_compA (f : Flag) : (s.raise f).compA = s.compA := rfl

@[simp] theorem State.raise_compB (f : Flag) : (s.raise f).compB = s.compB := rfl

@[simp] theorem State.raise_dir (f : Flag) : (s.raise f).dir = s.dir := rfl

@[simp] theorem State.raise_portA (f : Flag) : (s.raise f).portA = s.portA := rfl

@[simp] theorem State.raise_portB (f : Flag) : (s.raise f).portB = s.portB := rfl

@[simp] theorem State.raise_amb (f : Flag) : (s.raise f).amb = s.amb := rfl

@[simp] theorem State.raise_triggers (f : Flag) : (s.raise f).triggers = s.triggers := rfl

@[simp] theorem State.raise_store (f : Flag) : (s.raise f).store = s.store := rfl

@[simp] theorem State.raise_openChoices (f : Flag) : (s.raise f).openChoices = s.openChoices := rfl

/-! ### raiseIf -/

@[simp] theorem State.raiseIf_pending (b : Bool) (f : Flag) : (s.raiseIf b f).pending = s.pending := rfl

@[simp] theorem State.raiseIf_power (b : Bool) (f : Flag) : (s.raiseIf b f).power = s.power := rfl

@[simp] theorem State.raiseIf_arb (b : Bool) (f : Flag) : (s.raiseIf b f).arb = s.arb := rfl

@[simp] theorem State.raiseIf_pool (b : Bool) (f : Flag) : (s.raiseIf b f).pool = s.pool := rfl

@[simp] theorem State.raiseIf_library (b : Bool) (f : Flag) : (s.raiseIf b f).library = s.library := rfl

@[simp] theorem State.raiseIf_compA (b : Bool) (f : Flag) : (s.raiseIf b f).compA = s.compA := rfl

@[simp] theorem State.raiseIf_compB (b : Bool) (f : Flag) : (s.raiseIf b f).compB = s.compB := rfl

@[simp] theorem State.raiseIf_dir (b : Bool) (f : Flag) : (s.raiseIf b f).dir = s.dir := rfl

@[simp] theorem State.raiseIf_portA (b : Bool) (f : Flag) : (s.raiseIf b f).portA = s.portA := rfl

@[simp] theorem State.raiseIf_portB (b : Bool) (f : Flag) : (s.raiseIf b f).portB = s.portB := rfl

@[simp] theorem State.raiseIf_amb (b : Bool) (f : Flag) : (s.raiseIf b f).amb = s.amb := rfl

@[simp] theorem State.raiseIf_triggers (b : Bool) (f : Flag) : (s.raiseIf b f).triggers = s.triggers := rfl

@[simp] theorem State.raiseIf_store (b : Bool) (f : Flag) : (s.raiseIf b f).store = s.store := rfl

@[simp] theorem State.raiseIf_openChoices (b : Bool) (f : Flag) : (s.raiseIf b f).openChoices = s.openChoices := rfl

/-! ### queueAll -/

@[simp] theorem State.queueAll_pending (ns : List Notice) : (s.queueAll ns).pending = s.pending := rfl

@[simp] theorem State.queueAll_power (ns : List Notice) : (s.queueAll ns).power = s.power := rfl

@[simp] theorem State.queueAll_arb (ns : List Notice) : (s.queueAll ns).arb = s.arb := rfl

@[simp] theorem State.queueAll_pool (ns : List Notice) : (s.queueAll ns).pool = s.pool := rfl

@[simp] theorem State.queueAll_library (ns : List Notice) : (s.queueAll ns).library = s.library := rfl

@[simp] theorem State.queueAll_compA (ns : List Notice) : (s.queueAll ns).compA = s.compA := rfl

@[simp] theorem State.queueAll_compB (ns : List Notice) : (s.queueAll ns).compB = s.compB := rfl

@[simp] theorem State.queueAll_dir (ns : List Notice) : (s.queueAll ns).dir = s.dir := rfl

@[simp] theorem State.queueAll_portA (ns : List Notice) : (s.queueAll ns).portA = s.portA := rfl

@[simp] theorem State.queueAll_portB (ns : List Notice) : (s.queueAll ns).portB = s.portB := rfl

@[simp] theorem State.queueAll_amb (ns : List Notice) : (s.queueAll ns).amb = s.amb := rfl

@[simp] theorem State.queueAll_triggers (ns : List Notice) : (s.queueAll ns).triggers = s.triggers := rfl

@[simp] theorem State.queueAll_store (ns : List Notice) : (s.queueAll ns).store = s.store := rfl

@[simp] theorem State.queueAll_openChoices (ns : List Notice) : (s.queueAll ns).openChoices = s.openChoices := rfl

/-! ### queueOpen -/

@[simp] theorem State.queueOpen_pending (ns : List Notice) : (s.queueOpen ns).pending = s.pending := by
  unfold State.queueOpen; split <;> rfl

@[simp] theorem State.queueOpen_power (ns : List Notice) : (s.queueOpen ns).power = s.power := by
  unfold State.queueOpen; split <;> rfl

@[simp] theorem State.queueOpen_arb (ns : List Notice) : (s.queueOpen ns).arb = s.arb := by
  unfold State.queueOpen; split <;> rfl

@[simp] theorem State.queueOpen_pool (ns : List Notice) : (s.queueOpen ns).pool = s.pool := by
  unfold State.queueOpen; split <;> rfl

@[simp] theorem State.queueOpen_library (ns : List Notice) : (s.queueOpen ns).library = s.library := by
  unfold State.queueOpen; split <;> rfl

@[simp] theorem State.queueOpen_compA (ns : List Notice) : (s.queueOpen ns).compA = s.compA := by
  unfold State.queueOpen; split <;> rfl

@[simp] theorem State.queueOpen_compB (ns : List Notice) : (s.queueOpen ns).compB = s.compB := by
  unfold State.queueOpen; split <;> rfl

@[simp] theorem State.queueOpen_dir (ns : List Notice) : (s.queueOpen ns).dir = s.dir := by
  unfold State.queueOpen; split <;> rfl

@[simp] theorem State.queueOpen_portA (ns : List Notice) : (s.queueOpen ns).portA = s.portA := by
  unfold State.queueOpen; split <;> rfl

@[simp] theorem State.queueOpen_portB (ns : List Notice) : (s.queueOpen ns).portB = s.portB := by
  unfold State.queueOpen; split <;> rfl

@[simp] theorem State.queueOpen_amb (ns : List Notice) : (s.queueOpen ns).amb = s.amb := by
  unfold State.queueOpen; split <;> rfl

@[simp] theorem State.queueOpen_triggers (ns : List Notice) : (s.queueOpen ns).triggers = s.triggers := by
  unfold State.queueOpen; split <;> rfl

@[simp] theorem State.queueOpen_store (ns : List Notice) : (s.queueOpen ns).store = s.store := by
  unfold State.queueOpen; split <;> rfl

/-! ### settle -/

@[simp] theorem State.settle_pending : (s.settle).pending = s.pending := rfl

@[simp] theorem State.settle_power : (s.settle).power = s.power := rfl

@[simp] theorem State.settle_arb : (s.settle).arb = s.arb := rfl

@[simp] theorem State.settle_pool : (s.settle).pool = s.pool := rfl

@[simp] theorem State.settle_library : (s.settle).library = s.library := rfl

@[simp] theorem State.settle_compA : (s.settle).compA = s.compA := rfl

@[simp] theorem State.settle_compB : (s.settle).compB = s.compB := rfl

@[simp] theorem State.settle_dir : (s.settle).dir = s.dir := rfl

@[simp] theorem State.settle_portA : (s.settle).portA = s.portA := rfl

@[simp] theorem State.settle_portB : (s.settle).portB = s.portB := rfl

@[simp] theorem State.settle_amb : (s.settle).amb = s.amb := rfl

@[simp] theorem State.settle_triggers : (s.settle).triggers = s.triggers := rfl

@[simp] theorem State.settle_store : (s.settle).store = s.store := rfl

@[simp] theorem State.settle_openChoices : (s.settle).openChoices = s.openChoices := rfl

/-! ### takeFrame -/

@[simp] theorem State.takeFrame_pending : (s.takeFrame).pending = s.pending := rfl

@[simp] theorem State.takeFrame_power : (s.takeFrame).power = s.power := rfl

@[simp] theorem State.takeFrame_arb : (s.takeFrame).arb = s.arb := rfl

@[simp] theorem State.takeFrame_pool : (s.takeFrame).pool = s.pool := rfl

@[simp] theorem State.takeFrame_library : (s.takeFrame).library = s.library := rfl

@[simp] theorem State.takeFrame_compA : (s.takeFrame).compA = s.compA := rfl

@[simp] theorem State.takeFrame_compB : (s.takeFrame).compB = s.compB := rfl

@[simp] theorem State.takeFrame_dir : (s.takeFrame).dir = s.dir := rfl

@[simp] theorem State.takeFrame_portA : (s.takeFrame).portA = s.portA := rfl

@[simp] theorem State.takeFrame_portB : (s.takeFrame).portB = s.portB := rfl

@[simp] theorem State.takeFrame_amb : (s.takeFrame).amb = s.amb := rfl

@[simp] theorem State.takeFrame_triggers : (s.takeFrame).triggers = s.triggers := rfl

@[simp] theorem State.takeFrame_store : (s.takeFrame).store = s.store := rfl

@[simp] theorem State.takeFrame_openChoices : (s.takeFrame).openChoices = s.openChoices := rfl

/-! ### reply -/

@[simp] theorem State.reply_pending (f : LinkFrame) (k : Status) (d : List Byte) : (s.reply f k d).pending = s.pending := rfl

@[simp] theorem State.reply_power (f : LinkFrame) (k : Status) (d : List Byte) : (s.reply f k d).power = s.power := rfl

@[simp] theorem State.reply_arb (f : LinkFrame) (k : Status) (d : List Byte) : (s.reply f k d).arb = s.arb := rfl

@[simp] theorem State.reply_pool (f : LinkFrame) (k : Status) (d : List Byte) : (s.reply f k d).pool = s.pool := rfl

@[simp] theorem State.reply_library (f : LinkFrame) (k : Status) (d : List Byte) : (s.reply f k d).library = s.library := rfl

@[simp] theorem State.reply_compA (f : LinkFrame) (k : Status) (d : List Byte) : (s.reply f k d).compA = s.compA := rfl

@[simp] theorem State.reply_compB (f : LinkFrame) (k : Status) (d : List Byte) : (s.reply f k d).compB = s.compB := rfl

@[simp] theorem State.reply_dir (f : LinkFrame) (k : Status) (d : List Byte) : (s.reply f k d).dir = s.dir := rfl

@[simp] theorem State.reply_portA (f : LinkFrame) (k : Status) (d : List Byte) : (s.reply f k d).portA = s.portA := rfl

@[simp] theorem State.reply_portB (f : LinkFrame) (k : Status) (d : List Byte) : (s.reply f k d).portB = s.portB := rfl

@[simp] theorem State.reply_amb (f : LinkFrame) (k : Status) (d : List Byte) : (s.reply f k d).amb = s.amb := rfl

@[simp] theorem State.reply_triggers (f : LinkFrame) (k : Status) (d : List Byte) : (s.reply f k d).triggers = s.triggers := rfl

@[simp] theorem State.reply_store (f : LinkFrame) (k : Status) (d : List Byte) : (s.reply f k d).store = s.store := rfl

@[simp] theorem State.reply_openChoices (f : LinkFrame) (k : Status) (d : List Byte) : (s.reply f k d).openChoices = s.openChoices := rfl

/-! ### holdFor -/

@[simp] theorem State.holdFor_pending (h : Hold) : (s.holdFor h).pending = s.pending := rfl

@[simp] theorem State.holdFor_power (h : Hold) : (s.holdFor h).power = s.power := rfl

@[simp] theorem State.holdFor_arb (h : Hold) : (s.holdFor h).arb = s.arb := rfl

@[simp] theorem State.holdFor_pool (h : Hold) : (s.holdFor h).pool = s.pool := rfl

@[simp] theorem State.holdFor_library (h : Hold) : (s.holdFor h).library = s.library := rfl

@[simp] theorem State.holdFor_compA (h : Hold) : (s.holdFor h).compA = s.compA := rfl

@[simp] theorem State.holdFor_compB (h : Hold) : (s.holdFor h).compB = s.compB := rfl

@[simp] theorem State.holdFor_dir (h : Hold) : (s.holdFor h).dir = s.dir := rfl

@[simp] theorem State.holdFor_portA (h : Hold) : (s.holdFor h).portA = s.portA := rfl

@[simp] theorem State.holdFor_portB (h : Hold) : (s.holdFor h).portB = s.portB := rfl

@[simp] theorem State.holdFor_amb (h : Hold) : (s.holdFor h).amb = s.amb := rfl

@[simp] theorem State.holdFor_triggers (h : Hold) : (s.holdFor h).triggers = s.triggers := rfl

@[simp] theorem State.holdFor_store (h : Hold) : (s.holdFor h).store = s.store := rfl

@[simp] theorem State.holdFor_openChoices (h : Hold) : (s.holdFor h).openChoices = s.openChoices := rfl

/-! ### endLayers -/

@[simp] theorem State.endLayers_pending (p : Slot → Layer → Bool) (r : EndReason) : (s.endLayers p r).1.pending = s.pending := rfl

@[simp] theorem State.endLayers_power (p : Slot → Layer → Bool) (r : EndReason) : (s.endLayers p r).1.power = s.power := rfl

@[simp] theorem State.endLayers_library (p : Slot → Layer → Bool) (r : EndReason) : (s.endLayers p r).1.library = s.library := rfl

@[simp] theorem State.endLayers_compA (p : Slot → Layer → Bool) (r : EndReason) : (s.endLayers p r).1.compA = s.compA := rfl

@[simp] theorem State.endLayers_compB (p : Slot → Layer → Bool) (r : EndReason) : (s.endLayers p r).1.compB = s.compB := rfl

@[simp] theorem State.endLayers_dir (p : Slot → Layer → Bool) (r : EndReason) : (s.endLayers p r).1.dir = s.dir := rfl

@[simp] theorem State.endLayers_portA (p : Slot → Layer → Bool) (r : EndReason) : (s.endLayers p r).1.portA = s.portA := rfl

@[simp] theorem State.endLayers_portB (p : Slot → Layer → Bool) (r : EndReason) : (s.endLayers p r).1.portB = s.portB := rfl

@[simp] theorem State.endLayers_amb (p : Slot → Layer → Bool) (r : EndReason) : (s.endLayers p r).1.amb = s.amb := rfl

@[simp] theorem State.endLayers_triggers (p : Slot → Layer → Bool) (r : EndReason) : (s.endLayers p r).1.triggers = s.triggers := rfl

@[simp] theorem State.endLayers_link (p : Slot → Layer → Bool) (r : EndReason) : (s.endLayers p r).1.link = s.link := rfl

@[simp] theorem State.endLayers_store (p : Slot → Layer → Bool) (r : EndReason) : (s.endLayers p r).1.store = s.store := rfl

@[simp] theorem State.endLayers_openChoices (p : Slot → Layer → Bool) (r : EndReason) : (s.endLayers p r).1.openChoices = s.openChoices := rfl

/-! ### What the writes write -/

@[simp] theorem State.setLayer_layer_same (i : Slot) (l : Layer) : (s.setLayer i l).layer i = l := by
  simp [State.layer, State.setLayer]

theorem State.setLayer_layer_other {i j : Slot} (l : Layer) (h : i ≠ j) : (s.setLayer i l).layer j = s.layer j := by
  have : i.val ≠ j.val := fun e => h (Fin.ext e)
  simp [State.layer, State.setLayer, Vector.getElem_set_ne, this]

@[simp] theorem State.setLayer_floor (i : Slot) (l : Layer) : (s.setLayer i l).arb.floor = s.arb.floor := rfl

@[simp] theorem State.setLayer_policy (i : Slot) (l : Layer) : (s.setLayer i l).arb.policy = s.arb.policy := rfl

@[simp] theorem State.setPort_port_same (c : Chain) (p : Port) : (s.setPort c p).port c = p := by cases c <;> rfl

@[simp] theorem State.setComp_comp_same (c : Chain) (k : Comp) : (s.setComp c k).comp c = k := by cases c <;> rfl

@[simp] theorem State.setPort_comp (c d : Chain) (p : Port) : (s.setPort c p).comp d = s.comp d := by
  cases c <;> cases d <;> rfl

@[simp] theorem State.setComp_port (c d : Chain) (k : Comp) : (s.setComp c k).port d = s.port d := by
  cases c <;> cases d <;> rfl

@[simp] theorem State.onPort_port_same (c : Chain) (f : Port → Port) : (s.onPort c f).port c = f (s.port c) := by
  cases c <;> rfl

@[simp] theorem State.onPort_comp (c d : Chain) (f : Port → Port) : (s.onPort c f).comp d = s.comp d := by
  cases c <;> cases d <;> rfl

/-- A write to one chain's port leaves the other chain's port. -/
theorem State.setPort_port_other {c d : Chain} (p : Port) (h : c ≠ d) : (s.setPort c p).port d = s.port d := by
  cases c <;> cases d <;> first | rfl | exact absurd rfl h

/-- A write to one chain's Compositor state leaves the other chain's. -/
theorem State.setComp_comp_other {c d : Chain} (k : Comp) (h : c ≠ d) : (s.setComp c k).comp d = s.comp d := by
  cases c <;> cases d <;> first | rfl | exact absurd rfl h

end Sys2Proof.Machine
end

