-- ==== Sys2Proof/Laws/Ops.lean ====
section
/-! SUPPORT. Laws/Ops.lean: once for each shared operation, everything it can do: flags, notices, the transmitter, the
dispatch of requests, immediate ends and the floor, the characters on the link, and the wake mark. -/

namespace Sys2Proof.Machine

/-! ### Flags and notices -/

/-- A raised flag is SET or REPORTED. -/
theorem FlagState.raise_ne_clear (f : FlagState) : f.raise ≠ .clear := by cases f <;> decide

/-- Raising keeps what is not CLEAR (R185). -/
theorem FlagState.raise_of_ne_clear {f : FlagState} (h : f ≠ .clear) : f.raise = f := by
  cases f <;> first | rfl | exact absurd rfl h

@[simp] theorem Link.raise_notices (l : Link) (f : Flag) : (l.raise f).notices = l.notices := rfl
@[simp] theorem Link.raise_replies (l : Link) (f : Flag) : (l.raise f).replies = l.replies := rfl
@[simp] theorem Link.raise_tx (l : Link) (f : Flag) : (l.raise f).tx = l.tx := rfl
@[simp] theorem Link.raise_rxBuffer (l : Link) (f : Flag) : (l.raise f).rxBuffer = l.rxBuffer := rfl
@[simp] theorem Link.raise_unsent (l : Link) (f : Flag) : (l.raise f).unsent = l.unsent := rfl

/-- A raised flag is not CLEAR. -/
theorem Link.raise_flag_same (l : Link) (f : Flag) : (l.raise f).flag f = (l.flag f).raise := by
  simp [Link.flag, Link.raise]

/-- Raising one flag leaves every other. -/
theorem Link.raise_flag_other (l : Link) {f g : Flag} (h : f ≠ g) : (l.raise f).flag g = l.flag g := by
  have : (f.bit : Nat) ≠ g.bit := by cases f <;> cases g <;> first | exact absurd rfl h | decide
  simp [Link.flag, Link.raise, this]

/-- A notice is queued behind the others, or lost with NOTICE_LOST when 16 are held (R184). -/
theorem Link.queue_cases (l : Link) (n : Notice) :
    (l.notices.length < Config.maxNotices ∧ l.queue n = { l with notices := l.notices ++ [n] }) ∨
      (Config.maxNotices ≤ l.notices.length ∧ l.queue n = l.raise .noticeLost) := by
  unfold Link.queue
  split
  · exact .inl ⟨‹_›, rfl⟩
  · exact .inr ⟨by omega, rfl⟩

/-- The queue never comes to hold more than 16 notices (R184). -/
theorem Link.queue_length (l : Link) (n : Notice) (h : l.notices.length ≤ Config.maxNotices) :
    (l.queue n).notices.length ≤ Config.maxNotices := by
  rcases l.queue_cases n with ⟨hl, e⟩ | ⟨-, e⟩ <;> rw [e]
  · simpa using hl
  · exact h

theorem Link.queueAll_length (l : Link) (ns : List Notice) (h : l.notices.length ≤ Config.maxNotices) :
    (l.queueAll ns).notices.length ≤ Config.maxNotices := by
  induction ns generalizing l with
  | nil => exact h
  | cons n ns ih => exact ih _ (l.queue_length n h)

@[simp] theorem Link.queue_unsent (l : Link) (n : Notice) : (l.queue n).unsent = l.unsent := by
  rcases l.queue_cases n with ⟨-, e⟩ | ⟨-, e⟩ <;> (rw [e]; rfl)

@[simp] theorem Link.queueAll_unsent (l : Link) (ns : List Notice) : (l.queueAll ns).unsent = l.unsent := by
  induction ns generalizing l with
  | nil => rfl
  | cons n ns ih => exact (ih _).trans (l.queue_unsent n)

@[simp] theorem Link.queue_rxBuffer (l : Link) (n : Notice) : (l.queue n).rxBuffer = l.rxBuffer := by
  rcases l.queue_cases n with ⟨-, e⟩ | ⟨-, e⟩ <;> simp [e]

@[simp] theorem Link.queueAll_rxBuffer (l : Link) (ns : List Notice) : (l.queueAll ns).rxBuffer = l.rxBuffer := by
  induction ns generalizing l with
  | nil => rfl
  | cons n ns ih => exact (ih _).trans (l.queue_rxBuffer n)

/-! ### The transmitter (R183) -/

/-- What the choice of the next frame can do: nothing, the oldest reply, the oldest notice, or an EVENT REPORT. -/
theorem Link.startNext_cases (l : Link) :
    l.startNext = l ∨
      (l.tx = none ∧ ∃ r rs, l.replies = r :: rs ∧ l.startNext = { l with tx := some ⟨true, r⟩, replies := rs }) ∨
      (l.tx = none ∧ l.replies = [] ∧ ∃ n ns, l.notices = n :: ns ∧
        l.startNext = { l with tx := some ⟨false, n.frame⟩, notices := ns }) ∨
      (l.tx = none ∧ l.replies = [] ∧ l.notices = [] ∧ l.newSet ≠ 0 ∧
        l.startNext = { l.reportFlags with tx := some ⟨false, l.eventReport⟩ }) := by
  unfold Link.startNext
  split
  · exact .inl rfl
  · rename_i h
    have htx : l.tx = none := by cases e : l.tx <;> simp_all
    cases hr : l.replies with
    | cons r rs => exact .inr (.inl ⟨htx, r, rs, rfl, rfl⟩)
    | nil =>
      cases hn : l.notices with
      | cons n ns => exact .inr (.inr (.inl ⟨htx, rfl, n, ns, rfl, rfl⟩))
      | nil =>
        dsimp only
        split
        · exact .inl rfl
        · exact .inr (.inr (.inr ⟨htx, rfl, rfl, ‹_›, rfl⟩))

/-- The choice leaves the number of unsent replies. -/
@[simp] theorem Link.startNext_unsent (l : Link) : l.startNext.unsent = l.unsent := by
  rcases l.startNext_cases with e | ⟨h, r, rs, hr, e⟩ | ⟨h, hr, n, ns, hn, e⟩ | ⟨h, hr, hn, -, e⟩ <;> rw [e]
  · simp [Link.unsent, h, hr]
  · simp [Link.unsent, h]
  · simp [Link.unsent, h, Link.reportFlags]

/-- The choice never lengthens the notice queue. -/
theorem Link.startNext_notices (l : Link) : l.startNext.notices.length ≤ l.notices.length := by
  rcases l.startNext_cases with e | ⟨-, r, rs, -, e⟩ | ⟨-, -, n, ns, hn, e⟩ | ⟨-, -, -, -, e⟩ <;> rw [e]
  · simp [hn]
  · exact Nat.le_refl _

@[simp] theorem Link.startNext_rxBuffer (l : Link) : l.startNext.rxBuffer = l.rxBuffer := by
  rcases l.startNext_cases with e | ⟨-, r, rs, -, e⟩ | ⟨-, -, n, ns, -, e⟩ | ⟨-, -, -, -, e⟩ <;>
    simp [e, Link.reportFlags]

/-! ### Dispatch (R180, R181) -/

/-- What a request's dispatch can do: nothing, where it is not taken; else the answer of the link checks and the
owner. -/
theorem State.serve_cases (s : State) (f : LinkFrame) (mine : Bool) (owner : State → Answer) :
    s.serve f mine owner = s ∨
      (mine = true ∧ s.atDispatch f = true ∧
        s.serve f mine owner =
          ((linkChecked f owner s.takeFrame).state.reply f (linkChecked f owner s.takeFrame).status
            (linkChecked f owner s.takeFrame).data).settle) := by
  unfold State.serve
  split
  · rename_i h
    simp only [Bool.and_eq_true] at h
    exact .inr ⟨h.1, h.2, rfl⟩
  · exact .inl rfl

/-- The link checks answer LENGTH or BUSY without effect, or let the owner answer. -/
theorem linkChecked_cases (f : LinkFrame) (owner : State → Answer) (s : State) :
    (linkChecked f owner s = .plain s .length ∧ lengthAllowed f.kind f.payload.length = false) ∨
      (linkChecked f owner s = .plain s .busy ∧ s.power.part = .starting ∧ servedInStarting f.kind = false) ∨
      (linkChecked f owner s = owner s ∧ lengthAllowed f.kind f.payload.length = true ∧
        (s.power.part = .starting → servedInStarting f.kind = true)) := by
  unfold linkChecked
  split
  · exact .inl ⟨rfl, ‹_›⟩
  · split
    · rename_i h
      simp only [Bool.and_eq_true, decide_eq_true_eq, Bool.not_eq_true'] at h
      exact .inr (.inl ⟨rfl, h⟩)
    · rename_i hl h
      refine .inr (.inr ⟨rfl, by simpa using hl, fun hs => ?_⟩)
      simpa [hs] using h

/-- A request dispatched in AWAKE with a length its kind allows is answered by its owner. -/
theorem State.serve_ready {s : State} {f : LinkFrame} {mine : Bool} {owner : State → Answer}
    (h : s.ready f = true) (hm : mine = true) (hl : lengthAllowed f.kind f.payload.length = true) :
    s.serve f mine owner =
      ((owner s.takeFrame).state.reply f (owner s.takeFrame).status (owner s.takeFrame).data).settle := by
  simp only [State.ready, State.awake, Bool.and_eq_true, decide_eq_true_eq] at h
  simp [State.serve, linkChecked, hm, h.1, h.2, hl]

/-- A ready request whose owner answers `status` and `data` over `effect` leaves the answered state. -/
theorem State.serve_answered {s : State} {f : LinkFrame} {mine : Bool} {owner : State → Answer} {status : Status}
    {data : List Byte} {effect : State → State} (h : s.ready f = true) (hm : mine = true)
    (hl : lengthAllowed f.kind f.payload.length = true)
    (ho : owner s.takeFrame = ⟨effect s.takeFrame, status, data⟩) :
    s.serve f mine owner = s.answered f status data effect := by
  rw [State.serve_ready h hm hl, ho]
  rfl

/-! ### Ends and the floor (R4 to R8) -/

/-- An ended layer is IDLE with the given reason; every other is unchanged (R4). -/
theorem State.endLayers_layer (s : State) (p : Slot → Layer → Bool) (r : EndReason) (i : Slot) :
    (s.endLayers p r).1.layer i = if p i (s.layer i) then (s.layer i).toIdle i r else s.layer i := by
  simp only [State.endLayers, State.layer, Fin.getElem_fin, Vector.getElem_ofFn]
  rfl

/-- A floor evaluation writes the layers' states, the floor, and, under CANCEL, what ends write; nothing else. -/
theorem State.evalFloor_frame (s : State) :
    s.evalFloor.pending = s.pending ∧ s.evalFloor.power = s.power ∧ s.evalFloor.library = s.library ∧
      s.evalFloor.compA = s.compA ∧ s.evalFloor.compB = s.compB ∧ s.evalFloor.dir = s.dir ∧
      s.evalFloor.portA = s.portA ∧ s.evalFloor.portB = s.portB ∧ s.evalFloor.amb = s.amb ∧
      s.evalFloor.triggers = s.triggers ∧ s.evalFloor.store = s.store := by
  unfold State.evalFloor
  split <;> simp

/-- The Arbiter's own items stay through a floor evaluation. -/
theorem State.evalFloor_arb (s : State) :
    s.evalFloor.arb.policy = s.arb.policy ∧ s.evalFloor.arb.master = s.arb.master ∧ s.evalFloor.arb.u = s.arb.u ∧
      s.evalFloor.arb.hush = s.arb.hush ∧ s.evalFloor.arb.egressLine = s.arb.egressLine ∧
      s.evalFloor.arb.egressLevel = s.arb.egressLevel ∧ s.evalFloor.arb.egressTimer = s.arb.egressTimer := by
  unfold State.evalFloor
  split <;> simp [State.endLayers]

/-- Under RESUME a floor evaluation changes a layer's state alone (R7). -/
theorem State.evalFloor_layer_resume (s : State) (h : s.arb.policy = .resume) (i : Slot) :
    s.evalFloor.layer i = { s.layer i with state := (s.evalFloor.layer i).state } := by
  simp only [State.evalFloor, h, State.layer, Fin.getElem_fin, Vector.getElem_ofFn]
  split_ifs <;> rfl

/-- Under CANCEL a floor evaluation cuts a layer or leaves it (R8). -/
theorem State.evalFloor_layer_cancel (s : State) (h : s.arb.policy = .cancel) (i : Slot) :
    s.evalFloor.layer i = s.layer i ∨ s.evalFloor.layer i = (s.layer i).toIdle i .cut := by
  simp only [State.evalFloor, h, State.queueOpen_arb, State.layer]
  have := s.endLayers_layer
    (fun i l => isScene i && l.state.playing && decide (l.level < highestLevel s.arb.layers fun _ l => l.state.playing))
    .cut i
  simp only [State.layer] at this
  rw [this]
  by_cases cut : (isScene i && (s.arb.layers[i]).state.playing &&
      decide ((s.arb.layers[i]).level < highestLevel s.arb.layers fun _ l => l.state.playing)) = true
  · exact .inr (if_pos cut)
  · exact .inl (if_neg cut)

/-- A floor evaluation changes no level. -/
theorem State.evalFloor_level (s : State) (i : Slot) : (s.evalFloor.layer i).level = (s.layer i).level := by
  cases h : s.arb.policy with
  | resume => rw [s.evalFloor_layer_resume h i]
  | cancel =>
    rcases s.evalFloor_layer_cancel h i with e | e <;> rw [e]
    rfl

/-! ### Characters on the link (R173) -/

set_option maxRecDepth 20000 in
/-- The ten bits of a character give its byte back (R173). -/
theorem characterByte_bits (b : Byte) : characterByte (characterBits b) = some b := by
  have h : ∀ b : Fin 256, characterByte (characterBits (BitVec.ofFin b)) = some (BitVec.ofFin b) := by decide
  exact h b.toFin

/-- A character with a good stop bit is taken as its byte (R173). -/
@[simp] theorem Link.takeCharacter_bits (l : Link) (b : Byte) :
    l.takeCharacter (characterBits b) = l.takeByte b := by
  simp [Link.takeCharacter, characterByte_bits]

/-- Characters with good stop bits are taken as their bytes, one by one (R173). -/
theorem Link.foldl_takeCharacter (l : Link) (bytes : List Byte) :
    bytes.foldl (fun l b => l.takeCharacter (characterBits b)) l = bytes.foldl Link.takeByte l := by
  simp

/-! ### The wake mark (R207) -/

/-- After a cancelled sleep a port either keeps its record, or loses its wake mark and, from OFF, enters RUNNING. -/
theorem Port.resumeIf_cases (p : Port) (sleepPending : Bool) :
    (p.resumeIf sleepPending = p ∧ (p.wakeMark = false ∨ sleepPending = true ∨ p.darkDone = false)) ∨
      (p.wakeMark = true ∧ sleepPending = false ∧ p.darkDone = true ∧
        p.resumeIf sleepPending =
          if p.state = .off then
            { p with wakeMark := false, state := .running, periodTimer := 1, latchedSince := false }
          else { p with wakeMark := false }) := by
  unfold Port.resumeIf
  split
  · rename_i h
    simp only [Bool.and_eq_true, Bool.not_eq_true'] at h
    exact .inr ⟨h.1.1, h.1.2, h.2, rfl⟩
  · rename_i h
    refine .inl ⟨rfl, ?_⟩
    cases hw : p.wakeMark <;> cases sleepPending <;> simp_all

end Sys2Proof.Machine
end

