-- ==== Sys2Proof/Laws/Pool.lean ====
section
/-! SUPPORT. Laws/Pool.lean: the cue pool as a memory: a read after a write, and the canonical form that every
operation keeps. -/

namespace Sys2Proof.Machine

/-- What the canonical form says of a first entry and of the rest. -/
theorem Pool.wf_cons {i : Nat} {c : Cue} {rest : Pool} :
    Pool.wf ((i, c) :: rest) = true ↔ c ≠ Cue.empty ∧ (∀ e ∈ rest, i < e.1) ∧ Pool.wf rest = true := by
  simp [Pool.wf, and_assoc]

/-- An index below every listed index reads as the empty record. -/
theorem Pool.read_below {p : Pool} {i : Nat} (h : ∀ e ∈ p, i < e.1) : p.read i = Cue.empty := by
  induction p with
  | nil => rfl
  | cons e rest ih =>
    have : e.1 ≠ i := Nat.ne_of_gt (h e (by simp))
    simp only [Pool.read, this, if_false]
    exact ih fun d hd => h d (by simp [hd])

/-- The indices a write lists are old ones and the written one. -/
theorem Pool.mem_write {p : Pool} {i : Nat} {c : Cue} {e : Nat × Cue} (h : e ∈ p.write i c) : e.1 = i ∨ e ∈ p := by
  induction p with
  | nil =>
    simp only [Pool.write] at h
    split at h <;> simp_all
  | cons d rest ih =>
    simp only [Pool.write] at h
    split_ifs at h <;> simp only [List.mem_cons] at h ⊢
    · exact .inr h
    · rcases h with rfl | h
      · exact .inl rfl
      · exact .inr h
    · exact .inr (.inr h)
    · rcases h with rfl | h
      · exact .inl rfl
      · exact .inr (.inr h)
    · rcases h with h | h
      · exact .inr (.inl h)
      · rcases ih h with h | h
        · exact .inl h
        · exact .inr (.inr h)

/-- A write keeps the canonical form. -/
theorem Pool.write_wf {p : Pool} (i : Nat) (c : Cue) (h : p.wf = true) : (p.write i c).wf = true := by
  induction p with
  | nil =>
    simp only [Pool.write]
    split <;> simp_all [Pool.wf]
  | cons e rest ih =>
    obtain ⟨j, d⟩ := e
    obtain ⟨hd, hlt, hrest⟩ := Pool.wf_cons.mp h
    simp only [Pool.write]
    split_ifs with hij hc heq hc
    · exact h
    · refine Pool.wf_cons.mpr ⟨hc, fun e he => ?_, h⟩
      rcases List.mem_cons.mp he with rfl | he
      · exact hij
      · exact Nat.lt_trans hij (hlt e he)
    · exact hrest
    · exact Pool.wf_cons.mpr ⟨hc, heq ▸ hlt, hrest⟩
    · refine Pool.wf_cons.mpr ⟨hd, fun e he => ?_, ih hrest⟩
      rcases Pool.mem_write he with h | h
      · omega
      · exact hlt e h

/-- A read at the written index gives the record written. -/
theorem Pool.read_write_same {p : Pool} (i : Nat) (c : Cue) (h : p.wf = true) : (p.write i c).read i = c := by
  induction p with
  | nil =>
    simp only [Pool.write]
    split <;> simp_all [Pool.read]
  | cons e rest ih =>
    obtain ⟨j, d⟩ := e
    obtain ⟨-, hlt, hrest⟩ := Pool.wf_cons.mp h
    simp only [Pool.write]
    split_ifs with hij hc heq hc
    · rw [hc]
      refine Pool.read_below fun e he => ?_
      rcases List.mem_cons.mp he with rfl | he
      · exact hij
      · exact Nat.lt_trans hij (hlt e he)
    · simp [Pool.read]
    · rw [hc]; exact Pool.read_below (heq ▸ hlt)
    · simp [Pool.read]
    · simp only [Pool.read, show j ≠ i by omega, if_false]
      exact ih hrest

/-- A write leaves every other index. -/
theorem Pool.read_write_other {p : Pool} {i j : Nat} (c : Cue) (h : j ≠ i) : (p.write i c).read j = p.read j := by
  induction p with
  | nil =>
    simp only [Pool.write]
    split
    · rfl
    · simp [Pool.read, h.symm]
  | cons e rest ih =>
    obtain ⟨k, d⟩ := e
    simp only [Pool.write]
    split_ifs with hij hc heq hc
    · rfl
    · simp [Pool.read, h.symm]
    · simp [Pool.read, show k ≠ j by omega]
    · simp [Pool.read, h.symm, show k ≠ j by omega]
    · simp only [Pool.read, ih]

/-- Writing records one after the other keeps the canonical form. -/
theorem Pool.writeAll_wf {p : Pool} (i : Nat) (cs : List Cue) (h : p.wf = true) : (p.writeAll i cs).wf = true := by
  induction cs generalizing p i with
  | nil => exact h
  | cons c cs ih => exact ih (i + 1) (Pool.write_wf i c h)

/-- Records written from `i` on leave every index outside them. -/
theorem Pool.read_writeAll_other {p : Pool} {i j : Nat} (cs : List Cue) (h : j < i ∨ i + cs.length ≤ j) :
    (p.writeAll i cs).read j = p.read j := by
  induction cs generalizing p i with
  | nil => rfl
  | cons c cs ih =>
    simp only [List.length_cons] at h
    simp only [Pool.writeAll]
    rw [ih (by omega), Pool.read_write_other c (by omega)]

/-- Records written from `i` on are read back in their order. -/
theorem Pool.read_writeAll_same {p : Pool} {i k : Nat} {cs : List Cue} (h : p.wf = true) (hk : k < cs.length) :
    (p.writeAll i cs).read (i + k) = cs[k] := by
  induction cs generalizing p i k with
  | nil => simp at hk
  | cons c cs ih =>
    cases k with
    | zero =>
      simp only [Pool.writeAll]
      rw [Pool.read_writeAll_other cs (by omega)]
      simpa using Pool.read_write_same i c h
    | succ k =>
      have := ih (i := i + 1) (k := k) (Pool.write_wf i c h) (by simpa using hk)
      simpa [Pool.writeAll, Nat.add_assoc, Nat.add_comm 1 k] using this

/-- Giving a cue back keeps the canonical form. -/
theorem Pool.giveBack_wf {p : Pool} (i : Nat) (k : CueStatus) (h : p.wf = true) : (p.giveBack i k).wf = true :=
  Pool.write_wf i _ h

/-- Giving a cue back leaves every other record. -/
theorem Pool.read_giveBack_other {p : Pool} {i j : Nat} (k : CueStatus) (h : j ≠ i) :
    (p.giveBack i k).read j = p.read j := Pool.read_write_other _ h

/-- A cue given back has its status and is the host's again (R36, R5). -/
theorem Pool.read_giveBack_same {p : Pool} (i : Nat) (k : CueStatus) (h : p.wf = true) :
    (p.giveBack i k).read i = { p.read i with ready := false, status := k } := Pool.read_write_same i _ h

/-- A fold of operations that each keep the canonical form keeps it. -/
theorem Pool.foldl_wf {α : Type} (f : Pool → α → Pool) (hf : ∀ p a, p.wf = true → (f p a).wf = true) (l : List α)
    (p : Pool) (h : p.wf = true) : (l.foldl f p).wf = true := by
  induction l generalizing p with
  | nil => exact h
  | cons a l ih => exact ih _ (hf p a h)

/-- The library's images leave the pool in the canonical form (R199). -/
theorem State.loadLibrary_pool_wf (s : State) (l : List StoredScene) : (s.loadLibrary l).pool.wf = true :=
  Pool.foldl_wf _ (fun _ _ h => Pool.writeAll_wf _ _ h) _ _ rfl

/-- Immediate ends keep the canonical form (R5). -/
theorem State.endLayers_pool_wf (s : State) (p : Slot → Layer → Bool) (r : EndReason) (h : s.pool.wf = true) :
    (s.endLayers p r).1.pool.wf = true := by
  refine Pool.foldl_wf _ (fun q i hq => ?_) _ _ h
  dsimp only
  split
  · exact Pool.giveBack_wf _ _ hq
  · exact hq

/-- After power-on the pool is canonical. -/
theorem State.powerOn_pool_wf (cs : List Instr) (hi line : Bool) (i : Option Identity) (k : Option StoredSettings)
    (l : Option (List StoredScene)) (n : Nat) : (State.powerOn cs hi line i k l n).pool.wf = true := rfl

/-- Pools in the canonical form that read alike at every index are equal. -/
theorem Pool.ext_of_wf {p q : Pool} (hp : p.wf = true) (hq : q.wf = true) (h : ∀ i, p.read i = q.read i) : p = q := by
  induction p generalizing q with
  | nil =>
    cases q with
    | nil => rfl
    | cons e rest =>
      obtain ⟨i, c⟩ := e
      obtain ⟨hc, -, -⟩ := Pool.wf_cons.mp hq
      exact absurd (by simpa [Pool.read] using h i) (Ne.symm hc)
  | cons e rest ih =>
    obtain ⟨i, c⟩ := e
    obtain ⟨hc, hlt, hrest⟩ := Pool.wf_cons.mp hp
    cases q with
    | nil => exact absurd (by simpa [Pool.read] using h i) hc
    | cons e' rest' =>
      obtain ⟨j, d⟩ := e'
      obtain ⟨hd, hlt', hrest'⟩ := Pool.wf_cons.mp hq
      have below : ∀ {r : Pool} {a b : Nat}, (∀ e ∈ r, b < e.1) → a ≤ b → r.read a = Cue.empty :=
        fun hr hab => Pool.read_below fun e he => Nat.lt_of_le_of_lt hab (hr e he)
      have hij : i = j := by
        rcases Nat.lt_trichotomy i j with hij | hij | hij
        · have := h i
          simp only [Pool.read, if_true, if_neg (Nat.ne_of_gt hij), below hlt' (Nat.le_of_lt hij)] at this
          exact absurd this hc
        · exact hij
        · have := h j
          simp only [Pool.read, if_true, if_neg (Nat.ne_of_gt hij), below hlt (Nat.le_of_lt hij)] at this
          exact absurd this.symm hd
      subst hij
      have hcd : c = d := by simpa [Pool.read] using h i
      subst hcd
      congr 1
      refine ih hrest hrest' fun k => ?_
      by_cases hk : k = i
      · subst hk
        rw [below hlt (Nat.le_refl k), below hlt' (Nat.le_refl k)]
      · have := h k
        simpa [Pool.read, Ne.symm hk] using this

end Sys2Proof.Machine
end

