-- ==== Sys2Proof/Tests/Slice0.lean ====
section
/-! SUPPORT. Tests/Slice0.lean: the checks of WellFormed on ill-formed terms, the manual's worked examples, one step of
each family of commands on small states, and a witness for the hypotheses of each obligation. -/

set_option maxRecDepth 20000

namespace Sys2Proof.Tests

open Machine

/-! ### WellFormed refuses -/

theorem test_wf_tick_slot : Instr.wellFormed (.tick [3, 12]) = false := by decide
theorem test_wf_tick_twice : Instr.wellFormed (.tick [3, 3]) = false := by decide
theorem test_wf_payload : Instr.wellFormed (.ping 0 (List.replicate 241 0)) = false := by decide
theorem test_wf_trailer_short : Instr.wellFormed (.shiftEnd .a [0x3C]) = false := by decide
theorem test_wf_answers_cut : Instr.wellFormed (.collectEnd .a [0x96, 1, 2]) = false := by decide
theorem test_wf_answers_endless : Instr.wellFormed (.collectEnd .b []) = false := by decide
theorem test_wf_answers_beyond : Instr.wellFormed (.collectEnd .b [0, 0x96]) = false := by decide
theorem test_wf_no_characters : Instr.wellFormed (.frameReceived []) = false := by decide
theorem test_wf_unknown_is_request : Instr.wellFormed (.unknownKind 0x10 0 []) = false := by decide
theorem test_wf_unknown_is_report : Instr.wellFormed (.unknownKind 0x75 0 []) = false := by decide
theorem test_wf_report_is_request : Instr.wellFormed (.reportKindDiscard 0x6F 0 []) = false := by decide
theorem test_wf_stop_variant : Instr.wellFormed (.stopLayerImmediate 0 [3, 1]) = false := by decide
theorem test_wf_stop_end_variant : Instr.wellFormed (.stopLayerAtEnd 0 [3, 0]) = false := by decide
theorem test_wf_clear_variant : Instr.wellFormed (.clearAlertAtEnd 0 [10, 0]) = false := by decide
theorem test_wf_scene_variant : Instr.wellFormed (.putScene 0 [1, 0, 0, 0, 0, 2, 0]) = false := by decide
theorem test_wf_remove_variant : Instr.wellFormed (.putSceneRemove 0 [1, 0, 0, 0, 3, 2, 0]) = false := by decide
theorem test_wf_chain_variant : Instr.wellFormed (.setChainStateOff 0 [0, 1]) = false := by decide
theorem test_wf_override_variant : Instr.wellFormed (.setAmbientOverrideOn 0 [0, 1, 0]) = false := by decide
theorem test_wf_length_either : Instr.wellFormed (.stopLayerImmediate 0 [3, 1, 0]) = true := by decide
theorem test_wf_answer : Instr.wellFormed (.collectEnd .a (0x96 :: List.replicate 8 0 ++ [0])) = true := by decide

/-! ### Worked values of the manual -/

/-- R174: over no bytes, over the byte 0x00, over the digits 1 to 9. -/
theorem test_crc :
    crc16 [] = 0xFFFF#16 ∧ crc16 [0x00] = 0xE1F0#16 ∧
      crc16 [0x31, 0x32, 0x33, 0x34, 0x35, 0x36, 0x37, 0x38, 0x39] = 0x29B1#16 := by decide

/-- 11.1, LOCK CATALOG on the wire: the request and the reply. -/
theorem test_lock_frames :
    (LinkFrame.mk 0x35 0x01 []).bytes = [0xA5, 0x00, 0x35, 0x01, 0x26, 0xDD] ∧
      (LinkFrame.mk (replyKind 0x35) 0x01 [0x00]).bytes = [0xA5, 0x01, 0xB5, 0x01, 0x00, 0xD4, 0x4A] := by decide

/-- 11.10: the node word of the reference node and of a dark frame, and the status bytes' parity. -/
theorem test_node_words :
    nodeWord 2575 1759 708 = 0x5AA0F6DF2C44#48 ∧ nodeWord 0 0 0 = 0x5A000000000F#48 ∧
      parityGood 0x09 = true ∧ parityGood 0x81 = true ∧ parityGood 0x01 = false := by decide

/-- 11.10: the identity record of the worked node is valid. -/
theorem test_identity : identityGood [0x00, 0x31, 0x05, 0x02, 0x03, 0x01, 0x01, 0x35] = true := by decide

/-- 3.3, one fade read at e = 300 of 1000. -/
theorem test_fade :
    fadeValue 255 0 300 1000 = 179 ∧ fadeValue 140 0 300 1000 = 98 ∧ fadeValue 0 255 300 1000 = 77 ∧
      fadeValue 255 128 300 1000 = 217 := by decide

/-- 3.3, sweep weights: N = 20, W = 3 at e = 400 of 1000, trail clear; N = 7, W = 2 at e = 250 of 600, trail set. -/
theorem test_sweep :
    (List.range 12).map (fun k => sweepWeight k (sweepHead 20 400 1000) 3 false) =
        [0, 0, 0, 0, 0, 0, 85, 170, 255, 170, 85, 0] ∧
      (List.range 7).map (fun k => sweepWeight k (sweepHead 7 250 600) 2 true) = [255, 255, 255, 245, 117, 0, 0] := by
  decide

/-- 4.4: the map of linearisation. -/
theorem test_linear : [0, 2, 3, 64, 128, 192, 255].map linear = [0, 0, 1, 258, 1032, 2322, 4095] := by decide

/-- 6.2: divisors, and effective periods of chains of 20, 60 and 128 records. -/
theorem test_periods :
    [divisorOf 0 0, divisorOf 3 1, divisorOf 3 4, divisorOf 3 6, divisorOf 7 7] = [4, 16, 128, 512, 512] ∧
      ({ Port.reset with pre := 0, sel := 0, period := 5 } : Port).effectivePeriod 20 = 5 ∧
      Port.reset.effectivePeriod 128 = 10 ∧
      ({ Port.reset with sel := 4 } : Port).effectivePeriod 128 = 21 ∧
      ({ Port.reset with sel := 6, period := 40 } : Port).effectivePeriod 128 = 78 := by decide

/-- 4.10, the reference node. -/
def referenceNode : SnapNode :=
  { position := 0, packed := 0, zone := 0, source := .self, gains := ⟨30000, 34000, 32768⟩, currents := ⟨150, 120, 120⟩, cap := 4095,
    status := NodeStatus.clear }

/-- 4.10: a chain of 60 reference nodes under two layers. -/
def referenceSnapshot : Snapshot :=
  { layers := [⟨3, 6, ⟨0, 0⟩, .plain (Rgb.all 255) 128⟩, ⟨0, 2, ⟨0, 0⟩, .plain ⟨255, 140, 0⟩ 255⟩]
    u := 1024, a := 768, nodes := List.replicate 60 referenceNode, zones := List.replicate 60 0, budget := 1000 }

/-- 4.10: P, top layer and the duties before the budget of the reference node. -/
theorem test_reference_entry : referenceSnapshot.entry referenceNode = ⟨⟨2812, 1921, 774⟩, some 3⟩ := by decide

/-- 4.10: T, S and the scaled duties of the reference chain. -/
theorem test_reference_chain :
    referenceSnapshot.total = 44712000 ∧ referenceSnapshot.scale = 3751 ∧
      scaled 3751 ⟨2812, 1921, 774⟩ = ⟨2575, 1759, 708⟩ := by
  have total : referenceSnapshot.total = 44712000 := by
    simp only [Snapshot.total, referenceSnapshot, List.map_replicate, List.sum_replicate]
    change 60 • drawOf (referenceSnapshot.entry referenceNode).duty referenceNode.drawn = 44712000
    rw [test_reference_entry]
    decide
  refine ⟨total, ?_, by decide⟩
  rw [Snapshot.scale, total]
  decide

/-! ### Small states -/

/-- AWAKE after a start-up with nothing stored, the receiver in HUNT. -/
def started : State :=
  { State.reset with power := ⟨.awake, false, false⟩, link := { Link.reset with receiver := .hunt } }

/-- The state after a command, tested. -/
def after (c : Instr) (s : State) (p : State → Bool) : Bool :=
  match exec c s with
  | .next t => p t
  | _ => false

/-- A cue of duration 3 that fades from black to white. -/
def fadeCue : Cue :=
  { Cue.empty with kind := .fade, ready := true, notify := true, colour := Rgb.all 255, opacity := 255, duration := 3 }

/-- A layer in play of that cue at index 0 of the STREAM ring 0 to 2, exclusive at level 6, one tick taken. -/
def fading : Layer :=
  { Layer.reset 6 with
    state := .running, exclusive := true, ringLength := 3, ringMode := .stream, cueBegun := true, elapsed := 1,
    captured := { Captured.zero with kind := .fade, notify := true, colour := Rgb.all 255, opacity := 255, duration := 3 } }

/-- A scene of the library: ring 10 to 13, level 3. -/
def cabin : Scene := { id := 1, base := 10, length := 4, level := 3, exclusive := false }

/-- Slot 3 fading, slot 0 SUSPENDED below it at level 2 on the scene's ring, a catalog entry's worth of queue. -/
def playing : State :=
  ({ started with
    pool := [(0, fadeCue)], library := [cabin], pending := [.tick []]
    arb := { started.arb with floor := 6 } }.setLayer 3 fading).setLayer 0
      { Layer.reset 2 with state := .suspended, ringBase := 10, ringLength := 4, cueIndex := 10, sceneId := 1 }

/-- A frame of one dark entry. -/
def oneFrame : Frame := { entries := [⟨Rgb.all 0, none⟩], total := 0, scale := 4096 }

/-- The node record of an identity of eight zero bytes, without a block. -/
def oneNode : Node := Node.ofAnswer ⟨[0, 0, 0, 0, 0, 0, 0, 0], none⟩

/-- Chain A with one node, its port as given. -/
def chainA (p : Port) : State := { started with portA := p, dir := { started.dir with nodesA := [oneNode] } }

/-- A RUNNING port whose period start is due. -/
def runningPort : Port := { Port.reset with state := .running, periodTimer := 1 }

/-! ### One step of each family -/

/-- R196, R207: the start-up leads to AWAKE with both identify passes begun and STORE_INVALID set. -/
theorem test_startup :
    after .startupComplete State.reset (fun t =>
      decide (t.power.part = .awake) && decide (t.portA.transfer = some .request) &&
        decide (t.link.tx = some ⟨false, ⟨0x70, 0, [0x80, 0x00, 0x80, 0x00]⟩⟩)) = true := by decide

/-- R11, R7: an exclusive start at level 6; the floor follows, and a slot at level 2 starts SUSPENDED. -/
theorem test_start_layer :
    after (.startLayer 9 [3, 6, 1, 0, 0, 0, 3, 0, 0]) started (fun t =>
      decide ((t.layer 3).state = .running) && decide (t.arb.floor = 6) &&
        decide (t.link.tx = some ⟨true, ⟨0x90, 9, [0x00]⟩⟩)) = true := by decide

theorem test_start_scene_suspended :
    after (.startScene 9 [4, 1, 0xFF]) playing (fun t =>
      decide ((t.layer 4).state = .suspended) && decide ((t.layer 4).level = 3) &&
        decide ((t.layer 4).cueIndex = 10)) = true := by decide

/-- R13, R5, R7: the stop gives the begun STREAM cue back CUT and lets the layer below resume. -/
theorem test_stop_immediate :
    after (.stopLayerImmediate 0 [3, 0]) playing (fun t =>
      decide ((t.layer 3).endReason = .stopped) && decide ((t.layer 0).state = .running) &&
        decide ((t.pool.read 0).status = .cut) && decide (t.link.notices = [.cue 3 0 .cut])) = true := by decide

/-- R9: a change to CANCEL cuts the SUSPENDED layer. -/
theorem test_set_policy :
    after (.setPolicy 0 [1]) playing (fun t =>
      decide ((t.layer 0).state = .idle) && decide ((t.layer 0).endReason = .cut)) = true := by decide

/-- R15: level 0 parks the layer that holds the floor. -/
theorem test_set_level_parks :
    after (.setLevel 0 [3, 0]) playing (fun t =>
      decide ((t.layer 3).state = .parked) && decide (t.arb.floor = 0) && decide ((t.layer 0).state = .running)) =
        true := by decide

/-- R19: 700 seconds are taken as 600. -/
theorem test_hush :
    after (.hush 0 [0x02, 0xBC]) started (fun t =>
      decide (t.arb.hush = 600000) && decide (t.link.tx = some ⟨true, ⟨0x96, 0, [0x00, 0x02, 0x58]⟩⟩)) = true := by decide

/-- R51, R57: the second tick of the fade from 0 to 255 over 3 ms. -/
theorem test_tick_fade :
    after (.tick []) playing (fun t =>
      decide ((t.layer 3).elapsed = 2) && decide ((t.layer 3).colour = Rgb.all 170)) = true := by decide

/-- R53, R36, R74, R70: the last tick gives the cue back DONE with its notice, and the layer starves at index 1. -/
theorem test_tick_hand_back :
    after (.tick []) (playing.setLayer 3 { fading with elapsed := 2 }) (fun t =>
      decide ((t.pool.read 0).status = .done) && !(t.pool.read 0).ready && decide ((t.layer 3).state = .starved) &&
        decide ((t.layer 3).cueIndex = 1) && decide ((t.layer 3).colour = Rgb.all 255) &&
        decide (t.link.tx = some ⟨false, ⟨0x71, 0, [3, 0, 0, 1]⟩⟩)) = true := by decide

/-- R69: a ring of SET cues alone is a RUNAWAY. -/
theorem test_tick_runaway :
    after (.tick []) (({ started with pool := [(5, { Cue.empty with kind := .set })] } : State).setLayer 1
        { Layer.reset 4 with state := .running, ringBase := 5, ringLength := 1, cueIndex := 5 }) (fun t =>
      decide ((t.layer 1).state = .idle) && decide ((t.layer 1).endReason = .runaway)) = true := by decide

/-- R62: an END in an unlatched layer ends it COMPLETED on its first tick. -/
theorem test_tick_end :
    after (.tick []) (started.setLayer 1 { Layer.reset 4 with state := .running, ringLength := 1 }) (fun t =>
      decide ((t.layer 1).endReason = .completed)) = true := by decide

/-- R38, R39: a load of one record with its ready flag; the record keeps status NONE. -/
theorem test_load_cues :
    after (.loadCues 0 [0, 5, 0, 1, 0, 0, 255, 140, 0, 255, 0, 0, 0, 0, 2]) started (fun t =>
      decide (t.pool.read 5 =
        { Cue.empty with kind := .set, ready := true, colour := ⟨255, 140, 0⟩, opacity := 255 })) = true := by decide

/-- R38, check 4: a ready cue of a STREAM ring in play is refused BUSY. -/
theorem test_load_cues_busy :
    after (.loadCues 0 [0, 0, 0, 1, 0, 0, 255, 140, 0, 255, 0, 0, 0, 0, 2]) playing (fun t =>
      decide (t.pool = playing.pool) && decide (t.link.tx = some ⟨true, ⟨0xA0, 0, [0x05]⟩⟩)) = true := by decide

/-- R46, R47: a scene is put and removed. -/
theorem test_put_scene :
    after (.putScene 0 [9, 0x07, 0xF0, 0, 16, 7, 1]) playing (fun t => decide (t.library.map (·.id) = [1, 9])) = true ∧
      after (.putSceneRemove 0 [1, 0, 0, 0, 0, 0, 0]) playing (fun t => decide (t.library = [])) = true := by decide

/-- R129, R75, R81: a period start begins a render. -/
theorem test_period_start :
    after (.periodStart .a) (chainA runningPort) (fun t =>
      t.compA.render.isSome && decide (t.portA.periodTimer = 11)) = true := by decide

/-- R132: the latch moves the pending frame. -/
theorem test_latch :
    after (.latchPoint .a)
      (chainA { runningPort with pendingFrame := some oneFrame, transfer := some (.duty oneFrame .pending false) })
      (fun t => t.portA.pendingFrame.isNone && decide (t.portA.lastLatched = some oneFrame) && t.portA.latchedSince) =
        true := by decide

/-- R134: the third failing trailer breaks the loop; R116: a correct one is absorbed. -/
theorem test_shift_end :
    after (.shiftEnd .a [0x3C, 0xA4, 0])
      (chainA { runningPort with failingRun := 2, transfer := some (.duty oneFrame .pending true) })
      (fun t => t.portA.loopBroken && decide (t.portA.loopBreaks = 1)) = true ∧
    after (.shiftEnd .a [0x3C, 0xA5, 0x09])
      (chainA { runningPort with transfer := some (.duty oneFrame .pending true) })
      (fun t => decide ((t.dir.nodesA.map (·.status)) = [⟨true, false, false, true⟩])) = true := by decide

/-- R141, R142: a pass that ends without answers leaves no records and the port RUNNING. -/
theorem test_collect_end :
    after (.collectEnd .a [0]) (chainA { Port.reset with state := .enumerating, transfer := some .collect }) (fun t =>
      decide (t.dir.nodesA = []) && decide (t.portA.state = .running) && decide (t.portA.periodTimer = 1)) = true := by
  decide

/-- R144: foreign activity releases a RUNNING port. -/
theorem test_foreign :
    after (.foreignActivity .a) (chainA runningPort) (fun t =>
      decide (t.portA.state = .released) && decide (t.portA.returnState = .running)) = true := by decide

/-- R152: the default curve at 1300 gives 460; R150: the smoothing of 3000 towards 400 gives 2675. -/
theorem test_ambient : Curve.default.value 1300 = 460 ∧ smooth true 3000 400 = 2675 := by decide

/-- R156: equal counts are refused INVALID. -/
theorem test_set_curve :
    after (.setCurve 0 [0, 0, 0, 1, 0, 5, 0, 1, 0, 5, 0, 1, 0, 9, 0, 1, 0, 10, 0, 1]) started (fun t =>
      decide (t.amb = started.amb) && decide (t.link.tx = some ⟨true, ⟨0xD0, 0, [0x04]⟩⟩)) = true := by decide

/-- A trigger that starts the scene in slot 5 for the codes 0x12xx, and reports. -/
def sceneTrigger : Trigger :=
  { Trigger.empty with
    valid := true, code := 0x1200, mask := 0xFF00, action := .startScene, slot := 5, sceneId := 1, level := 7, report := true }

/-- The state with that trigger at index 1. -/
def armed : State := { playing with triggers := playing.triggers.set 1 sceneTrigger }

/-- R161 to R169: the entry starts its scene and reports. -/
theorem test_vehicle_event :
    after (.vehicleEvent 0 [0x12, 0x34]) armed (fun t =>
      decide ((t.layer 5).state = .running) && decide (t.link.notices = [.trigger 0x1234 1 .ok])) = true := by decide

/-- R170: a CLEAR_ALERT entry for slot 9 is refused. -/
theorem test_put_trigger : triggerOfBytes [1, 0, 0, 0, 0, 0, 4, 9, 0, 0, 0, 0, 0] = none := by decide

/-- R124, R121: under the lock PUT CATALOG answers LOCKED. -/
theorem test_catalog_lock :
    after (.putCatalog 0 (List.replicate 20 0)) { started with dir := { started.dir with locked := true } } (fun t =>
      decide (t.link.tx = some ⟨true, ⟨0xB2, 0, [0x06]⟩⟩)) = true := by decide

/-- R135, R128: pre 3 and sel 1 give divisor 16; the period 50 is taken as 40. -/
theorem test_set_timing :
    after (.setChainTiming 0 [0, 3, 1, 50]) started (fun t =>
      decide (t.portA.period = 40) && decide (t.link.tx = some ⟨true, ⟨0xC0, 0, [0x00, 0, 16, 40]⟩⟩)) = true := by decide

/-- R200, R202: a write that reads back right. -/
theorem test_store :
    after (.storeLibrary 0 []) playing (fun t =>
      decide (t.store.libraryRegion = none) &&
        after (.storeWriteEnd true) t (fun u => decide (u.store.libraryRegion.map List.length = some 1))) = true := by
  decide

/-- R205 to R208: a sleep, its entry to DORMANT, and the wake. -/
theorem test_sleep :
    after (.sleep 0 []) started (fun t =>
      after .transmitComplete t fun u =>
        after .dormantEntry u fun v =>
          decide (v.power.part = .dormant) && after .wakeByLink v fun w => decide (w.power.part = .awake)) = true := by
  decide

/-- R173: the sync byte on SLO, start bit low, least significant bit first, stop bit high. -/
theorem test_character :
    characterBits 0xA5 = [false, true, false, true, false, false, true, false, true, true] ∧
      characterByte [false, true, false, true, false, false, true, false, true, false] = none := by decide

/-- R125, R126: the start word 0xC3A5 on DOx, most significant bit first. -/
theorem test_start_word :
    wordBits startWord = [true, true, false, false, false, false, true, true, true, false, true, false, false, true,
      false, true] := by decide

/-- R125, R144, R173: weak hold between transfers, high impedance in RELEASED, SLO high when idle. -/
theorem test_pins :
    started.chainLines .a = .weakHold ∧
      ({ started with portA := { Port.reset with state := .released } } : State).chainLines .a = .highImpedance ∧
      started.slo = .high := by decide

/-- R207, R139: an ENUMERATE waits behind the dark frame of a cancelled sleep; the frame's end clears the mark. -/
theorem test_cancelled_sleep_enumerates :
    after (.enumerate 0 [0]) (chainA { Port.reset with wakeMark := true, transfer := some (.dark 1 true) }) (fun t =>
      decide (t.portA.waiting = [.identify]) &&
        after (.shiftEnd .a []) t fun u => !u.portA.wakeMark && decide (u.portA.transfer = some .request)) = true := by
  decide

/-- No row of the table gives bits. -/
theorem test_no_words : decodeTableWord 16 0x35 = none ∧ State.reset.withFetchWord 16 0x35 = State.reset := by decide

/-- The command at the front of the queue is taken. -/
theorem test_queue :
    (match step { started with pending := [.egressLineChange true, .luxEdge] } with
     | .next t => decide (t.pending = [.luxEdge]) && t.arb.egressLine
     | _ => false) = true := by decide

/-! ### Witnesses: for each obligation with hypotheses, a state and operands that meet them -/

/-- The debounced EGRESS level asserted, with the latch of slot 11. -/
def egressed : State :=
  ({ started with arb := { started.arb with egressLevel := true, egressLine := true } } : State).setLayer egressSlot
    { Layer.reset 15 with latch := true }

/-- Chain A as a start-up leaves it: one calibrated record, port RUNNING, a period start due. -/
def enumerated : State := chainA runningPort

/-- Slot 0 alone RUNNING at the last index of its RESIDENT ring, over a loop. -/
def looping : State :=
  started.setLayer 0
    { Layer.reset 2 with state := .running, ringBase := 2047, ringLength := 1, cueIndex := 2047, loopStack := [⟨2047, none⟩], stepCount := 16 }

theorem witness_StepKeepsPoolCanonical : PoolCanonical playing ∧ ∃ t, step playing = .next t := ⟨by unfold PoolCanonical; decide, _, rfl⟩
theorem witness_StepKeepsLinkBounded : LinkBounded playing ∧ ∃ t, step playing = .next t :=
  ⟨by unfold LinkBounded; decide, _, rfl⟩
theorem witness_StepKeepsFloor : FloorHolds playing ∧ ∃ t, step playing = .next t :=
  ⟨⟨by decide, by decide, by decide, by decide, by decide⟩, _, rfl⟩
theorem witness_StepKeepsLevels : LevelsHold playing ∧ ∃ t, step playing = .next t :=
  ⟨⟨by unfold levelInRange; decide, by unfold LibraryInBounds; decide, by unfold TriggersSound; decide⟩, _, rfl⟩
theorem witness_StepKeepsRings : RingsHold playing ∧ ∃ t, step playing = .next t :=
  ⟨⟨by unfold Layer.inRing; decide, by decide, by unfold LibraryInBounds; decide⟩, _, rfl⟩
theorem witness_StepKeepsEgressLatched :
    egressed.arb.egressLevel = true ∧ EgressLatched egressed ∧ ∃ t, step egressed = .next t :=
  ⟨by decide, by unfold EgressLatched; decide, _, rfl⟩
theorem witness_StepKeepsRanges : FactorsHold playing ∧ CountersHold playing ∧ ∃ t, step playing = .next t :=
  ⟨by unfold FactorsHold; decide, by unfold CountersHold Port.inRange; decide, _, rfl⟩
theorem witness_StepKeepsPorts : PortsHold enumerated ∧ ∃ t, step enumerated = .next t :=
  ⟨⟨⟨fun h => absurd rfl h, by decide⟩, ⟨fun _ => ⟨rfl, rfl, rfl, rfl, fun _ h => nomatch h⟩, by decide⟩, by decide⟩, _, rfl⟩
theorem witness_StepKeepsDirectoryCurrent : DirectoryCurrent enumerated ∧ ∃ t, step enumerated = .next t := by
  refine ⟨⟨?_, by decide⟩, _, rfl⟩
  intro c
  cases c
  · refine ⟨by decide, fun p n h => ?_⟩
    match p with
    | 0 =>
      cases h
      exact ⟨by decide, by decide⟩
    | p + 1 => exact absurd h (by simp [enumerated, chainA, Directory.nodes])
  · exact ⟨by decide, fun p n h => absurd (show ([] : List Node)[p]? = some n from h) (by simp)⟩
theorem witness_StepKeepsLibraryAndStacks : LibraryHolds playing ∧ StacksHold looping ∧
    (∃ t, step playing = .next t) ∧ ∃ t, step looping = .next t :=
  ⟨⟨by decide, by decide, by unfold LibraryInBounds; decide⟩, by unfold StacksHold; decide, ⟨_, rfl⟩, _, rfl⟩

/-- The catalog locked. -/
def lockedUp : State := { started with dir := { started.dir with locked := true } }

theorem witness_CatalogLockFreezes : lockedUp.dir.locked = true ∧ ∃ t, exec .luxEdge lockedUp = .next t := ⟨by decide, _, rfl⟩
/-- EGRESS SET, RX_ERROR REPORTED. -/
def flagged : State :=
  { started with link := (((started.link.raise .rxError).reportFlags).raise .egress) }
theorem witness_FlagsPersist :
    flagged.link.flag .egress ≠ .clear ∧ flagged.link.flag .rxError = .reported ∧ ∃ t, exec .luxEdge flagged = .next t :=
  ⟨by decide, by decide, _, rfl⟩
theorem witness_ChainsAreIndependent : Chain.a ≠ Chain.b ∧ ∃ t, exec (.periodStart .a) enumerated = .next t :=
  ⟨by decide, _, rfl⟩
theorem witness_PartStateMoves :
    ∃ t, exec .startupComplete State.reset = .next t ∧ t.power.part ≠ State.reset.power.part := ⟨_, rfl, by decide⟩
theorem witness_RegionsChangeByStores : ∃ t, exec (.storeWriteEnd true) started = .next t := ⟨_, rfl⟩
theorem witness_ReceiverTakesFrame :
    started.link.receiver = .hunt ∧ (List.replicate 240 (0xA5 : Byte)).length ≤ Config.maxPayload := by decide
theorem witness_RecordsRoundTrip :
    (Cue.empty.colour.r < 256 ∧ Cue.empty.opacity < 256 ∧ Cue.empty.duration < 65536 ∧ Cue.empty.loopTarget < 256) ∧
      triggerOfBytes (triggerToBytes sceneTrigger) = some sceneTrigger := by decide
theorem witness_FadeStaysBetween : (0 < 1 ∧ 1 ≤ 1) ∧ fadeValue 255 0 1 2 = 128 := by decide
theorem witness_TopLayerIsGreatest :
    ((referenceSnapshot.compose referenceNode).2.map (·.slot) = some 3) ∧
      ((referenceSnapshot.compose { referenceNode with zone := 0 }).2 ≠ none) := by decide

theorem witness_StartupLoadsAndWakes :
    (State.reset.power.part = .starting ∧ State.reset.portA.quiet = true ∧ State.reset.portB.quiet = true ∧
      State.reset.store.goodLibrary = none) ∧ FloorHolds State.reset :=
  ⟨by decide, by decide, by decide, by decide, by decide, by decide⟩

/-- Before the start-up load, one scene of two cues at the top of the pool stored. -/
def stocked : State :=
  { State.reset with
    store := { State.reset.store with
      libraryRegion := some [⟨{ id := 255, base := 2046, length := 2, level := 7, exclusive := true }, [fadeCue, Cue.empty]⟩] } }

theorem witness_StartupFillsPool :
    FloorHolds stocked ∧ stocked.power.part = .starting ∧
      (∃ c, stocked.store.libraryRegion = some [c] ∧ c.scene.id ≠ 0 ∧ c.scene.inBounds = true ∧
        c.image.length = c.scene.length) :=
  ⟨⟨by decide, by decide, by decide, by decide, by decide⟩, by decide, _, rfl, by decide, by decide, by decide⟩

/-- A stored scene with its image, of a colour of its own. -/
def storedScene (id base length level : Nat) : StoredScene :=
  ⟨{ id := id, base := base, length := length, level := level, exclusive := false },
    List.replicate length { Cue.empty with kind := .set, ready := true, colour := Rgb.all id }⟩

/-- Seven records: the second lies over part of the first, the third repeats an id, the fourth has id 0, the fifth level
8, the sixth leaves the pool, and the last stands at its top. -/
def shelf : List StoredScene :=
  [storedScene 1 0 4 1, storedScene 2 2 4 7, storedScene 1 10 2 1, storedScene 0 20 2 1, storedScene 5 30 2 8,
    storedScene 6 2047 2 1, storedScene 7 2046 2 0]

/-- Before the start-up load, those records stored. -/
def shelved : State :=
  { State.reset with store := { State.reset.store with libraryRegion := some shelf } }

theorem witness_StartupFillsPool_several :
    FloorHolds shelved ∧ shelved.power.part = .starting ∧ shelved.store.libraryRegion = some shelf ∧
      shelf.length ≤ 32 ∧ (shelf.map fun c => c.image.length).sum ≤ 1024 ∧
      ∀ c ∈ shelf, c.image.length = c.scene.length :=
  ⟨⟨by decide, by decide, by decide, by decide, by decide⟩, by decide, rfl, by decide, by decide, by decide⟩

/-- The first, second and last record pass, the first two with an index between them; index 100 is in none. -/
theorem witness_StartupFillsPool_passes :
    shelf[0]? = some (storedScene 1 0 4 1) ∧ shelf[1]? = some (storedScene 2 2 4 7) ∧
      shelf[6]? = some (storedScene 7 2046 2 0) ∧ (storedScene 7 2046 2 0).image.length = 2 ∧
      (∀ j < 6, ∀ d ∈ shelf[j]?, d.scene.id ≠ 7) ∧ (∀ j < 1, ∀ d ∈ shelf[j]?, d.scene.id ≠ 2) ∧
      (∀ c ∈ shelf, 100 < c.scene.base ∨ c.scene.base + c.scene.length ≤ 100) := by decide

/-- R199, R45: what that load leaves in the library, where two images meet, and where a record failed. -/
theorem test_load_several :
    after .startupComplete shelved (fun t =>
      decide ((t.library.map fun r => r.id) = [1, 2, 7]) && decide ((t.pool.read 1).colour = Rgb.all 1) &&
        decide ((t.pool.read 3).colour = Rgb.all 2) && decide (t.pool.read 10 = Cue.empty) &&
        decide ((t.pool.read 2047).colour = Rgb.all 7)) = true := by decide

/-- AWAKE in the last millisecond of a hush, the EGRESS line asserted, chain A RUNNING. -/
def hushed : State :=
  { enumerated with arb := { enumerated.arb with hush := 1, egressLine := true, egressTimer := 1 } }

theorem witness_TickCountsTime :
    (hushed.power.part = .awake ∧ hushed.arb.hush = 1 ∧ (hushed.port .a).state = .running ∧
      hushed.arb.egressLine ≠ hushed.arb.egressLevel) ∧
    started.amb.windowOpen = false ∧ started.power.sleepPending = false ∧
      ({ started with amb := { started.amb with windowOpen := true } } : State).power.part = .awake ∧
      ({ started with power := { started.power with sleepPending := true } } : State).power.part = .awake ∧
      ({ started with portB := { Port.reset with foreignActive := true, settle := some 2 } } : State).power.part =
        .awake := by decide

theorem witness_TickLeavesAlone :
    (∃ t, exec (.tick []) looping = .next t) ∧ (looping.layer 1).state = .idle ∧ (0 : Slot) ≠ egressSlot ∧
      ((looping.setLayer 2 { Layer.reset 0 with state := .parked }).layer 2).state = .parked ∧
      ∀ i : Slot, (looping.layer i).state ≠ .idle → (looping.layer i).ringMode = .resident :=
  ⟨⟨_, rfl⟩, by decide, by decide, by decide, by decide⟩

/-- Slot `i` alone with a layer that plays the RESIDENT ring 10 to 11 of a pool. -/
def alone (i : Slot) (pool : Pool) (l : Layer) : State :=
  { started with pool := pool }.setLayer i { l with state := .running, ringBase := 10, ringLength := 2 }

/-- A HOLD of 5 ms, a LOOP to it, a SWEEP's last tick, an END, a SET that wraps. -/
def holdCue : Cue := { Cue.empty with kind := .hold, duration := 5 }
def loopCue : Cue := { Cue.empty with kind := .loop, loopTarget := 1, width := 2, notify := true }
def sweepLast : Layer :=
  { Layer.reset 4 with
    cueIndex := 10, cueBegun := true, elapsed := 2, sweepActive := true,
    captured := { Captured.zero with kind := .sweep, colour := Rgb.all 9, opacity := 8, duration := 3, notify := true } }
def endCue (ready : Bool) : Cue := { Cue.empty with kind := .end_, ready := ready, notify := true }
def setCue : Cue := { Cue.empty with kind := .set, wrap := true, colour := Rgb.all 7, opacity := 6 }

/-- Slot 3 alone at the LOOP of its ring, with a loop stack and a finishing mark. -/
def loopAt (stack : List LoopEntry) (finishing : Bool) : State :=
  alone 3 [(10, loopCue), (11, holdCue)] { Layer.reset 4 with cueIndex := 10, loopStack := stack, finishing := finishing }

/-- Slot 3 alone, fading. -/
def fadingAlone : State := { started with pool := [(0, fadeCue)] }.setLayer 3 fading

theorem witness_TickAdvancesCue :
    (fadingAlone.power.part = .awake ∧ (fadingAlone.layer 3).state = .running ∧
      (∀ j : Slot, j ≠ 3 → (fadingAlone.layer j).state.playing = false) ∧ (fadingAlone.layer 3).cueBegun = true ∧
      (fadingAlone.layer 3).elapsed + 1 < (fadingAlone.layer 3).captured.duration ∧
      (fadingAlone.layer 3).captured.kind = .fade) ∧
    (let s := alone 3 [(11, holdCue)] sweepLast
     s.playsAlone 3 ∧ (s.layer 3).inPool ∧ (s.layer 3).cueBegun = true ∧ (s.layer 3).sweepActive = true ∧
      (s.layer 3).elapsed + 1 = (s.layer 3).captured.duration ∧ (s.pool.read (s.layer 3).successor).rests) := by
  unfold State.playsAlone Layer.inPool Cue.rests
  decide

/-- The six rows of R64 to R66 that find an entry or none, a full stack among them. -/
theorem witness_TickAdvancesCue_loop :
    (∀ s ∈ [loopAt [⟨0, none⟩, ⟨10, some 4⟩] true, loopAt [] false, loopAt [⟨0, none⟩, ⟨1, none⟩, ⟨2, none⟩, ⟨3, none⟩] false],
      s.playsAlone 3 ∧ (s.layer 3).inPool ∧ (s.layer 3).cueBegun = false ∧
        (s.pool.read (s.layer 3).cueIndex).kind = .loop ∧ (s.pool.read 11).rests) ∧
    ((loopAt [⟨0, none⟩, ⟨10, some 4⟩] true).layer 3).loopTakes loopCue [] false 11 ∧
    ((loopAt [⟨10, none⟩] false).layer 3).loopTakes loopCue [⟨10, none⟩] false 11 ∧
    ((loopAt [⟨10, some 1⟩] false).layer 3).loopTakes loopCue [⟨10, some 0⟩] false 11 ∧
    ((loopAt [⟨10, some 0⟩] false).layer 3).loopTakes loopCue [] false 11 ∧
    ((loopAt [] true).layer 3).loopTakes loopCue [] false 11 ∧
    ((loopAt [] false).layer 3).loopTakes loopCue [⟨10, some 1⟩] false 11 ∧
    ((loopAt [⟨0, none⟩, ⟨1, none⟩, ⟨2, none⟩, ⟨3, none⟩] false).layer 3).loopTakes loopCue
      [⟨0, none⟩, ⟨1, none⟩, ⟨2, none⟩, ⟨3, none⟩] true 11 :=
  ⟨by unfold State.playsAlone Layer.inPool Cue.rests; decide,
    .inl ⟨[⟨0, none⟩], [], some 4, by decide, by decide, by decide, by decide⟩,
    .inl ⟨[], [], none, by decide, by decide, by decide, by decide⟩,
    .inl ⟨[], [], some 1, by decide, by decide, by decide, by decide⟩,
    .inl ⟨[], [], some 0, by decide, by decide, by decide, by decide⟩, .inr (.inl (by decide)),
    .inr (.inr (.inl (by decide))), .inr (.inr (.inr (by decide)))⟩

/-- A latched slot alone, at the END of its ring, and at a SET that wraps. -/
def endAt (i : Slot) : State :=
  alone i [(10, holdCue), (11, endCue false)] { Layer.reset 14 with cueIndex := 11, latch := true }
def setsAt (i : Slot) : State := alone i [(10, setCue)] { Layer.reset 4 with cueIndex := 10, latch := true }

/-- ENDs: slot 3 in either ring mode, slot 11 in finishing. -/
theorem witness_TickAdvancesCue_end :
    (∀ s ∈ [alone 3 [(10, endCue true)] { Layer.reset 4 with cueIndex := 10 },
        alone 3 [(10, endCue true)] { Layer.reset 4 with cueIndex := 10, ringMode := .stream }],
      s.playsAlone 3 ∧ (s.layer 3).fallback = false ∧ (s.layer 3).cueBegun = false ∧ (s.layer 3).sweepActive = false ∧
        (s.pool.read (s.layer 3).cueIndex).kind = .end_ ∧ (s.pool.read (s.layer 3).cueIndex).ready = true) ∧
    (let s := alone 11 [(10, endCue false)] { Layer.reset 15 with cueIndex := 10, latch := true, finishing := true }
     s.playsAlone 11 ∧ (s.layer 11).finishing = true ∧ (s.layer 11).ringMode = .resident) := by
  unfold State.playsAlone
  decide

/-- END of a latched slot 10 and 11. -/
theorem witness_TickAdvancesCue_restart :
    ∀ i ∈ [alertSlot, egressSlot], (endAt i).playsAlone i ∧ ((endAt i).layer i).inPool ∧
      ((endAt i).layer i).cueBegun = false ∧ ((endAt i).pool.read ((endAt i).layer i).cueIndex).kind = .end_ ∧
      isScene i = false ∧ ((endAt i).layer i).latch = true ∧ ((endAt i).layer i).finishing = false ∧
      ((endAt i).pool.read ((endAt i).layer i).ringBase).rests := by
  unfold State.playsAlone Layer.inPool Cue.rests
  decide

/-- A ring of SETs in slot 3 and in a latched slot 11. -/
theorem witness_TickAdvancesCue_runaway :
    ∀ i ∈ [(3 : Slot), egressSlot], (setsAt i).playsAlone i ∧ ((setsAt i).layer i).inPool ∧
      ((setsAt i).layer i).cueBegun = false ∧ ((setsAt i).layer i).cueIndex = ((setsAt i).layer i).ringBase ∧
      ((setsAt i).pool.read ((setsAt i).layer i).ringBase).kind = .set ∧
      ((setsAt i).pool.read ((setsAt i).layer i).ringBase).wrap = true ∧ ((setsAt i).layer i).latch = true := by
  unfold State.playsAlone Layer.inPool
  decide

/-- Slot 3 alone, at a cue of its STREAM ring that is not ready. -/
def waiting : State := started.setLayer 3 { fading with cueBegun := false, cueIndex := 2 }

/-- Slot 3 alone, one tick before the end of its fade. -/
def fadeEnding : State := { started with pool := [(0, fadeCue)] }.setLayer 3 { fading with elapsed := 2 }

theorem witness_StreamHandsCuesOver :
    (waiting.power.part = .awake ∧ (waiting.layer 3).state.playing = true ∧
      (∀ j : Slot, j ≠ 3 → (waiting.layer j).state.playing = false) ∧ (waiting.layer 3).cueBegun = false ∧
      (waiting.layer 3).ringMode = .stream ∧ (waiting.layer 3).fallback = false ∧
      (waiting.pool.read (waiting.layer 3).cueIndex).ready = false ∧ (waiting.layer 3).state = .running) ∧
    fadeEnding.pool.wf = true ∧ fadeEnding.power.part = .awake ∧ (fadeEnding.layer 3).state = .running ∧
      (∀ j : Slot, j ≠ 3 → (fadeEnding.layer j).state.playing = false) ∧ (fadeEnding.layer 3).cueBegun = true ∧
      (fadeEnding.layer 3).sweepActive = false ∧ (fadeEnding.layer 3).captured.kind = .fade ∧
      (fadeEnding.layer 3).elapsed + 1 = (fadeEnding.layer 3).captured.duration ∧
      (fadeEnding.layer 3).ringMode = .stream ∧ (fadeEnding.layer 3).fallback = false ∧
      (fadeEnding.layer 3).successor ≠ (fadeEnding.layer 3).cueIndex ∧
      (fadeEnding.pool.read (fadeEnding.layer 3).successor).ready = false := by decide

/-- The debounced level asserted, the line back, the debounce over. -/
def released : State := { started with arb := { started.arb with egressLevel := true, egressTimer := 1 } }

/-- A gate window with its counter at the top. -/
def counting : State := { started with amb := { started.amb with windowOpen := true, counter := 65535, windowTimer := 1 } }

theorem witness_PlainEventsAct :
    (hushed.power.part = .awake ∧ hushed.arb.hush = 1) ∧ true ≠ started.arb.egressLine ∧
      (released.running = true ∧ released.arb.egressLine = false ∧ released.arb.egressLevel = true ∧
        released.arb.egressTimer ≤ 1) ∧
      counting.power.part = .awake ∧ counting.amb.windowOpen = true := by decide

/-- The EGRESS line asserted for its last debounce tick over a cabin at play. -/
def alarmed : State := { playing with arb := { playing.arb with egressLine := true, egressTimer := 1 } }

/-- The same with a sleep pending, chain A's port marked for the wake. -/
def cancelling (transfer : Option Transfer) : State :=
  { alarmed with
    portA := { Port.reset with wakeMark := true, transfer := transfer }, power := { alarmed.power with sleepPending := true } }

theorem witness_EgressTakesCabin :
    (LevelsHold alarmed ∧ alarmed.power.part = .awake ∧ alarmed.power.sleepPending = false ∧ alarmed.debounceOver ∧
      (alarmed.layer egressSlot).state = .idle ∧ alarmed.store.egressScene = 0) ∧
    (let s := { alarmed with store := { alarmed.store with egressScene := 1 } }
     findScene s.library s.store.egressScene = some cabin ∧
      (∀ j : Slot, (s.layer j).conflicts cabin.base cabin.length .resident = false) ∧
      findScene s.library 9 = none ∧ (s.layer 3).conflicts 2 4 .resident = true) ∧
    (let s := alarmed.setLayer egressSlot { Layer.reset 15 with state := .running, finishing := true }
     s.power.part = .awake ∧ s.power.sleepPending = false ∧ s.debounceOver ∧ (s.layer egressSlot).state ≠ .idle) ∧
    (let s := { State.reset with arb := alarmed.arb }
     s.power.part = .starting ∧ s.debounceOver) ∧
    ∀ s ∈ [cancelling none, cancelling (some (.dark 1 false))],
      s.power.part = .awake ∧ s.power.sleepPending = true ∧ s.debounceOver ∧ (s.port .a).wakeMark = true ∧
        (s.port .a).state = .off ∧ (s.port .a).waiting = [] ∧ (s.port .b).wakeMark = false :=
  ⟨⟨⟨by unfold levelInRange; decide, by unfold LibraryInBounds; decide, by unfold TriggersSound; decide⟩, by decide,
    by decide, by unfold State.debounceOver; decide, by decide, by decide⟩, by decide,
    by unfold State.debounceOver; decide, by unfold State.debounceOver; decide, by unfold State.debounceOver; decide⟩

/-- The end of a gate window, by its count, its run of zeros and its staleness. -/
def windowEnd (n run : Nat) (stale : Bool) : State :=
  { counting with amb := { counting.amb with counter := n, staleCount := run, stale := stale, seeded := true } }

theorem witness_GateWindowEnds :
    ((windowEnd 1 9 true).power.part = .awake ∧ (windowEnd 1 9 true).amb.windowOpen = true ∧
      (windowEnd 1 9 true).amb.windowTimer ≤ 1 ∧ (windowEnd 1 9 true).amb.counter ≠ 0) ∧
    ((windowEnd 0 8 false).amb.counter = 0 ∧ (windowEnd 0 8 false).amb.staleCount < 9 ∧
      (windowEnd 0 8 false).amb.seeded = true ∧ counting.amb.seeded = false ∧ counting.amb.staleCount < 9) ∧
    ((windowEnd 0 9 false).amb.counter = 0 ∧ (windowEnd 0 9 false).amb.staleCount = 9) ∧
    (windowEnd 0 10 true).amb.counter = 0 ∧ (windowEnd 0 10 true).amb.stale = true := by decide

/-- A render of chain A in flight. -/
def rendering (p : Port) : State :=
  { chainA p with compA := { Comp.reset with render := some referenceSnapshot } }

theorem witness_PeriodStartActs :
    (enumerated.power.part = .awake ∧ (enumerated.port .a).state = .running ∧ (enumerated.port .a).periodTimer ≤ 1 ∧
      (enumerated.port .a).transfer = none ∧ (enumerated.port .a).waiting = [] ∧ enumerated.count .a ≠ 0 ∧
      (enumerated.comp .a).render = none) ∧
    (((rendering runningPort).port .a).state = .running ∧ ((rendering runningPort).port .a).periodTimer ≤ 1 ∧
      ((rendering runningPort).comp .a).render.isSome = true ∧ ((rendering runningPort).comp .a).lateMark = false ∧
      ((rendering runningPort).port .a).latchedSince = false) ∧
    ((rendering { runningPort with latchedSince := true, lastLatched := some oneFrame }).port .a).latchedSince = true ∧
      (rendering { runningPort with latchedSince := true, lastLatched := some oneFrame }).count .a ≠ 0 := by decide

/-- A snapshot of the state below has slot 3 and not the SUSPENDED slot 0; chain A's has its one node. -/
theorem witness_PeriodStartActs_snapshot :
    ((playing.snapshot .a).layers.map fun l => l.slot) = [3] ∧ (enumerated.dir.nodes .a)[0]? = some oneNode ∧
      (enumerated.snapshot .a).nodes.length = 1 ∧ ({ runningPort with sel := 6, period := 40 } : Port).effectivePeriod 0 =
        40 := by decide

theorem witness_RenderCompletes :
    ((rendering runningPort).power.part = .awake ∧ ((rendering runningPort).comp .a).render = some referenceSnapshot ∧
      ((rendering runningPort).comp .a).buffer = none ∧ ((rendering runningPort).port .a).shiftingDuty = false) ∧
    ((rendering { runningPort with pendingFrame := some oneFrame, transfer := some (.duty oneFrame .pending false) }).port
      .a).shiftingDuty = true := ⟨⟨rfl, rfl, rfl, rfl⟩, rfl⟩

/-- Chain A with a duty frame of one entry in its shift. -/
def shifting (latched broken : Bool) (failing correct : Nat) : State :=
  chainA { runningPort with
    pendingFrame := some oneFrame, failingRun := failing, correctRun := correct, loopBroken := broken
    transfer := some (.duty oneFrame .pending latched) }

/-- Chain A OFF behind its closing dark frame. -/
def darkening : State := chainA { Port.reset with transfer := some (.dark 1 false) }

theorem witness_LatchPointTakesEffect :
    ((shifting false false 0 0).power.part = .awake ∧
      ((shifting false false 0 0).port .a).transfer = some (.duty oneFrame .pending false) ∧
      oneFrame.entries.length = (shifting false false 0 0).count .a) ∧
    darkening.power.part = .awake ∧ (darkening.port .a).transfer = some (.dark 1 false) := by decide

/-- Chain A OFF behind the dark frame of a cancelled sleep. -/
def resuming (waiting : List Waiting) : State :=
  chainA { Port.reset with wakeMark := true, transfer := some (.dark 1 true), waiting := waiting }

theorem witness_ShiftEndJudges :
    (∀ s ∈ [shifting true false 0 0, shifting true false 2 0, shifting true true 3 0, shifting true true 3 2],
      s.power.part = .awake ∧ (s.port .a).transfer = some (.duty oneFrame .pending true) ∧ (s.port .a).waiting = [] ∧
        (s.comp .a).buffer = none ∧ (s.port .a).wakeMark = false) ∧
    (let s := chainA { Port.reset with transfer := some (.dark 1 true) }
     (s.port .a).transfer = some (.dark 1 true) ∧ (s.port .a).wakeMark = false ∧ (s.port .a).waiting = []) ∧
    (∀ s ∈ [resuming [], resuming [.identify]],
      s.power.part = .awake ∧ s.power.sleepPending = false ∧ (s.port .a).transfer = some (.dark 1 true) ∧
        (s.comp .a).buffer = none ∧ (s.port .a).wakeMark = true ∧ (s.port .a).state = .off) ∧
    ((resuming []).port .a).waiting = [] ∧ ((resuming [.identify]).port .a).waiting = [.identify] ∧
    ([oneNode][0]? = some oneNode ∧ ([0x09] : List Byte)[0]? = some 0x09) := by decide

/-- Chain A in the last clocks of a duty frame shift, with what waits for its end. -/
def shiftEnding (origin : Origin) (mark : Bool) (waiting : List Waiting) (buffer : Option Frame) : State :=
  { chainA { runningPort with
      lastLatched := some oneFrame, wakeMark := mark, transfer := some (.duty oneFrame origin true), waiting := waiting } with
    compA := { Comp.reset with render := buffer.map fun _ => referenceSnapshot, buffer := buffer } }

/-- A dark frame, a pass and either duty frame shift wait, with and without a finished frame; a sleep is pending, or was
cancelled with the dark frame still to come. -/
theorem witness_ShiftEndJudges_waits :
    (∀ w ∈ [[], [.dark], [.identify], [.duty false], [.duty true], [Waiting.dark, .identify]],
      ∀ b ∈ [none, some { oneFrame with scale := 4095 }],
        (shiftEnding .repeated false w b).power.part = .awake ∧
          ((shiftEnding .repeated false w b).port .a).transfer = some (.duty oneFrame .repeated true) ∧
          ((shiftEnding .repeated false w b).port .a).waiting = w ∧
          ((shiftEnding .repeated false w b).comp .a).buffer = b ∧
          ((shiftEnding .repeated false w b).port .a).wakeMark = false ∧
          ((shiftEnding .repeated false w b).port .a).lastLatched = some oneFrame ∧
          ((shiftEnding .repeated false w b).comp .a).scaleMark = false) ∧
    ((shiftEnding .detached true [.dark] none).port .a).transfer = some (.duty oneFrame .detached true) ∧
      Waiting.dark ∈ ((shiftEnding .detached true [.dark] none).port .a).waiting ∧
      ({ resuming [] with power := { (resuming []).power with sleepPending := true } } : State).power.sleepPending =
        true := by
  decide

/-- R80, R137: the end of a shift copies the finished frame, and the dark frame that waited begins. -/
theorem test_shift_end_copies :
    after (.shiftEnd .a [0x3C, 0xA5, 0x09]) (shiftEnding .pending false [.duty false] (some oneFrame)) (fun t =>
      decide (t.portA.transfer = some (.duty oneFrame .pending false)) && t.compA.render.isNone) = true ∧
    after (.shiftEnd .a [0x3C, 0xA5, 0x09]) (shiftEnding .detached false [.dark] none) (fun t =>
      decide (t.portA.transfer = some (.dark 1 false)) && decide (t.portA.waiting = [])) = true := by decide

/-- Chain A in its pass. -/
def passing (transfer : Option Transfer) (settle : Option Nat) : State :=
  chainA { Port.reset with state := .enumerating, transfer := transfer, settle := settle }

theorem witness_IdentifyPassRuns :
    ((passing (some .request) none).power.part = .awake ∧
      ((passing (some .request) none).port .a).transfer = some .request) ∧
    (((passing none (some 1)).port .a).transfer = none ∧ ((passing none (some 1)).port .a).settle = some 1) ∧
    ((passing (some .collect) none).port .a).transfer = some .collect ∧
      ((passing (some .collect) none).port .a).waiting = [] := by decide

/-- Answers without and with a block, as many as a pass takes. -/
theorem witness_IdentifyPassRuns_answers :
    ∀ w ∈ [(⟨List.replicate 8 0, none⟩ : NodeAnswer), ⟨[0, 0, 0, 0, 0, 0, 1, 0], some (List.replicate 16 0)⟩],
      (w.identity.length = 8 ∧
        if (w.identity.getD 6 0).getLsbD 0 = true then ∃ b, w.block = some b ∧ b.length = 16 else w.block = none) ∧
      (List.replicate 128 w).length = 128 ∧ (0 : Byte) ≠ 0x96 := by
  intro w hw
  simp only [List.mem_cons, List.not_mem_nil, or_false] at hw
  rcases hw with rfl | rfl
  · exact ⟨by decide, by decide, by decide⟩
  · exact ⟨⟨by decide, by rw [if_pos (by decide)]; exact ⟨_, rfl, by decide⟩⟩, by decide, by decide⟩

/-- Chain A RELEASED. -/
def foreign (active : Bool) (back : PortState) : State :=
  chainA { Port.reset with state := .released, foreignActive := active, returnState := back, quietTimer := 1 }

theorem witness_ForeignDriveReleases :
    (enumerated.power.part = .awake ∧ (enumerated.port .a).transfer = none ∧ (enumerated.port .a).state = .running) ∧
      (foreign true .off).power.part = .awake ∧ ((foreign true .off).port .a).foreignActive = true ∧
      ((foreign true .off).port .a).quietTimer ≤ 1 := by decide

/-- A pass in its settle, and an OFF port marked by a pending sleep. -/
theorem witness_ForeignDriveReleases_pass :
    ((passing none (some 2)).power.part = .awake ∧ ((passing none (some 2)).port .a).transfer = none ∧
      ((passing none (some 2)).port .a).state = .enumerating ∧ ((passing none (some 2)).port .a).waiting = []) ∧
    (chainA { Port.reset with wakeMark := true }).power.part = .awake ∧
      ((chainA { Port.reset with wakeMark := true }).port .a).state = .off ∧
      ((chainA { Port.reset with wakeMark := true }).port .a).transfer = none := by decide

/-- R143, R144: the notice of a pass that foreign drive abandons, with the one record held. -/
theorem test_foreign_abandons :
    after (.foreignActivity .a) (passing none (some 2)) (fun t =>
      decide (t.link.tx = some ⟨false, ⟨0x73, 0, [0, 1, 1]⟩⟩) && decide (t.portA.returnState = .running)) = true := by
  decide

/-- The receiver in a state, with frames in the buffer. -/
def receiving (r : Receiver) (fs : List LinkFrame) : State :=
  { started with link := { started.link with receiver := r, rxBuffer := fs } }

theorem witness_FrameIsReceived :
    (started.running = true ∧ started.link.receiver = .hunt ∧ started.link.rxBuffer.length < 2 ∧
      (List.replicate 240 (0 : Byte)).length ≤ Config.maxPayload) ∧
      2 ≤ (receiving .hunt [⟨0x01, 0, []⟩, ⟨0x02, 0, []⟩]).link.rxBuffer.length ∧
      (receiving .hunt [⟨0x01, 0, []⟩, ⟨0x02, 0, []⟩]).link.receiver = .hunt ∧
      (0 < 65536 ∧ 0 ≠ (crc16 (LinkFrame.mk 0x35 0x01 []).covered).toNat) ∧ 240 < (241 : Byte).toNat := by decide

theorem witness_LineFaults :
    (receiving (.header []) []).running = true ∧ (receiving (.header []) []).link.receiver ≠ .waitIdle ∧
      (receiving (.header []) []).link.receiver.inFrame = true ∧
      (receiving .waitIdle []).link.receiver = .waitIdle := by decide

/-- A frame in transmission, with what is behind it. -/
def transmitting (rs : List LinkFrame) (ns : List Notice) : State :=
  { started with link := { started.link with tx := some ⟨false, ⟨0x70, 0, [0, 0, 0, 0]⟩⟩, replies := rs, notices := ns } }

theorem witness_TransmitterChooses :
    (∀ s ∈ [transmitting [⟨0x81, 0, [0, 1]⟩] [], transmitting [] [.cue 3 0 .cut], transmitting [] []],
      s.running = true ∧ s.link.tx.isSome = true ∧ s.link.hold = .none ∧ s.link.txStopped = false) ∧
    (({ transmitting [] [] with link := (transmitting [] []).link.raise .egress } : State).link.newSet ≠ 0) ∧
      (transmitting [] []).link.newSet = 0 := by decide

/-- A reply in transmission under a hold, in a sleep that is pending or was cancelled, or in a restart. -/
def holding (hold : Hold) (pending : Bool) (rs : List LinkFrame) : State :=
  { started with
    power := { started.power with sleepPending := pending }
    link := { started.link with hold := hold, tx := some ⟨true, ⟨0xE3, 0, [0]⟩⟩, replies := rs } }

theorem witness_TransmitterChooses_hold :
    (∀ s ∈ [holding .restart false [], holding .sleep true [], holding .sleep false [],
        holding .sleep true [⟨0xE3, 0, [0]⟩]],
      s.running = true ∧ s.link.tx.isSome = true ∧ s.link.hold ≠ .none ∧ s.link.txStopped = false) ∧
    (holding .restart false []).link.hold = .restart ∧ (holding .sleep true []).power.sleepPending = true ∧
      (holding .sleep false []).link.hold = .sleep ∧ (holding .sleep false []).power.sleepPending = false := by decide

/-! ### Witnesses: requests -/

theorem witness_LinkChecksAnswer :
    (started.atDispatch ⟨0x70, 1, []⟩ = true ∧ started.atDispatch ⟨0x06, 1, []⟩ = true ∧
      namesRequest 0x06 = false ∧ namesRequest 0x6F = false) ∧
    (requestFrame? (.sleep 1 [0]) = some ⟨0x63, 1, [0]⟩ ∧ lengthAllowed 0x63 1 = false) ∧
    (∃ s : State, s.power.part = .starting ∧ s.atDispatch ⟨0x63, 1, []⟩ = true ∧ lengthAllowed 0x63 0 = true ∧
      (Instr.sleep 1 []).wellFormed = true) :=
  ⟨by decide, by decide, { State.reset with link := started.link }, by decide, by decide, by decide, by decide⟩

theorem witness_RefusalsChangeNothing :
    ((hush [0, 0] started).status ≠ .ok ∧ (hush [0, 0] started).status ≠ .accepted) ∧
    (let s := playing.setLayer alertSlot { Layer.reset 12 with state := .running, sceneId := 1, ringLength := 4 }
     let t := { s with library := [cabin, { cabin with id := 2 }] }
     (raiseAlert [0, 0] s).status = .invalid ∧ (raiseAlert [9, 0] s).status = .notFound ∧
      (raiseAlert [1, 0] s).status = .already ∧ (raiseAlert [2, 0] t).status = .busy ∧
      (raiseAlert [2, 0] { playing with library := [{ cabin with id := 2, base := 2 }] }).status = .overlap) := by decide

theorem witness_PingAnswers :
    (∀ s ∈ [started, { State.reset with link := started.link }],
      s.atDispatch ⟨0x01, 1, List.replicate 16 7⟩ = true ∧ s.atDispatch ⟨0x01, 1, List.replicate 17 7⟩ = true) := by
  decide

theorem witness_LinkRequestsAct :
    started.atDispatch ⟨0x02, 1, []⟩ = true ∧
      (started.ready ⟨0x03, 1, [1]⟩ = true ∧ boolCode? (byteAt [1] 0) = some true) ∧
      started.ready ⟨0x04, 1, [0xFF, 0xFF]⟩ = true ∧ started.ready ⟨0x05, 1, [0x80, 0]⟩ = true ∧
      started.ready ⟨0x03, 1, [2]⟩ = true ∧ 1 < byteAt [2] 0 := by decide

/-- 11.6: the offsets of GET STATUS on one state: part state, LIBRARY being written, flags SET, unsent replies with this
one, hush rounded up, the record count of chain A, the divisor of port A, last S of chain B. -/
theorem test_get_status :
    (let s : State :=
       { enumerated with
         store := { enumerated.store with op := .library [] }, link := enumerated.link.raise .storeInvalid
         arb := { enumerated.arb with hush := 1001 } }
     let d := statusData s
     d[0]? = some 1 ∧ d[9]? = some 1 ∧ d[10]? = some 2 ∧ d[11]? = some 0x80 ∧ d[12]? = some 0 ∧ d[18]? = some 1 ∧
       d[50]? = some 2 ∧ d[57]? = some 1 ∧ d[58]? = some 0 ∧ d[60]? = some 2 ∧ d[68]? = some 16 ∧ d[94]? = some 0x10 ∧
       d[101]? = some 0) := by decide

/-- The payloads hold the values that the rule's checks refuse, each at the edge of its range. -/
def refusedFor (s : State) (kind : Byte) (status : List Byte → Status) (st : Status) (ps : List (List Byte)) : Bool :=
  ps.all fun p => s.ready ⟨kind, 1, p⟩ && decide (status p = st)

/-- The request of the widest ring: 256 cues to the top of the pool, level 7 in slot 4. -/
def widest : List Byte := [4, 7, 1, 0x07, 0x00, 0x01, 0x00, 0, 255]

theorem witness_StartsBeginLayers :
    (FloorHolds playing ∧ playing.pool.wf = true) ∧
    (playing.ready ⟨0x10, 1, widest⟩ = true ∧ widest.length = 9 ∧ slotOf (byteAt widest 0) = some 4 ∧
      byteAt widest 1 ≤ 7 ∧ boolCode? (byteAt widest 2) = some true ∧ ringMode? (byteAt widest 7) = some .stream ∧
      wordAt widest 5 = 256 ∧ wordAt widest 3 + wordAt widest 5 = 2048 ∧ byteAt widest 8 < wordAt widest 5 ∧
      (playing.layer 4).state = .idle ∧
      (∀ j : Slot, (playing.layer j).conflicts (wordAt widest 3) (wordAt widest 5) .stream = false) ∧
      playing.arb.floor ≤ byteAt widest 1) ∧
    (playing.ready ⟨0x11, 1, [4, 1, 0xFF]⟩ = true ∧ slotOf 4 = some 4 ∧ findScene playing.library 1 = some cabin ∧
      ∀ j : Slot, (playing.layer j).conflicts cabin.base cabin.length .resident = false) ∧
    (playing.ready ⟨0x18, 1, [1, 1]⟩ = true ∧ (playing.layer alertSlot).state = .idle) ∧
    (let s := playing.setLayer alertSlot { Layer.reset 12 with state := .running, sceneId := 1, ringLength := 4 }
     s.ready ⟨0x18, 1, [1, 1]⟩ = true ∧ (s.layer alertSlot).state ≠ .idle ∧ (s.layer alertSlot).sceneId = 1) :=
  ⟨⟨⟨by decide, by decide, by decide, by decide, by decide⟩, by decide⟩, by decide, by decide, by decide, by decide⟩

/-- The state under CANCEL. -/
def cancelled (s : State) : State := { s with arb := { s.arb with policy := .cancel } }

/-- R10, R210: exclusive 2; slot 11; level 8 in slot 9, 7 and 15 in slot 10; length 0 and 257, the end at 2049, mode 2,
offset 1 of 1; then the other statuses. -/
theorem witness_StartsBeginLayers_refused :
    refusedFor playing 0x10 playing.startLayerStatus .invalid
      [[4, 7, 2, 0, 0, 0, 1, 1, 0], [11, 15, 0, 0, 0, 0, 1, 1, 0], [9, 8, 0, 0, 0, 0, 1, 1, 0],
        [10, 7, 0, 0, 0, 0, 1, 1, 0], [10, 15, 0, 0, 0, 0, 1, 1, 0], [4, 7, 0, 0, 0, 0, 0, 1, 0],
        [4, 7, 0, 0, 0, 1, 1, 1, 0], [4, 7, 0, 7, 0xFF, 0, 2, 1, 0], [4, 7, 0, 0, 0, 0, 1, 2, 0],
        [4, 7, 0, 0, 0, 0, 1, 1, 1]] = true ∧
    refusedFor playing 0x10 playing.startLayerStatus .busy [[3, 7, 0, 0, 0, 0, 1, 1, 0], [0, 7, 0, 0, 0, 0, 1, 1, 0]] =
      true ∧
    refusedFor playing 0x10 playing.startLayerStatus .overlap [[4, 7, 0, 0, 2, 0, 1, 1, 0], [4, 7, 0, 0, 13, 0, 1, 0, 0]] =
      true ∧
    refusedFor (cancelled playing) 0x10 (cancelled playing).startLayerStatus .belowFloor [[4, 5, 0, 1, 0, 0, 1, 1, 0]] =
      true ∧
    refusedFor playing 0x10 playing.startLayerStatus .ok [[4, 5, 0, 1, 0, 0, 1, 1, 0], [10, 8, 1, 1, 0, 1, 0, 0, 255]] =
      true := by decide

/-- R12 and R21. -/
theorem witness_StartsBeginLayers_scenes :
    (let t := { playing with library := [cabin, { cabin with id := 2, base := 2 }] }
     let r := t.setLayer alertSlot { Layer.reset 12 with state := .running, sceneId := 1, ringLength := 4 }
     refusedFor t 0x11 t.startSceneStatus .invalid [[10, 1, 3], [4, 0, 3], [4, 1, 8], [4, 1, 0xFE]] = true ∧
       refusedFor t 0x11 t.startSceneStatus .notFound [[4, 9, 3]] = true ∧
       refusedFor t 0x11 t.startSceneStatus .busy [[3, 1, 3]] = true ∧
       refusedFor t 0x11 t.startSceneStatus .overlap [[4, 2, 3]] = true ∧
       refusedFor (cancelled t) 0x11 (cancelled t).startSceneStatus .belowFloor [[4, 1, 5], [4, 1, 0xFF]] = true ∧
       refusedFor t 0x18 t.raiseAlertStatus .invalid [[0, 0], [1, 2]] = true ∧
       refusedFor t 0x18 t.raiseAlertStatus .notFound [[9, 0]] = true ∧
       refusedFor t 0x18 t.raiseAlertStatus .overlap [[2, 0]] = true ∧
       refusedFor r 0x18 r.raiseAlertStatus .busy [[2, 0]] = true ∧
       refusedFor r 0x18 r.raiseAlertStatus .already [[1, 0]] = true) := by decide

/-- An alert in play of the scene, with its latch. -/
def alerting : State :=
  playing.setLayer alertSlot
    { Layer.reset 12 with
      state := .running, ringBase := 10, ringLength := 4, cueIndex := 10, sceneId := 1, latch := true }

theorem witness_StopsEndLayers :
    (FloorHolds alerting ∧ alerting.pool.wf = true) ∧
    (alerting.ready ⟨0x12, 1, [3, 0]⟩ = true ∧ slotOf 3 = some 3 ∧ isScene 3 = true ∧ (alerting.layer 3).state ≠ .idle ∧
      (alerting.layer 3).ownsCue = true) ∧
    (alerting.ready ⟨0x19, 1, [10, 0]⟩ = true ∧ slotOf 10 = some alertSlot ∧ isScene alertSlot = false ∧
      (alerting.layer alertSlot).state ≠ .idle) ∧
    ((alerting.layer 9).state = .idle ∧ (alerting.layer 3).finishing = false ∧ slotOf 9 = some 9) ∧
    (slotOf 11 = some egressSlot ∧ egressed.arb.egressLevel = true ∧ egressed.ready ⟨0x19, 1, [11, 0]⟩ = true) ∧
    (∃ s : State, s.ready ⟨0x19, 1, [10, 1]⟩ = true ∧ (s.layer alertSlot).state = .idle ∧ (s.layer alertSlot).latch = true) ∧
    (started.layer alertSlot).state = .idle ∧ (started.layer alertSlot).latch = false :=
  ⟨⟨⟨by decide, by decide, by decide, by decide, by decide⟩, by decide⟩, by decide, by decide, by decide, by decide,
    ⟨started.setLayer alertSlot { Layer.reset 12 with latch := true }, by decide, by decide, by decide⟩, by decide, by decide⟩

/-- R13, R22: slot 10 and mode 2 of STOP LAYER, slot 9 and mode 2 of CLEAR ALERT. -/
theorem witness_StopsEndLayers_refused :
    refusedFor alerting 0x12 (fun p => if 9 < byteAt p 0 ∨ 1 < byteAt p 1 then .invalid else .ok) .invalid
        [[10, 0], [10, 1], [9, 2]] = true ∧
      refusedFor alerting 0x19 (fun p => if (byteAt p 0 ≠ 10 ∧ byteAt p 0 ≠ 11) ∨ 1 < byteAt p 1 then .invalid else .ok)
        .invalid [[9, 0], [12, 1], [11, 2]] = true := by decide

/-- R15, R18, R9: the values refused, and a level below the floor that another layer holds. -/
theorem witness_LevelsAndFactorsSet_refused :
    (let t := (cancelled playing).setLayer 5 { Layer.reset 7 with state := .running }
     refusedFor t 0x13 t.setLevelStatus .invalid [[11, 15], [9, 8], [10, 7], [10, 15]] = true ∧
       refusedFor t 0x13 t.setLevelStatus .belowFloor [[5, 5]] = true ∧
       refusedFor t 0x13 t.setLevelStatus .ok [[3, 1], [5, 6], [5, 0]] = true ∧
       refusedFor t 0x15 (fun p => if 1 < byteAt p 0 then .invalid else .ok) .invalid [[2, 0, 0]] = true ∧
       refusedFor t 0x17 (fun p => if 1 < byteAt p 0 then .invalid else .ok) .invalid [[2]] = true) := by decide

theorem witness_LevelsAndFactorsSet :
    FloorHolds playing ∧ playing.pool.wf = true ∧
    (playing.ready ⟨0x13, 1, [3, 0]⟩ = true ∧ (playing.layer 3).state ≠ .idle ∧ slotOf 3 = some 3) ∧
    (playing.ready ⟨0x13, 1, [10, 14]⟩ = true ∧ (playing.layer alertSlot).state = .idle ∧ slotOf 10 = some alertSlot) ∧
    (playing.ready ⟨0x15, 1, [1, 4, 0]⟩ = true ∧ boolCode? (byteAt [1, 4, 0] 0) = some true) ∧
    (playing.ready ⟨0x16, 1, [2, 0x58]⟩ = true ∧ wordAt [2, 0x58] 0 = 600 ∧ playing.arb.hush = 0) ∧
    playing.ready ⟨0x17, 1, [1]⟩ = true ∧ policy? (byteAt [1] 0) = some .cancel :=
  ⟨⟨by decide, by decide, by decide, by decide, by decide⟩, by decide, by decide, by decide, by decide, by decide,
    by decide, by decide⟩

/-- Eighteen empty records at the top of the pool. -/
def eighteen : List Byte := [0x07, 0xEE] ++ List.replicate 234 0

theorem witness_PoolAndLibraryWrites :
    (playing.pool.wf = true ∧ playing.ready ⟨0x20, 1, eighteen⟩ = true ∧ eighteen.length = 2 + 13 * 18 ∧
      wordAt eighteen 0 + 18 = 2048 ∧ (∀ k < 18, byteAt eighteen (2 + 13 * k) ≤ 5) ∧
      ∀ k < 18, playing.owned (wordAt eighteen 0 + k) = false) ∧
    (playing.ready ⟨0x21, 1, [0x07, 0xEE, 18]⟩ = true ∧ wordAt [0x07, 0xEE, 18] 0 + 18 = 2048) ∧
    (playing.ready ⟨0x22, 1, [255, 7, 0, 1, 0, 7, 1]⟩ = true ∧ wordAt [255, 7, 0, 1, 0, 7, 1] 3 = 256 ∧
      wordAt [255, 7, 0, 1, 0, 7, 1] 1 + 256 = 2048 ∧ boolCode? (byteAt [255, 7, 0, 1, 0, 7, 1] 6) = some true ∧
      playing.library.length < 32) ∧
    playing.ready ⟨0x22, 1, [1, 0, 0, 0, 0, 0, 0]⟩ = true ∧ wordAt [1, 0, 0, 0, 0, 0, 0] 3 = 0 ∧
      findScene playing.library 1 ≠ none ∧ findScene playing.library 2 = none := by decide

/-- A LOAD CUES payload of `n` zero bytes from a pool index on. -/
def loadAt (hi lo : Byte) (n : Nat) : List Byte := [hi, lo] ++ List.replicate n 0

/-- Thirty-two scenes. -/
def crowded : State := { started with library := (List.range 32).map fun k => ⟨k + 1, 0, 1, 0, false⟩ }

/-- R38 and R41, the checks at their edges. -/
theorem witness_PoolAndLibraryWrites_refused :
    refusedFor playing 0x20 playing.loadCuesStatus .length
        [[], loadAt 0 0 0, loadAt 0 0 12, loadAt 0 0 14, loadAt 0 0 235, loadAt 0 0 238] = true ∧
      refusedFor playing 0x20 playing.loadCuesStatus .invalid
        [loadAt 8 0 13, loadAt 7 0xFF 26, [0, 5, 6] ++ List.replicate 12 0] = true ∧
      refusedFor playing 0x20 playing.loadCuesStatus .busy [loadAt 0 0 13, loadAt 0 0 234] = true ∧
      refusedFor playing 0x20 playing.loadCuesStatus .ok [loadAt 0 1 13, loadAt 7 0xEE 234] = true ∧
      refusedFor playing 0x21 (fun p => if byteAt p 2 = 0 ∨ 18 < byteAt p 2 ∨ 2047 < wordAt p 0 ∨
          2048 < wordAt p 0 + byteAt p 2 then .invalid else .ok) .invalid
        [[0, 0, 0], [0, 0, 19], [8, 0, 1], [7, 0xFF, 2]] = true := by decide

/-- R46 and R47, the checks at their edges. -/
theorem witness_PoolAndLibraryWrites_scenes :
    refusedFor crowded 0x22 crowded.putSceneStatus .invalid
        [[0, 0, 0, 0, 1, 0, 0], [0, 0, 0, 0, 0, 0, 0], [1, 8, 0, 0, 1, 0, 0], [1, 0, 0, 1, 1, 0, 0], [1, 7, 0xFF, 0, 2, 0, 0],
          [1, 0, 0, 0, 1, 8, 0], [1, 0, 0, 0, 1, 0, 2]] = true ∧
      refusedFor crowded 0x22 crowded.putSceneStatus .busy [[33, 0, 0, 0, 1, 0, 0]] = true ∧
      refusedFor crowded 0x22 crowded.putSceneStatus .already [[33, 0, 0, 0, 0, 8, 2]] = true ∧
      refusedFor crowded 0x22 crowded.putSceneStatus .ok [[32, 7, 0xFF, 0, 1, 7, 1]] = true := by decide

theorem witness_TablesAreRead :
    LibraryHolds playing ∧
    (playing.ready ⟨0x23, 1, [1]⟩ = true ∧ findScene playing.library (byteAt [1] 0) = some cabin ∧
      playing.ready ⟨0x23, 1, [2]⟩ = true ∧ findScene playing.library (byteAt [2] 0) = none ∧
      playing.ready ⟨0x23, 1, [0]⟩ = true) ∧
    (playing.ready ⟨0x33, 1, [16]⟩ = true ∧ playing.ready ⟨0x33, 1, [15]⟩ = true ∧ byteAt [15] 0 = (15 : Fin 16).val) ∧
    playing.ready ⟨0x5A, 1, [24]⟩ = true ∧ playing.ready ⟨0x5A, 1, [23]⟩ = true ∧ byteAt [23] 0 = (23 : Fin 24).val :=
  ⟨⟨by decide, by decide, by unfold LibraryInBounds; decide⟩, by decide, by decide, by decide⟩

theorem witness_RecordsAreReported :
    (playing.ready ⟨0x14, 1, [11]⟩ = true ∧ slotOf (byteAt [11] 0) = some egressSlot ∧
      playing.ready ⟨0x14, 1, [12]⟩ = true ∧ 11 < byteAt [12] 0) ∧
    (enumerated.ready ⟨0x31, 1, [2, 0]⟩ = true ∧ chainCode? (byteAt [2, 0] 0) = none ∧
      enumerated.ready ⟨0x31, 1, [0, 128]⟩ = true ∧ 127 < byteAt [0, 128] 1) ∧
    (enumerated.ready ⟨0x31, 1, [0, 0]⟩ = true ∧ chainCode? (byteAt [0, 0] 0) = some .a ∧
      (enumerated.dir.nodes .a)[0]? = some oneNode) ∧
    (enumerated.ready ⟨0x31, 1, [0, 1]⟩ = true ∧ (enumerated.dir.nodes .a).length ≤ byteAt [0, 1] 1 ∧
      enumerated.ready ⟨0x31, 1, [1, 127]⟩ = true ∧ byteAt [1, 127] 1 = 127) ∧
    playing.ready ⟨0x52, 1, []⟩ = true := by decide

/-- PUT CATALOG of entry 15 with every current at 1000. -/
def topEntry : List Byte := [15, 1, 0, 1, 0, 2, 3, 0x80, 0, 0x80, 0, 0x80, 0, 0x03, 0xE8, 0x03, 0xE8, 0x03, 0xE8, 0]

theorem witness_TablesAreWritten :
    (started.ready ⟨0x32, 1, topEntry⟩ = true ∧ lockedUp.ready ⟨0x32, 1, topEntry⟩ = true ∧ topEntry.length = 20 ∧
      byteAt topEntry 0 < 16 ∧ boolCode? (byteAt topEntry 1) = some true ∧ boolCode? (byteAt topEntry 19) = some false ∧
      wordAt topEntry 13 = 1000 ∧ wordAt topEntry 15 = 1000 ∧ wordAt topEntry 17 = 1000) ∧
    (started.ready ⟨0x34, 1, [31, 1, 1, 127, 127, 9]⟩ = true ∧ lockedUp.ready ⟨0x34, 1, [31, 1, 1, 127, 127, 9]⟩ = true ∧
      chainCode? (byteAt [31, 1, 1, 127, 127, 9] 2) = some .b) ∧
    started.ready ⟨0x35, 1, []⟩ = true ∧ lockedUp.ready ⟨0x35, 1, []⟩ = true ∧ started.dir.locked = false := by decide

/-- R121 and R123, the checks at their edges, before the lock's. -/
theorem witness_TablesAreWritten_refused :
    refusedFor lockedUp 0x32 lockedUp.putCatalogStatus .invalid
        [topEntry.set 0 16, topEntry.set 1 2, topEntry.set 19 2, topEntry.set 14 0xE9, topEntry.set 18 0xE9] = true ∧
      refusedFor lockedUp 0x32 lockedUp.putCatalogStatus .locked [topEntry] = true ∧
      refusedFor started 0x32 started.putCatalogStatus .ok [topEntry] = true ∧
      refusedFor lockedUp 0x34 lockedUp.putSpanStatus .invalid
        [[32, 1, 0, 0, 0, 0], [0, 2, 0, 0, 0, 0], [0, 1, 2, 0, 0, 0], [0, 0, 0, 128, 128, 0], [0, 0, 0, 0, 128, 0],
          [0, 0, 0, 1, 0, 0]] = true ∧
      refusedFor lockedUp 0x34 lockedUp.putSpanStatus .locked [[31, 1, 1, 127, 127, 9]] = true := by decide

/-- A record of valid identity with a valid block, and a catalog whose entries 3 and 9 serve it for any bin. -/
def goodNode : Node := { oneNode with identityValid := true, block := .valid, blockGains := some (Rgb.all 9000) }
def serving : Catalog :=
  let e : CatalogEntry := { CatalogEntry.default with valid := true, supplier := goodNode.supplier, part := goodNode.part, bin := 255 }
  (started.dir.catalog.set 3 e).set 9 e

/-- A valid span of chain A over every position, at index 0. -/
def covering : Spans := started.dir.spans.set 0 { ZoneSpan.default with valid := true, chain := .a, first := 0, last := 127, zone := 7 }

theorem witness_TablesAreWritten_select :
    (goodNode.identityValid = true ∧ goodNode.block = .valid ∧ goodNode.blockGains = some (Rgb.all 9000)) ∧
    (serving[3].serves goodNode = true ∧ serving[3].overrideSelf = false ∧
      ∀ j : Fin 16, j < 3 → (serving[j]).serves goodNode = false) ∧
    (∀ i : Fin 16, (started.dir.catalog[i]).serves goodNode = false) ∧ ({ oneNode with identityValid := false } : Node).identityValid = false ∧
    (covering[0].covers .a 127 = true ∧ (∀ j : Fin 32, 0 < j → (covering[j]).covers .a 127 = false) ∧
      ∀ j : Fin 32, (covering[j]).covers .b 127 = false) := by decide

theorem witness_PortsObey :
    (∀ s ∈ [chainA Port.reset, enumerated, shifting false false 0 0, passing (some .request) none,
        passing (some .collect) none, passing none (some 1), foreign true .off, foreign false .off,
        foreign false .running],
      s.ready ⟨0x30, 1, [0]⟩ = true ∧ s.ready ⟨0x41, 1, [0, 0xFF, 0xFF]⟩ = true ∧ s.ready ⟨0x42, 1, [0, 1]⟩ = true ∧
        s.ready ⟨0x42, 1, [0, 0]⟩ = true ∧ s.ready ⟨0x43, 1, [0]⟩ = true ∧ (s.port .a).waiting = []) ∧
    chainCode? 0 = some .a ∧ ((chainA Port.reset).port .a).state = .off ∧ (enumerated.port .a).state = .running ∧
      ((passing (some .request) none).port .a).state = .enumerating ∧
      ((foreign true .off).port .a).state = .released := by decide

/-- R136, R135, R157, R200: a chain or state of 2, pre or sel of 8, mode 2, lock 2. -/
theorem witness_PortsObey_refused :
    started.ready ⟨0x30, 1, [2]⟩ = true ∧ started.ready ⟨0x41, 1, [2, 0, 0]⟩ = true ∧
      started.ready ⟨0x42, 1, [2, 1]⟩ = true ∧ started.ready ⟨0x42, 1, [0, 2]⟩ = true ∧
      started.ready ⟨0x43, 1, [2]⟩ = true ∧ 1 < byteAt [0, 2] 1 := by decide
theorem witness_TimingActsOnTransfers_refused :
    ∀ p ∈ [[2, 0, 0, 5], [0, 8, 0, 5], [0, 0, 8, 5]],
      started.ready ⟨0x40, 1, p⟩ = true ∧ p.length = 4 ∧ (1 < byteAt p 0 ∨ 7 < byteAt p 1 ∨ 7 < byteAt p 2) := by decide
theorem witness_AmbientRequestsAct_refused : started.ready ⟨0x51, 1, [2, 0, 0]⟩ = true ∧ 1 < byteAt [2, 0, 0] 0 := by decide
theorem witness_StoresAndRestartsRun_refused : started.ready ⟨0x60, 1, [0, 2]⟩ = true ∧ 1 < byteAt [0, 2] 1 := by decide

theorem witness_TimingActsOnTransfers :
    (∀ s ∈ [enumerated, shifting true false 0 0, darkening, passing (some .request) none, passing none (some 2)],
      s.ready ⟨0x40, 1, [0, 7, 7, 255]⟩ = true ∧ (s.port .a).waiting = []) ∧
    ((enumerated.port .a).transfer = none ∧ (enumerated.port .a).settle = none) ∧
    ((shifting true false 0 0).port .a).transfer = some (.duty oneFrame .pending true) ∧
      (darkening.port .a).transfer = some (.dark 1 false) ∧
      ((passing none (some 2)).port .a).state = .enumerating ∧ ((passing none (some 2)).port .a).settle ≠ none := by
  decide

/-- Chain A behind a transfer, with others waiting. -/
def behind (state : PortState) (transfer : Transfer) (waiting : List Waiting) : State :=
  chainA { Port.reset with state := state, transfer := some transfer, waiting := waiting }

theorem witness_TimingActsOnTransfers_waiting :
    (∀ ws ∈ [[.dark], [.dark, .identify], [Waiting.identify]],
      let s := behind .enumerating (.duty oneFrame .detached false) ws
      s.ready ⟨0x40, 1, [0, 7, 7, 255]⟩ = true ∧ (s.port .a).transfer = some (.duty oneFrame .detached false) ∧
        (s.comp .a).buffer = none ∧ (s.port .a).waiting = ws ∧ (s.port .a).wakeMark = false) ∧
    (let s := behind .enumerating (.dark 1 true) [.identify]
     s.ready ⟨0x40, 1, [0, 7, 7, 255]⟩ = true ∧ (s.port .a).transfer = some (.dark 1 true) ∧
       .identify ∈ (s.port .a).waiting) := by decide

/-- R143, last sentence: ENUMERATE during a shift, then SET CHAIN TIMING before the pass ends, gives the ABANDONED
notice; the new pass begins. -/
theorem test_set_timing_waiting_pass :
    after (.enumerate 0 [0]) (shifting false false 0 0) (fun s =>
      after (.setChainTiming 1 [0, 3, 1, 50]) s fun t =>
        t.link.notices == [.enumeration .a 1 .abandoned] && (t.port .a).transfer == some .request &&
          (t.port .a).abortedFrames == 1) = true := by decide

/-- SET CURVE with counts from 0 to 65535. -/
def wideCurve : List Byte := [0, 0, 0, 0, 0, 1, 0, 0, 0, 2, 0, 0, 0, 3, 4, 0, 0xFF, 0xFF, 0xFF, 0xFF]

theorem witness_AmbientRequestsAct :
    (started.ready ⟨0x50, 1, wideCurve⟩ = true ∧ wideCurve.length = 20 ∧
      (∀ k < 4, wordAt wideCurve (4 * k) < wordAt wideCurve (4 * (k + 1))) ∧
      started.ready ⟨0x50, 1, List.replicate 20 0⟩ = true ∧
      ¬∀ k < 4, wordAt (List.replicate 20 0) (4 * k) < wordAt (List.replicate 20 0) (4 * (k + 1))) ∧
    (started.ready ⟨0x51, 1, [1, 4, 1]⟩ = true ∧ started.ready ⟨0x51, 1, [0, 0, 0]⟩ = true ∧
      started.amb.overrideOn = false) ∧
    ({ started with amb := { started.amb with overrideOn := true } } : State).ready ⟨0x51, 1, [0, 0, 0]⟩ = true := by
  decide

theorem witness_ScanFindsFirstMatch :
    scan armed.triggers 0x12FF = some (1, sceneTrigger) ∧ scan armed.triggers 0x1300 = none := by decide

theorem witness_VehicleEventsAct :
    (armed.ready ⟨0x58, 1, [0x12, 0]⟩ = true ∧ scan armed.triggers (BitVec.ofNat 16 (wordAt [0x12, 0] 0)) = some (1, sceneTrigger) ∧
      armed.ready ⟨0x58, 1, [0x13, 0]⟩ = true ∧ scan armed.triggers (BitVec.ofNat 16 (wordAt [0x13, 0] 0)) = none) ∧
    armed.ready ⟨0x59, 1, 23 :: triggerToBytes sceneTrigger⟩ = true ∧ (23 :: triggerToBytes sceneTrigger).length = 14 ∧
      triggerOfBytes (triggerToBytes sceneTrigger) = some sceneTrigger := by decide

/-- PUT TRIGGER of entry 23 with an action, a slot, a scene id and a level. -/
def putEntry (action slot id level : Byte) : List Byte := [23, 1, 0, 0x12, 0, 0xFF, 0, action, slot, id, level, 0, 0, 1]

/-- R170, the checks at their edges. -/
theorem witness_VehicleEventsAct_refused :
    refusedFor started 0x59 putTriggerStatus .invalid
        [(putEntry 0 0 0 0).set 0 24, (putEntry 0 0 0 0).set 1 2, (putEntry 0 0 0 0).set 2 2, (putEntry 0 0 0 0).set 11 2,
          (putEntry 0 0 0 0).set 12 2, (putEntry 0 0 0 0).set 13 2, putEntry 5 0 0 0, putEntry 1 10 1 0, putEntry 1 9 0 0,
          putEntry 1 9 1 8, putEntry 2 10 0 0, putEntry 3 0 0 0, putEntry 4 9 0 0, putEntry 4 12 0 0] = true ∧
      refusedFor started 0x59 putTriggerStatus .ok
        [putEntry 0 255 0 9, putEntry 1 9 1 0xFF, putEntry 2 9 0 8, putEntry 3 99 1 8, putEntry 4 11 0 8] = true ∧
      byteAt (putEntry 4 11 0 8) 0 = (23 : Fin 24).val ∧ action? (byteAt (putEntry 4 11 0 8) 7) = some .clearAlert := by
  decide

theorem witness_TriggersActAsRequests :
    (PoolCanonical playing ∧ FloorHolds playing) ∧
    (let x := { sceneTrigger with replace := true, slot := 3 }
     x.action = .startScene ∧ x.replace = true ∧ slotOf x.slot = some 3 ∧ isScene 3 = true ∧
      findScene playing.library x.sceneId = some cabin ∧ (playing.layer 3).state ≠ .idle ∧
      (playing.layer 3).ownsCue = true ∧ (playing.layer 3).captured.notify = true ∧
      ∀ j : Slot, j ≠ 3 → (playing.layer j).conflicts cabin.base cabin.length .resident = false) ∧
    (sceneTrigger.replace = false ∧ sceneTrigger.slot ≤ 9 ∧ sceneTrigger.level ≤ 7) :=
  ⟨⟨by unfold PoolCanonical; decide, by decide, by decide, by decide, by decide, by decide⟩, by decide, by decide⟩

/-- A store of LIBRARY in progress. -/
def writing : State := { playing with store := { playing.store with op := .library [⟨cabin, List.replicate 4 Cue.empty⟩] } }

/-- Five scenes of 256 cues each. -/
def bulky : State := { started with library := (List.range 5).map fun k => ⟨k + 1, 256 * k, 256, 1, false⟩ }

/-- RESTART held, its reply sent. -/
def restarting : State := { playing with link := { playing.link with hold := .restart, replySent := true } }

theorem witness_StoresAndRestartsRun :
    (playing.ready ⟨0x60, 1, [255, 1]⟩ = true ∧ boolCode? (byteAt [255, 1] 1) = some true ∧ playing.store.op = .idle ∧
      (playing.library.map (·.length)).sum ≤ 1024 ∧ playing.ready ⟨0x61, 1, []⟩ = true ∧
      playing.ready ⟨0x62, 1, []⟩ = true) ∧
    (writing.ready ⟨0x60, 1, [255, 1]⟩ = true ∧ writing.ready ⟨0x61, 1, []⟩ = true ∧ writing.ready ⟨0x62, 1, []⟩ = true ∧
      writing.store.op ≠ .idle ∧ writing.power.part = .awake) ∧
    (bulky.ready ⟨0x61, 1, []⟩ = true ∧ bulky.store.op = .idle ∧ 1024 < (bulky.library.map (·.length)).sum) ∧
    restarting.power.part = .awake ∧ restarting.link.hold = .restart ∧ restarting.link.replySent = true := by decide

/-- The entry to DORMANT due, and DORMANT with chain A marked for the wake and the EGRESS line asserted. -/
def sleepy : State :=
  { enumerated with
    portA := Port.reset, power := { enumerated.power with sleepPending := true }
    link := { enumerated.link with hold := .sleep, replySent := true } }

def dormant : State :=
  { enumerated with
    portA := { Port.reset with wakeMark := true }, power := { enumerated.power with part := .dormant }
    arb := { enumerated.arb with egressLine := true } }

theorem witness_SleepsAndWakes :
    (enumerated.ready ⟨0x63, 1, []⟩ = true ∧ enumerated.pool.wf = true ∧ (enumerated.layer alertSlot).latch = false ∧
      (enumerated.layer egressSlot).latch = false ∧ enumerated.store.op = .idle ∧
      egressed.ready ⟨0x63, 1, []⟩ = true ∧ (egressed.layer egressSlot).latch = true ∧
      writing.ready ⟨0x63, 1, []⟩ = true) ∧
    (∀ c ∈ [Chain.a, Chain.b], ((enumerated.port c).state = .off ∨ (enumerated.port c).state = .running) ∧
      (enumerated.port c).transfer = none ∧ (enumerated.port c).waiting = []) ∧
    ((foreign true .off).ready ⟨0x63, 1, []⟩ = true ∧ (foreign true .off).pool.wf = true ∧
      ((foreign true .off).port .a).state = .released ∧ ((foreign true .off).port .a).transfer = none ∧
      ((foreign true .off).port .a).waiting = []) ∧
    (sleepy.power.part = .awake ∧ sleepy.power.sleepPending = true ∧ sleepy.link.hold = .sleep ∧
      sleepy.link.replySent = true ∧ ∀ c ∈ [Chain.a, Chain.b], (sleepy.port c).transfer = none ∧
        (sleepy.port c).waiting = [] ∧ (sleepy.port c).state ≠ .released) ∧
    dormant.power.part = .dormant ∧ dormant.arb.egressLine = true ∧ (dormant.port .a).wakeMark = true := by decide

/-- SLEEP finds chain A in a pass, in a pass that waits for a shift, in a shift, and OFF behind its dark frame. -/
theorem witness_SleepsAndWakes_ports :
    ∀ s ∈ [passing (some .request) none, passing none (some 1), shifting true false 0 0, darkening,
        chainA { Port.reset with
          state := .enumerating, transfer := some (.duty oneFrame .detached true), waiting := [.identify] }],
      s.ready ⟨0x63, 1, []⟩ = true ∧ s.pool.wf = true ∧ (s.layer alertSlot).latch = false ∧
        (s.layer egressSlot).latch = false ∧ s.store.op = .idle ∧ s.count .a ≠ 0 ∧ s.link.notices.length ≤ 2 ∧
        (∀ i : Slot, (s.layer i).state = .idle) ∧ (s.port .b).state = .off := by decide

/-- The entry to DORMANT with chain A released while the sleep was pending. -/
theorem witness_SleepsAndWakes_released :
    (let s : State := { sleepy with portA := { Port.reset with state := .released, foreignActive := true } }
     s.power.part = .awake ∧ s.power.sleepPending = true ∧ s.link.hold = .sleep ∧ s.link.replySent = true ∧
       (s.port .a).state = .released ∧ (s.port .a).transfer = none ∧ (s.port .a).waiting = [] ∧
       (s.port .b).transfer = none ∧ (s.port .b).waiting = []) := by decide

/-- R146, R143: SLEEP in a pass: the dark frame with the one record held, the mark, and the notice. -/
theorem test_sleep_in_pass :
    after (.sleep 1 []) (passing (some .request) none) (fun t =>
      decide (t.portA.transfer = some (.dark 1 false)) && t.portA.wakeMark && decide (t.portA.state = .off) &&
        decide (t.link.notices = [.enumeration .a 1 .abandoned])) = true := by decide

end Sys2Proof.Tests
end

/-! # Proofs: the Layer Arbiter and its neighbours

The rules that the settled statements of spec/01 share: a step and its command, the floor, ends and starts, one handling
of a layer, and the dispatch of a request. -/

namespace Sys2Proof.Machine

/-! ### Steps and commands -/

/-- What a command leaves satisfies `P`, when it answers a next state. -/
def Leaves (r : Result) (P : State → Prop) : Prop := ∀ t, r = .next t → P t

@[simp] theorem leaves_next {t : State} {P : State → Prop} : Leaves (.next t) P ↔ P t :=
  ⟨fun h => h t rfl, fun h _ e => Host.Outcome.next.inj e ▸ h⟩

/-- A law that does not read the queue and that every command keeps is kept by every step. -/
theorem step_keeps {P : State → Prop} (queue : ∀ s rest, P s → P { s with pending := rest })
    (command : ∀ c s, P s → Leaves (exec c s) P) : ∀ s t : State, P s → step s = .next t → P t := by
  intro s t hs h
  unfold step at h
  split at h
  · exact Host.Outcome.next.inj h ▸ hs
  · exact command _ _ (queue _ _ hs) t h

/-! ### The highest level of the exclusive layers (R6) -/

theorem highestLevel_le_iff {s : State} {counts : Slot → Layer → Bool} {n : Nat} :
    highestLevel s.arb.layers counts ≤ n ↔
      ∀ i : Slot, (s.layer i).exclusive = true → counts i (s.layer i) = true → (s.layer i).level ≤ n := by
  have fold : ∀ slots : List Slot,
      slots.foldr (fun i m => if (s.layer i).exclusive && counts i (s.layer i) then max (s.layer i).level m else m) 0 ≤ n ↔
        ∀ i ∈ slots, (s.layer i).exclusive = true → counts i (s.layer i) = true → (s.layer i).level ≤ n := by
    intro slots
    induction slots with
    | nil => simp
    | cons i slots ih =>
      rw [List.foldr_cons, List.forall_mem_cons, ← ih]
      split <;> simp_all
  exact (fold (List.finRange 12)).trans (by simp)

theorem le_highestLevel {s : State} {counts : Slot → Layer → Bool} {i : Slot} (he : (s.layer i).exclusive = true)
    (hc : counts i (s.layer i) = true) : (s.layer i).level ≤ highestLevel s.arb.layers counts :=
  highestLevel_le_iff.mp (Nat.le_refl _) i he hc

/-- The highest level is 0 or the level of a layer that counts. -/
theorem highestLevel_attained (s : State) (counts : Slot → Layer → Bool) :
    highestLevel s.arb.layers counts = 0 ∨
      ∃ i : Slot, (s.layer i).exclusive = true ∧ counts i (s.layer i) = true ∧
        (s.layer i).level = highestLevel s.arb.layers counts := by
  have fold : ∀ slots : List Slot,
      let m := slots.foldr
        (fun i m => if (s.layer i).exclusive && counts i (s.layer i) then max (s.layer i).level m else m) 0
      m = 0 ∨ ∃ i : Slot, (s.layer i).exclusive = true ∧ counts i (s.layer i) = true ∧ (s.layer i).level = m := by
    intro slots
    induction slots with
    | nil => exact .inl rfl
    | cons i slots ih =>
      simp only [List.foldr_cons]
      split
      · rename_i h
        rw [Bool.and_eq_true] at h
        rcases Nat.le_total (s.layer i).level (slots.foldr
          (fun i m => if (s.layer i).exclusive && counts i (s.layer i) then max (s.layer i).level m else m) 0)
          with le | le
        · rw [Nat.max_eq_right le]; exact ih
        · rw [Nat.max_eq_left le]; exact .inr ⟨i, h.1, h.2, rfl⟩
      · exact ih
  exact fold _

/-- Levels of layers that do not count do not matter to the highest level. -/
theorem highestLevel_congr {s t : State} {counts counts' : Slot → Layer → Bool}
    (h : ∀ i : Slot,
      ((t.layer i).exclusive = true ∧ counts' i (t.layer i) = true ↔
        (s.layer i).exclusive = true ∧ counts i (s.layer i) = true) ∧
      ((s.layer i).exclusive = true → counts i (s.layer i) = true → (t.layer i).level = (s.layer i).level)) :
    highestLevel t.arb.layers counts' = highestLevel s.arb.layers counts := by
  refine eq_of_forall_ge_iff fun n => ?_
  rw [highestLevel_le_iff, highestLevel_le_iff]
  refine forall_congr' fun i => ?_
  obtain ⟨same, level⟩ := h i
  constructor
  · intro hi he hc
    exact level he hc ▸ hi (same.mpr ⟨he, hc⟩).1 (same.mpr ⟨he, hc⟩).2
  · intro hi he hc
    obtain ⟨he', hc'⟩ := same.mp ⟨he, hc⟩
    exact level he' hc' ▸ hi he' hc'

/-- Without a layer that counts the highest level is 0. -/
theorem highestLevel_eq_zero {s : State} {counts : Slot → Layer → Bool} (h : ∀ i : Slot, counts i (s.layer i) = false) :
    highestLevel s.arb.layers counts = 0 :=
  Nat.le_zero.mp (highestLevel_le_iff.mpr fun i _ hc => absurd hc (by simp [h i]))

/-! ### Layer states -/

@[simp] theorem LayerState.playing_eq_false {k : LayerState} :
    k.playing = false ↔ k = .idle ∨ k = .suspended ∨ k = .parked := by cases k <;> simp [LayerState.playing]

theorem LayerState.playing_iff {k : LayerState} : k.playing = true ↔ k = .running ∨ k = .starved := by
  cases k <;> simp [LayerState.playing]

theorem LayerState.ne_of_playing {k : LayerState} (h : k.playing = true) :
    k ≠ .idle ∧ k ≠ .suspended ∧ k ≠ .parked := by cases k <;> simp_all [LayerState.playing]

/-! ### What a floor makes of a layer (R7, R8) -/

/-- The layer states that count for a floor evaluation: those in play and, under RESUME, SUSPENDED (R7, R8). -/
def LayerState.counted (k : LayerState) (policy : Policy) : Bool :=
  k.playing || (decide (policy = .resume) && decide (k = .suspended))

section
variable (l : Layer) (policy : Policy) (floor : Nat) (i : Slot)

@[simp] theorem Layer.underFloor_level : (l.underFloor policy floor i).level = l.level := by
  unfold Layer.underFloor; cases policy <;> (dsimp only; split_ifs <;> rfl)

@[simp] theorem Layer.underFloor_exclusive : (l.underFloor policy floor i).exclusive = l.exclusive := by
  unfold Layer.underFloor; cases policy <;> (dsimp only; split_ifs <;> rfl)

/-- Slots 10 and 11 are not touched by a floor. -/
theorem Layer.underFloor_nonScene (h : isScene i = false) : l.underFloor policy floor i = l := by
  simp [Layer.underFloor, h]

/-- A layer that is IDLE or PARKED is not touched by a floor. -/
theorem Layer.underFloor_resting (h : l.state = .idle ∨ l.state = .parked) : l.underFloor policy floor i = l := by
  unfold Layer.underFloor
  cases policy <;> rcases h with h | h <;> simp [h, LayerState.playing]

variable {l policy floor i}

/-- A layer that a floor leaves in play counted for it. -/
theorem Layer.counted_of_underFloor_playing (h : (l.underFloor policy floor i).state.playing = true) :
    l.state.counted policy = true := by
  unfold Layer.underFloor at h
  cases policy <;> dsimp only at h <;> split_ifs at h <;>
    simp_all [LayerState.counted, LayerState.playing, Layer.toIdle]

/-- A counted layer at or above the floor is in play under it. -/
theorem Layer.underFloor_playing (hc : l.state.counted policy = true) (hl : floor ≤ l.level)
    (hs : isScene i = false → l.state ≠ .suspended) : (l.underFloor policy floor i).state.playing = true := by
  have low : ¬ l.level < floor := by omega
  cases hi : isScene i
  · rw [Layer.underFloor_nonScene _ _ _ _ hi]
    simpa [LayerState.counted, hs hi] using hc
  · unfold Layer.underFloor
    cases policy
    · by_cases h : l.state = .suspended
      · simp [hi, h, hl, LayerState.playing]
      · simpa [hi, h, low, LayerState.counted] using hc
    · simpa [hi, low, LayerState.counted] using hc

/-- A scene layer in play under a floor is not below it. -/
theorem Layer.floor_le_of_underFloor_playing (hi : isScene i = true)
    (h : (l.underFloor policy floor i).state.playing = true) : floor ≤ l.level := by
  unfold Layer.underFloor at h
  cases policy <;> simp only [hi] at h <;> split_ifs at h <;>
    simp_all [LayerState.playing, Layer.toIdle]

/-- Under CANCEL no floor suspends a layer (R8). -/
theorem Layer.underFloor_cancel_ne_suspended (h : l.state ≠ .suspended) :
    (l.underFloor .cancel floor i).state ≠ .suspended := by
  unfold Layer.underFloor
  dsimp only
  split_ifs <;> simp_all [Layer.toIdle]

end

/-! ### One floor evaluation (R6, R7, R8) -/

section
variable (s : State)

@[simp] theorem State.evalFloor_pending : s.evalFloor.pending = s.pending := by simp only [s.evalFloor_frame]
@[simp] theorem State.evalFloor_power : s.evalFloor.power = s.power := by simp only [s.evalFloor_frame]
@[simp] theorem State.evalFloor_library : s.evalFloor.library = s.library := by simp only [s.evalFloor_frame]
@[simp] theorem State.evalFloor_compA : s.evalFloor.compA = s.compA := by simp only [s.evalFloor_frame]
@[simp] theorem State.evalFloor_compB : s.evalFloor.compB = s.compB := by simp only [s.evalFloor_frame]
@[simp] theorem State.evalFloor_dir : s.evalFloor.dir = s.dir := by simp only [s.evalFloor_frame]
@[simp] theorem State.evalFloor_portA : s.evalFloor.portA = s.portA := by simp only [s.evalFloor_frame]
@[simp] theorem State.evalFloor_portB : s.evalFloor.portB = s.portB := by simp only [s.evalFloor_frame]
@[simp] theorem State.evalFloor_amb : s.evalFloor.amb = s.amb := by simp only [s.evalFloor_frame]
@[simp] theorem State.evalFloor_triggers : s.evalFloor.triggers = s.triggers := by simp only [s.evalFloor_frame]
@[simp] theorem State.evalFloor_store : s.evalFloor.store = s.store := by simp only [s.evalFloor_frame]
@[simp] theorem State.evalFloor_policy : s.evalFloor.arb.policy = s.arb.policy := by simp only [s.evalFloor_arb]
@[simp] theorem State.evalFloor_master : s.evalFloor.arb.master = s.arb.master := by simp only [s.evalFloor_arb]
@[simp] theorem State.evalFloor_u : s.evalFloor.arb.u = s.arb.u := by simp only [s.evalFloor_arb]
@[simp] theorem State.evalFloor_hush : s.evalFloor.arb.hush = s.arb.hush := by simp only [s.evalFloor_arb]
@[simp] theorem State.evalFloor_egressLine : s.evalFloor.arb.egressLine = s.arb.egressLine := by simp only [s.evalFloor_arb]
@[simp] theorem State.evalFloor_egressLevel : s.evalFloor.arb.egressLevel = s.arb.egressLevel :=
  by simp only [s.evalFloor_arb]
@[simp] theorem State.evalFloor_egressTimer : s.evalFloor.arb.egressTimer = s.arb.egressTimer :=
  by simp only [s.evalFloor_arb]

/-- The floor that an evaluation takes: suspended layers count under RESUME (R7), and not under CANCEL (R8). -/
theorem State.evalFloor_floor :
    s.evalFloor.arb.floor = highestLevel s.arb.layers fun _ l => l.state.counted s.arb.policy := by
  unfold State.evalFloor LayerState.counted
  split <;> simp_all

/-- Every slot holds what the new floor makes of its record (R7, R8). -/
theorem State.evalFloor_layer (i : Slot) :
    s.evalFloor.layer i = (s.layer i).underFloor s.arb.policy s.evalFloor.arb.floor i := by
  rw [s.evalFloor_floor]
  cases h : s.arb.policy with
  | resume =>
    simp only [State.evalFloor, h, State.layer, Layer.underFloor, LayerState.counted, Fin.getElem_fin,
      Vector.getElem_ofFn]
    cases isScene i <;> simp
  | cancel =>
    simp only [State.evalFloor, h, State.layer, State.queueOpen_arb]
    have ended := s.endLayers_layer (fun i l => isScene i && l.state.playing &&
      decide (l.level < highestLevel s.arb.layers fun _ l => l.state.playing)) .cut i
    simp only [State.layer] at ended
    rw [ended]
    cases hi : isScene i
    · simp [Layer.underFloor, hi]
    · by_cases hl : (s.arb.layers[i]).level < highestLevel s.arb.layers fun _ l => l.state.playing <;>
        simp [Layer.underFloor, LayerState.counted, hi, -Fin.getElem_fin, hl]

end

/-- The state is one that R3, R8 and R2 let slot `i` have, whatever the floor: slots 10 and 11 are never SUSPENDED or
PARKED, under CANCEL no layer is SUSPENDED, and until the part is AWAKE every layer is IDLE. -/
def LayerState.fits (k : LayerState) (policy : Policy) (part : PartState) (i : Slot) : Prop :=
  (isScene i = false → k ≠ .suspended ∧ k ≠ .parked) ∧ (policy = .cancel → k ≠ .suspended) ∧
    (part = .starting ∨ part = .unpowered → k = .idle)

/-- Every slot's state fits it. -/
def StatesFit (s : State) : Prop := ∀ i : Slot, (s.layer i).state.fits s.arb.policy s.power.part i

theorem LayerState.fits_idle (policy : Policy) (part : PartState) (i : Slot) :
    LayerState.idle.fits policy part i := by simp [LayerState.fits]

theorem LayerState.fits_of_playing {k : LayerState} (h : k.playing = true) (policy : Policy) (i : Slot) :
    k.fits policy .awake i := by
  obtain ⟨-, suspended, parked⟩ := k.ne_of_playing h
  exact ⟨fun _ => ⟨suspended, parked⟩, fun _ => suspended, by simp⟩

/-- Until the part is AWAKE every layer is IDLE (R2). -/
theorem FloorHolds.idle_of_starting {s : State} (h : FloorHolds s) (starting : s.power.part = .starting) (i : Slot) :
    (s.layer i).state = .idle := by
  obtain ⟨-, -, -, -, idle⟩ := h
  exact idle (.inl starting) i

theorem FloorHolds.statesFit {s : State} (h : FloorHolds s) : StatesFit s := fun i =>
  let ⟨_, _, nonScene, cancel, idle⟩ := h
  ⟨nonScene i, fun hc => cancel hc i, fun hp => idle hp i⟩

/-- Slots 10 and 11 are never SUSPENDED (R3). -/
def UpperFits (s : State) : Prop := ∀ i : Slot, isScene i = false → (s.layer i).state ≠ .suspended

theorem StatesFit.upper {s : State} (h : StatesFit s) : UpperFits s := fun i hi => ((h i).1 hi).1

/-- The floor evaluation ends with the floor at the highest level in play (R6 to R8). -/
theorem State.evalFloor_settled {s : State} (h : UpperFits s) : s.evalFloor.settledFrom s.arb.policy s.layer := by
  refine ⟨Nat.le_antisymm ?_ (highestLevel_le_iff.mpr fun i he hp => ?_), s.evalFloor_layer⟩
  · rcases highestLevel_attained s fun _ l => l.state.counted s.arb.policy with e | ⟨i, he, hc, e⟩
    · rw [s.evalFloor_floor, e]; exact Nat.zero_le _
    · -- the layer that holds the floor is in play after the evaluation
      rw [← s.evalFloor_floor] at e
      rw [← e, ← Layer.underFloor_level (s.layer i) s.arb.policy s.evalFloor.arb.floor i, ← s.evalFloor_layer i]
      refine le_highestLevel (counts := fun _ l => l.state.playing) ?_ ?_ <;> rw [s.evalFloor_layer i]
      · simpa using he
      · exact Layer.underFloor_playing hc (Nat.le_of_eq e.symm) (h i)
  · -- a layer in play after the evaluation counted for it
    rw [s.evalFloor_layer i] at he hp ⊢
    rw [Layer.underFloor_level, s.evalFloor_floor]
    exact le_highestLevel (counts := fun _ l => l.state.counted s.arb.policy) (by simpa using he)
      (Layer.counted_of_underFloor_playing hp)

/-- Fitting states under a settled floor meet the law of the floor. -/
theorem State.evalFloor_floorHolds {s : State} (h : StatesFit s) : FloorHolds s.evalFloor := by
  refine ⟨(State.evalFloor_settled h.upper).1, fun i hi hp => ?_, fun i hi => ?_, fun hc i => ?_, fun hp i => ?_⟩ <;>
    obtain ⟨nonScene, cancel, idle⟩ := h i <;> rw [s.evalFloor_layer i] at *
  · rw [Layer.underFloor_level]
    exact Layer.floor_le_of_underFloor_playing hi hp
  · rw [Layer.underFloor_nonScene _ _ _ _ hi]
    exact nonScene hi
  · rw [State.evalFloor_policy] at hc
    rw [hc]
    exact Layer.underFloor_cancel_ne_suspended (cancel hc)
  · rw [State.evalFloor_power] at hp
    rw [Layer.underFloor_resting _ _ _ _ (.inl (idle hp))]
    exact idle hp

/-! ### Writes of single layers -/

theorem State.setLayer_layer (s : State) (i j : Slot) (l : Layer) :
    (s.setLayer i l).layer j = if j = i then l else s.layer j := by
  split
  · subst j; exact s.setLayer_layer_same i l
  · exact s.setLayer_layer_other l (Ne.symm ‹_›)

/-- The second of two writes to one slot stands. -/
@[simp] theorem State.setLayer_setLayer (s : State) (i : Slot) (l k : Layer) :
    (s.setLayer i l).setLayer i k = s.setLayer i k := by
  simp [State.setLayer]

/-- Writing the record that stands there changes nothing. -/
@[simp] theorem State.setLayer_self (s : State) (i : Slot) : s.setLayer i (s.layer i) = s := by
  simp [State.setLayer, State.layer]

/-- Two states with the same Arbiter hold the same layer records. -/
theorem State.layer_congr {s t : State} (h : t.arb = s.arb) (i : Slot) : t.layer i = s.layer i := by
  simp only [State.layer, h]

/-- A state with the Arbiter and the part state of a fitting state fits. -/
theorem StatesFit.congr {s t : State} (h : StatesFit s) (ha : t.arb = s.arb) (hp : t.power.part = s.power.part) :
    StatesFit t := fun i => by rw [State.layer_congr ha, ha, hp]; exact h i

theorem StatesFit.setLayer {s : State} {i : Slot} {l : Layer} (h : StatesFit s)
    (hl : l.state.fits s.arb.policy s.power.part i) : StatesFit (s.setLayer i l) := fun j => by
  rw [State.setLayer_layer]
  split
  · subst j; exact hl
  · exact h j

theorem StatesFit.endLayers {s : State} (h : StatesFit s) (p : Slot → Layer → Bool) (r : EndReason) :
    StatesFit (s.endLayers p r).1 := fun j => by
  rw [State.endLayers_layer]
  split
  · exact LayerState.fits_idle _ _ _
  · exact h j

/-- A state with the Arbiter and the part state of a lawful state is lawful. -/
theorem FloorHolds.congr {s t : State} (h : FloorHolds s) (ha : t.arb = s.arb) (hp : t.power.part = s.power.part) :
    FloorHolds t := by
  simpa only [FloorHolds, State.layer, ha, hp] using h

/-- The layer `l'` counts for the floor as `l` does: both in play, or in the same state, and in play at one level with
one exclusive flag. -/
def Layer.standsLike (l' l : Layer) : Prop :=
  (l'.state = l.state ∨ (l'.state.playing = true ∧ l.state.playing = true)) ∧
    (l.state.playing = true → l'.exclusive = l.exclusive ∧ l'.level = l.level)

theorem Layer.standsLike_refl (l : Layer) : l.standsLike l := ⟨.inl rfl, fun _ => ⟨rfl, rfl⟩⟩

/-- The law of the floor reads no more of a layer than how it stands. -/
theorem FloorHolds.of_standsLike {s t : State} (h : FloorHolds s) (floor : t.arb.floor = s.arb.floor)
    (policy : t.arb.policy = s.arb.policy) (part : t.power.part = s.power.part)
    (layers : ∀ i, (t.layer i).standsLike (s.layer i)) : FloorHolds t := by
  obtain ⟨highest, above, nonScene, cancel, idle⟩ := h
  have playing : ∀ i, (t.layer i).state.playing = (s.layer i).state.playing := fun i => by
    rcases (layers i).1 with e | ⟨ht, hs⟩
    · rw [e]
    · rw [ht, hs]
  have keeps : ∀ i k, k.playing = false → (s.layer i).state ≠ k → (t.layer i).state ≠ k := fun i k hk hs ht => by
    rcases (layers i).1 with e | ⟨hp, -⟩
    · exact hs (e ▸ ht)
    · rw [ht, hk] at hp; cases hp
  refine ⟨?_, fun i hi hp => ?_, fun i hi => ?_, fun hc i => ?_, fun hp i => ?_⟩
  · rw [floor, highest]
    refine (highestLevel_congr fun i => ⟨?_, fun _ hp => ((layers i).2 hp).2⟩).symm
    rw [playing i]
    exact and_congr_left fun hp => by rw [((layers i).2 hp).1]
  · rw [playing i] at hp
    rw [floor, ((layers i).2 hp).2]
    exact above i hi hp
  · exact ⟨keeps i _ rfl (nonScene i hi).1, keeps i _ rfl (nonScene i hi).2⟩
  · exact keeps i _ rfl (cancel (policy ▸ hc) i)
  · rcases (layers i).1 with e | ⟨-, hs⟩
    · rw [e]; exact idle (part ▸ hp) i
    · rw [idle (part ▸ hp) i] at hs; cases hs

theorem FloorHolds.setLayer {s : State} {i : Slot} {l : Layer} (h : FloorHolds s) (hl : l.standsLike (s.layer i)) :
    FloorHolds (s.setLayer i l) :=
  h.of_standsLike rfl rfl rfl fun j => by
    rw [State.setLayer_layer]
    split
    · subst j; exact hl
    · exact Layer.standsLike_refl _

/-- With every layer IDLE the floor is 0 (R2, R6). -/
theorem FloorHolds.of_idle {s : State} (h : ∀ i, (s.layer i).state = .idle) (hf : s.arb.floor = 0) : FloorHolds s := by
  refine ⟨?_, fun i _ hp => ?_, fun i _ => ?_, fun _ i => ?_, fun _ => h⟩
  · rw [hf, highestLevel_eq_zero fun i => by rw [h i]; rfl]
  · rw [h i] at hp; cases hp
  · rw [h i]; simp
  · rw [h i]; simp

end Sys2Proof.Machine

namespace Sys2Proof.Machine

/-! ### One handling of a layer (R50, R51) -/

/-- What a handling leaves of a layer record: everything but the state, the cursor, the cue in play, the drawn values and
the loop stack. -/
def Layer.setup (l : Layer) : Layer :=
  { l with state := .idle, cueIndex := 0, cueBegun := false, elapsed := 0, captured := Captured.zero,
           sweepActive := false, colour := Rgb.all 0, opacity := 0, selector := ⟨0, 0⟩, loopStack := [],
           loopOverflow := false, stepCount := 0 }

/-- Only the loop stack and its overflow mark change when a LOOP is taken. -/
theorem Layer.takeLoop_layer (l : Layer) (c : Cue) :
    (l.takeLoop c).1 = { l with loopStack := (l.takeLoop c).1.loopStack, loopOverflow := (l.takeLoop c).1.loopOverflow } := by
  unfold Layer.takeLoop
  dsimp only
  split
  · split <;> rfl
  · split
    · rfl
    · rfl
    · rfl
    · split <;> rfl

theorem Layer.takeLoop_setup (l : Layer) (c : Cue) : (l.takeLoop c).1.setup = l.setup := by
  rw [l.takeLoop_layer c]; rfl

theorem Layer.takeLoop_state (l : Layer) (c : Cue) : (l.takeLoop c).1.state = l.state := by
  rw [l.takeLoop_layer c]

/-- A property of handlings in slot `i` that survives every change of the layer record that keeps its setup and keeps it
in play, every handing back of a cue, and the flag of a starved layer. -/
structure Play.Law (i : Slot) (Q : Play → Prop) : Prop where
  layer : ∀ e l, l.setup = e.layer.setup → (e.layer.state.playing = true → l.state.playing = true) → Q e →
    Q { e with layer := l }
  handBack : ∀ e, Q e → Q (e.handBack i)
  starved : ∀ e, Q e → Q { e with link := e.link.raise .layerStarved }

namespace Play.Law

variable {i : Slot} {Q : Play → Prop} (law : Play.Law i Q)
include law

theorem onLayer {e : Play} {f : Layer → Layer} (hs : (f e.layer).setup = e.layer.setup)
    (hp : e.layer.state.playing = true → (f e.layer).state.playing = true) (h : Q e) : Q (e.onLayer f) :=
  law.layer e _ hs hp h

theorem complete {e : Play} (h : Q e) (next : Nat) : Q (e.complete i next) :=
  law.layer (e.handBack i) (e.layer.moveTo next) rfl id (law.handBack e h)

theorem starve {e : Play} (h : Q e) : Q e.starve := by
  have flagged : Q { e with link := if e.layer.state = .starved then e.link else e.link.raise .layerStarved } := by
    split
    · exact h
    · exact law.starved e h
  exact law.layer { e with link := if e.layer.state = .starved then e.link else e.link.raise .layerStarved }
    { e.layer with state := .starved, cueBegun := false, elapsed := 0, sweepActive := false } rfl (fun _ => rfl) flagged

theorem takeCue {e : Play} (h : Q e) (c : Cue) : Q (e.takeCue i c).1 := by
  have begun : Q (e.onLayer fun l => if l.zeroStep i c then (l.beginCue c).countStep else l.beginCue c) := by
    refine law.onLayer ?_ (fun _ => ?_) h <;> split <;> rfl
  unfold Play.takeCue
  revert begun
  generalize e.onLayer (fun l => if l.zeroStep i c then (l.beginCue c).countStep else l.beginCue c) = b
  intro begun
  cases c.kind with
  | set => exact law.complete (law.onLayer (f := Layer.show) rfl id begun) _
  | fade =>
    dsimp only
    split
    · exact law.complete (law.onLayer (f := Layer.show) rfl id begun) _
    · exact law.onLayer (f := Layer.select) rfl id begun
  | hold =>
    dsimp only
    split
    · exact law.complete (law.onLayer (f := Layer.select) rfl id begun) _
    · exact law.onLayer (f := Layer.select) rfl id begun
  | sweep =>
    have selected := law.onLayer (f := Layer.select) rfl id begun
    dsimp only
    split
    · exact law.complete (law.onLayer (f := Layer.endSweep) rfl id selected) _
    · exact law.onLayer (f := fun l => { l with sweepActive := true }) rfl id selected
  | loop =>
    refine law.complete (law.layer b (b.layer.takeLoop c).1 (Layer.takeLoop_setup _ _) ?_ begun) _
    rw [Layer.takeLoop_state]
    exact id
  | end_ =>
    dsimp only
    split
    · exact law.complete (law.onLayer (f := fun l => { l with loopStack := [] }) rfl id begun) _
    · exact law.handBack b begun

theorem due (fuel : Nat) {e : Play} (h : Q e) : Q (Play.due i fuel e).1 := by
  induction fuel generalizing e with
  | zero => exact h
  | succ fuel ih =>
    have taken := law.takeCue h e.cue
    unfold Play.due
    dsimp only
    split
    · exact law.starve h
    · split
      · exact h
      · split
        · rename_i done
          rw [done] at taken
          exact ih taken
        · exact taken

theorem advance {e : Play} (h : Q e) : Q (e.advance i).1 := by
  have moved : Q (e.onLayer fun l =>
      match l.captured.kind with
      | .fade => l.fadeAt (e.layer.elapsed + 1)
      | _ => { l with elapsed := e.layer.elapsed + 1 }) := by
    refine law.onLayer ?_ (fun hp => ?_) h
    · split <;> rfl
    · split <;> exact hp
  unfold Play.advance
  dsimp only
  split
  · exact moved
  · refine law.due _ (law.complete (law.onLayer ?_ (fun hp => ?_) moved) _)
    · split <;> rfl
    · split <;> exact hp

theorem handle {e : Play} (h : Q e) : Q (e.handle i).1 := by
  have reset : Q (e.onLayer fun l => { l with stepCount := 0 }) := law.onLayer rfl id h
  unfold Play.handle
  dsimp only
  split
  · exact law.due _ reset
  · split
    · exact law.advance reset
    · split
      · exact law.due _ (law.complete reset _)
      · exact law.onLayer (f := fun l => { l with elapsed := countUp l.elapsed }) rfl id reset

end Play.Law

/-- The fields that a handling leaves. -/
theorem Layer.fields_of_setup {l k : Layer} (h : l.setup = k.setup) :
    l.level = k.level ∧ l.exclusive = k.exclusive ∧ l.sceneId = k.sceneId ∧ l.ringBase = k.ringBase ∧
      l.ringLength = k.ringLength ∧ l.ringMode = k.ringMode ∧ l.fallback = k.fallback ∧ l.latch = k.latch := by
  simp only [Layer.setup, Layer.mk.injEq] at h
  simp [h]

/-- A handling keeps the setup of its layer, and leaves it in play. -/
theorem Play.handle_layer (e : Play) (i : Slot) (h : e.layer.state.playing = true) :
    (e.handle i).1.layer.setup = e.layer.setup ∧ (e.handle i).1.layer.state.playing = true := by
  have law : Play.Law i fun d => d.layer.setup = e.layer.setup ∧ d.layer.state.playing = true :=
    { layer := fun _ _ hs hp hd => ⟨hs.trans hd.1, hp hd.2⟩, handBack := fun _ => id, starved := fun _ => id }
  exact law.handle ⟨rfl, h⟩

/-- A handling of a RESIDENT ring, or of the fallback ring, writes no record of the pool (R34). -/
theorem Play.handle_pool (e : Play) (i : Slot) (h : e.layer.streams = false) : (e.handle i).1.pool = e.pool := by
  have law : Play.Law i fun d => d.layer.streams = false ∧ d.pool = e.pool :=
    { layer := fun d l hs _ hd => by
        have streams : l.setup.streams = d.layer.setup.streams := congrArg Layer.streams hs
        exact ⟨streams.trans hd.1, hd.2⟩
      handBack := fun d hd => ⟨hd.1, by simpa [Play.handBack, hd.1] using hd.2⟩
      starved := fun _ => id }
  exact (law.handle (e := e) ⟨h, rfl⟩).2

/-- A handling does no more to the link than raise flags and queue notices. -/
theorem Play.handle_link {P : Link → Prop} (raise : ∀ l f, P l → P (l.raise f)) (queue : ∀ l n, P l → P (l.queue n))
    (e : Play) (i : Slot) (h : P e.link) : P (e.handle i).1.link := by
  have law : Play.Law i fun d => P d.link :=
    { layer := fun _ _ _ _ => id
      handBack := fun d hd => by
        unfold Play.handBack
        dsimp only
        split
        · exact queue _ _ hd
        · exact hd
      starved := fun _ => raise _ _ }
  exact law.handle h

/-! ### The handling of a slot and what the Arbiter makes of it -/

/-- The state as a handling of slot `i` leaves it, before the Arbiter has its say. -/
def State.played (s : State) (i : Slot) : State :=
  let e := (Play.handle ⟨s.layer i, s.pool, s.link⟩ i).1
  { s.setLayer i e.layer with pool := e.pool, link := e.link }

@[simp] theorem State.played_power (s : State) (i : Slot) : (s.played i).power = s.power := rfl
@[simp] theorem State.played_pending (s : State) (i : Slot) : (s.played i).pending = s.pending := rfl
@[simp] theorem State.played_library (s : State) (i : Slot) : (s.played i).library = s.library := rfl
@[simp] theorem State.played_compA (s : State) (i : Slot) : (s.played i).compA = s.compA := rfl
@[simp] theorem State.played_compB (s : State) (i : Slot) : (s.played i).compB = s.compB := rfl
@[simp] theorem State.played_dir (s : State) (i : Slot) : (s.played i).dir = s.dir := rfl
@[simp] theorem State.played_portA (s : State) (i : Slot) : (s.played i).portA = s.portA := rfl
@[simp] theorem State.played_portB (s : State) (i : Slot) : (s.played i).portB = s.portB := rfl
@[simp] theorem State.played_amb (s : State) (i : Slot) : (s.played i).amb = s.amb := rfl
@[simp] theorem State.played_triggers (s : State) (i : Slot) : (s.played i).triggers = s.triggers := rfl
@[simp] theorem State.played_store (s : State) (i : Slot) : (s.played i).store = s.store := rfl

/-- A slot in play is in play after its handling, with its setup kept. -/
theorem State.played_layer_same (s : State) (i : Slot) (h : (s.layer i).state.playing = true) :
    ((s.played i).layer i).setup = (s.layer i).setup ∧ ((s.played i).layer i).state.playing = true := by
  rw [show (s.played i).layer i = (Play.handle ⟨s.layer i, s.pool, s.link⟩ i).1.layer from
    State.setLayer_layer_same _ _ _]
  exact Play.handle_layer ⟨s.layer i, s.pool, s.link⟩ i h

theorem State.played_layer_other (s : State) {i j : Slot} (h : j ≠ i) : (s.played i).layer j = s.layer j :=
  State.setLayer_layer_other _ _ h.symm

@[simp] theorem State.played_floor (s : State) (i : Slot) : (s.played i).arb.floor = s.arb.floor := rfl
@[simp] theorem State.played_policy (s : State) (i : Slot) : (s.played i).arb.policy = s.arb.policy := rfl

/-- A latched slot 11 that ran away plays the fallback ring, its end reason kept (R26, R69). -/
def Layer.relit (l : Layer) : Layer :=
  { (l.toIdle egressSlot .runaway).started fallbackRing .running with endReason := .runaway }

/-- A slot that is not in play is not handled; one in play is left as its handling leaves it, or is ended COMPLETED or
RUNAWAY under a floor evaluation, where a latched slot 11 that ran away plays the fallback ring (R26, R62, R69). -/
theorem State.handleSlot_cases (s : State) (i : Slot) :
    ((s.layer i).state.playing = false ∧ s.handleSlot i = s) ∨
      ((s.layer i).state.playing = true ∧
        (s.handleSlot i = s.played i ∨
          s.handleSlot i = ((s.played i).setLayer i (((s.played i).layer i).toIdle i .completed)).evalFloor ∨
          s.handleSlot i =
            (((s.played i).raise .layerRunaway).setLayer i (((s.played i).layer i).toIdle i .runaway)).evalFloor ∨
          (i = egressSlot ∧ ((s.played i).layer i).latch = true ∧
            s.handleSlot i =
              (((s.played i).raise .layerRunaway).setLayer i ((s.played i).layer i).relit).evalFloor))) := by
  cases playing : (s.layer i).state.playing with
  | false => exact .inl ⟨rfl, by simp [State.handleSlot, playing]⟩
  | true =>
    refine .inr ⟨rfl, ?_⟩
    have record : (s.played i).layer i = (Play.handle ⟨s.layer i, s.pool, s.link⟩ i).1.layer :=
      State.setLayer_layer_same _ _ _
    rw [record]
    unfold State.handleSlot State.played
    rw [if_pos playing]
    rcases Play.handle ⟨s.layer i, s.pool, s.link⟩ i with ⟨e, flow⟩
    cases flow with
    | again => exact .inl rfl
    | rests => exact .inl rfl
    | completed => exact .inr (.inl rfl)
    | runaway =>
      dsimp only
      by_cases restarts : (decide (i = egressSlot) && e.layer.latch) = true
      · rw [if_pos restarts, State.setLayer_layer_same, State.setLayer_setLayer]
        obtain ⟨rfl, latch⟩ : i = egressSlot ∧ e.layer.latch = true := by simpa using restarts
        exact .inr (.inr (.inr ⟨rfl, latch, rfl⟩))
      · rw [if_neg restarts]
        exact .inr (.inr (.inl rfl))

end Sys2Proof.Machine

namespace Sys2Proof.Machine

/-! ### The dispatch of a request (R180, R181) -/

/-- What a request's dispatch leaves meets a law that does not read the link, when the owner's answer meets it. The
owner answers in AWAKE, and in STARTING for PING and GET STATUS alone. -/
theorem State.serve_keeps {P : State → Prop} (link : ∀ s l, P s → P { s with link := l }) {f : LinkFrame} {mine : Bool}
    {owner : State → Answer}
    (answer : ∀ s, s.power.part = .awake ∨ servedInStarting f.kind = true → P s → P (owner s).state) {s : State}
    (h : P s) : P (s.serve f mine owner) := by
  rcases s.serve_cases f mine owner with e | ⟨-, dispatched, e⟩ <;> rw [e]
  · exact h
  · have taken : P s.takeFrame := link _ _ h
    refine link _ _ (link _ _ ?_)
    rcases linkChecked_cases f owner s.takeFrame with ⟨e, -⟩ | ⟨e, -⟩ | ⟨e, -, starting⟩ <;> rw [e]
    · exact taken
    · exact taken
    · refine answer _ ?_ taken
      simp only [State.atDispatch, State.dispatching, State.running, Bool.and_eq_true, Bool.or_eq_true,
        decide_eq_true_eq] at dispatched
      rcases dispatched.1.1.1 with hs | ha
      · exact .inr (starting hs)
      · exact .inl ha

/-- The rule of `State.serve_keeps` for a request that is answered BUSY in STARTING. -/
theorem State.serve_keeps_awake {P : State → Prop} (link : ∀ s l, P s → P { s with link := l }) {f : LinkFrame}
    {mine : Bool} {owner : State → Answer} (hk : servedInStarting f.kind = false)
    (answer : ∀ s, s.power.part = .awake → P s → P (owner s).state) {s : State} (h : P s) :
    P (s.serve f mine owner) :=
  State.serve_keeps link (fun s hs => answer s (hs.resolve_right (by simp [hk]))) h

/-! ### Refusals -/

/-- The answer refuses: neither OK nor ACCEPTED, with the state as it was and no data. -/
def Answer.Refuses (a : Answer) (s : State) : Prop :=
  a.status ≠ .ok ∧ a.status ≠ .accepted ∧ a.state = s ∧ a.data = []

@[simp] theorem Answer.plain_state (s : State) (k : Status) : (Answer.plain s k).state = s := rfl
@[simp] theorem Answer.plain_status (s : State) (k : Status) : (Answer.plain s k).status = k := rfl
@[simp] theorem Answer.plain_data (s : State) (k : Status) : (Answer.plain s k).data = [] := rfl

theorem Answer.plain_refuses {s : State} {k : Status} (ok : k ≠ .ok) (accepted : k ≠ .accepted) :
    (Answer.plain s k).Refuses s := ⟨ok, accepted, rfl, rfl⟩

@[simp] theorem Answer.plain_refuses_iff {s : State} {k : Status} :
    (Answer.plain s k).Refuses s ↔ k ≠ .ok ∧ k ≠ .accepted :=
  ⟨fun h => ⟨h.1, h.2.1⟩, fun h => Answer.plain_refuses h.1 h.2⟩

/-! ### What the Arbiter's owners can answer -/

/-- START LAYER starts the ring it names in an IDLE slot other than 11, at a level of the slot's kind, where no ring
overlaps and the floor lets it; or it refuses (R10). -/
theorem startLayer_cases (p : List Byte) (s : State) :
    (startLayer p s).Refuses s ∨
      ∃ exclusive i r, boolCode? (byteAt p 2) = some exclusive ∧ slotOf (byteAt p 0) = some i ∧ i ≠ egressSlot ∧
        levelFits i (byteAt p 1) = true ∧ startFields p exclusive = some r ∧ (s.layer i).state = .idle ∧
        s.overlaps (fun _ => true) r.base r.length r.mode = false ∧ s.belowFloor i r.level s.arb.floor = false ∧
        startLayer p s = .plain (s.startRing i r) .ok := by
  unfold startLayer
  split
  · rename_i exclusive i hexclusive hi
    split
    · simp
    · split
      · simp
      · split
        · simp
        · rename_i hne hfits _ r hr
          split
          · simp
          · split
            · simp
            · split
              · simp
              · exact .inr ⟨exclusive, i, r, hexclusive, hi, hne, by simpa using hfits, hr, by simp_all, by simp_all,
                  by simp_all, rfl⟩
  · simp

/-- The level and the ring that START LAYER names. -/
theorem startFields_some {p : List Byte} {exclusive : Bool} {r : RingStart} (h : startFields p exclusive = some r) :
    ∃ mode, ringMode? (byteAt p 7) = some mode ∧ 1 ≤ wordAt p 5 ∧ wordAt p 5 ≤ Config.maxRing ∧
      wordAt p 3 + wordAt p 5 ≤ Config.poolSize ∧ byteAt p 8 < wordAt p 5 ∧
      r = { level := byteAt p 1, exclusive := exclusive, sceneId := 0, base := wordAt p 3, length := wordAt p 5,
            mode := mode, offset := byteAt p 8, fallback := false } := by
  unfold startFields at h
  cases hm : ringMode? (byteAt p 7) with
  | none => simp [hm] at h
  | some mode =>
    simp only [hm, Option.bind_some] at h
    split at h
    · cases h
    · rename_i bounds
      push Not at bounds
      obtain ⟨hz, hmax, hpool, hoff⟩ := bounds
      exact ⟨mode, rfl, Nat.one_le_iff_ne_zero.mpr hz, hmax, hpool, hoff, (Option.some.inj h).symm⟩

/-- START SCENE starts a scene of the library in an IDLE scene slot, at the level it asks for, where no ring overlaps and
the floor lets it; or it refuses (R12). -/
theorem startScene_cases (p : List Byte) (s : State) :
    (startScene p s).Refuses s ∨
      ∃ i c, slotOf (byteAt p 0) = some i ∧ isScene i = true ∧ (byteAt p 2 ≤ 7 ∨ byteAt p 2 = levelDefault) ∧
        findScene s.library (byteAt p 1) = some c ∧ (s.layer i).state = .idle ∧
        s.overlaps (fun _ => true) c.base c.length .resident = false ∧
        s.belowFloor i (c.resolve (byteAt p 2)) s.arb.floor = false ∧
        startScene p s = .plain (s.startRing i (c.ring (c.resolve (byteAt p 2)) c.exclusive)) .ok := by
  unfold startScene
  split
  · simp
  · rename_i i hi
    split
    · simp
    · split
      · simp
      · split
        · simp
        · split
          · simp
          · rename_i hscene _ hlevel _ c hc
            dsimp only
            split
            · simp
            · split
              · simp
              · split
                · simp
                · exact .inr ⟨i, c, hi, by simpa using hscene, by omega, hc, by simp_all, by simp_all, by simp_all, rfl⟩

/-- STOP LAYER marks a scene layer in play finishing, or ends it; or it refuses (R13, R14). -/
theorem stopLayer_cases (p : List Byte) (s : State) :
    (stopLayer p s).Refuses s ∨
      ∃ i, slotOf (byteAt p 0) = some i ∧ isScene i = true ∧ (s.layer i).state ≠ .idle ∧
        ((endMode? (byteAt p 1) = some true ∧ (s.layer i).finishing = false ∧ stopLayer p s = .plain (s.finish i) .ok) ∨
          (endMode? (byteAt p 1) = some false ∧ stopLayer p s = .plain (s.stopSlot i .stopped) .ok)) := by
  unfold stopLayer State.stopAtEnd State.stopNow
  split
  · rename_i i atEnd hi hmode
    split
    · simp
    · rename_i hscene
      split
      · split
        · simp
        · rename_i hend hplays
          push Not at hplays
          exact .inr ⟨i, hi, by simpa using hscene, hplays.1,
            .inl ⟨by simpa [hend] using hmode, by simpa using hplays.2, rfl⟩⟩
      · split
        · simp
        · rename_i hend hplays
          exact .inr ⟨i, hi, by simpa using hscene, hplays, .inr ⟨by simpa [hend] using hmode, rfl⟩⟩
  · simp

/-- SET LEVEL writes a level of the slot's kind, with a floor evaluation where the slot is not IDLE; or it refuses
(R15). -/
theorem setLevel_cases (p : List Byte) (s : State) :
    (setLevel p s).Refuses s ∨
      ∃ i, slotOf (byteAt p 0) = some i ∧ i ≠ egressSlot ∧ levelFits i (byteAt p 1) = true ∧
        (((s.layer i).state = .idle ∧
            setLevel p s = .plain (s.setLayer i ((s.layer i).withLevel i (byteAt p 1))) .ok) ∨
          ((s.layer i).state ≠ .idle ∧ s.belowFloor i (byteAt p 1) (s.floorWithout i) = false ∧
            setLevel p s = .plain (s.setLayer i ((s.layer i).withLevel i (byteAt p 1))).evalFloor .ok)) := by
  unfold setLevel
  dsimp only
  split
  · simp
  · rename_i i hi
    split
    · simp
    · rename_i hne
      split
      · simp
      · rename_i hfits
        have fits : levelFits i (byteAt p 1) = true := by simpa using hfits
        split
        · exact .inr ⟨i, hi, hne, fits, .inl ⟨‹_›, rfl⟩⟩
        · split
          · simp
          · exact .inr ⟨i, hi, hne, fits, .inr ⟨‹_›, by simp_all, rfl⟩⟩

/-- SET MASTER writes the switch and U, at most 1024; or it refuses (R18). -/
theorem setMaster_cases (p : List Byte) (s : State) :
    (setMaster p s).Refuses s ∨
      ∃ on, boolCode? (byteAt p 0) = some on ∧
        setMaster p s = ⟨{ s with arb := { s.arb with master := on, u := min (wordAt p 1) Config.one } }, .ok,
          be16 (min (wordAt p 1) Config.one)⟩ := by
  unfold setMaster
  split
  · exact .inr ⟨_, ‹_›, rfl⟩
  · simp

/-- HUSH writes the countdown, at most 600 s; or it refuses (R19). -/
theorem hush_cases (p : List Byte) (s : State) :
    (hush p s).Refuses s ∨
      ((wordAt p 0 ≠ 0 ∨ s.arb.hush ≠ 0) ∧
        hush p s = ⟨{ s with arb := { s.arb with hush := min (wordAt p 0) Config.maxHush * 1000 } }, .ok,
          be16 (min (wordAt p 0) Config.maxHush)⟩) := by
  unfold hush
  dsimp only
  split
  · simp
  · rename_i active
    refine .inr ⟨?_, rfl⟩
    simp only [Config.maxHush] at active
    omega

/-- The state with another policy (R9). -/
def State.withPolicy (s : State) (k : Policy) : State := { s with arb := { s.arb with policy := k } }

/-- SET POLICY replaces the policy, cuts what a change to CANCEL cuts, and evaluates the floor; or it refuses (R9). -/
theorem setPolicy_cases (p : List Byte) (s : State) :
    (setPolicy p s).Refuses s ∨
      ∃ k, policy? (byteAt p 0) = some k ∧
        setPolicy p s =
          .plain (if k = .cancel then (s.withPolicy k).cutSuspended else s.withPolicy k).evalFloor .ok := by
  unfold setPolicy
  split
  · exact .inr ⟨_, ‹_›, rfl⟩
  · simp

/-- RAISE ALERT starts the scene in an IDLE slot 10 with its latch set, or re-arms the scene in play with ALREADY; or it
refuses (R21). -/
theorem State.raiseAlert_cases (s : State) (id : Nat) (exclusive : Bool) :
    (s.raiseAlert id exclusive).Refuses s ∨
      (∃ c, findScene s.library id = some c ∧ (s.layer alertSlot).state ≠ .idle ∧ (s.layer alertSlot).sceneId = id ∧
        s.raiseAlert id exclusive =
          .plain (s.setLayer alertSlot { s.layer alertSlot with latch := true, finishing := false }) .already) ∨
      ∃ c, findScene s.library id = some c ∧ (s.layer alertSlot).state = .idle ∧
        s.overlaps (fun _ => true) c.base c.length .resident = false ∧
        s.raiseAlert id exclusive =
          .plain ((s.setLayer alertSlot { s.layer alertSlot with latch := true }).startRing alertSlot
            (c.ring (s.layer alertSlot).level exclusive)) .ok := by
  unfold State.raiseAlert
  dsimp only
  split
  · simp
  · rename_i c hc
    split
    · split
      · exact .inr (.inl ⟨c, hc, ‹_›, ‹_›, rfl⟩)
      · simp
    · split
      · simp
      · exact .inr (.inr ⟨c, hc, by simp_all, by simp_all, rfl⟩)

/-- CLEAR ALERT clears the latch, and marks a layer in play finishing or ends it; or it refuses (R22). -/
theorem State.clearAlert_cases (s : State) (i : Slot) (atEnd : Bool) :
    (s.clearAlert i atEnd).Refuses s ∨
      (¬(i = egressSlot ∧ s.arb.egressLevel = true) ∧
        (((s.layer i).state = .idle ∧ (s.layer i).latch = true ∧
            s.clearAlert i atEnd = .plain (s.setLayer i { s.layer i with latch := false }) .ok) ∨
          ((s.layer i).state ≠ .idle ∧ atEnd = true ∧
            s.clearAlert i atEnd = .plain (s.setLayer i { s.layer i with latch := false, finishing := true }) .ok) ∨
          ((s.layer i).state ≠ .idle ∧ atEnd = false ∧
            s.clearAlert i atEnd =
              .plain ((s.setLayer i { s.layer i with latch := false }).stopSlot i .stopped) .ok))) := by
  unfold State.clearAlert
  dsimp only
  split
  · simp
  · rename_i line
    split
    · simp
    · rename_i latched
      refine .inr ⟨line, ?_⟩
      split
      · exact .inl ⟨‹_›, by simp_all, rfl⟩
      · split
        · refine .inr (.inl ⟨‹_›, ‹_›, ?_⟩)
          simp [State.finish]
        · exact .inr (.inr ⟨‹_›, by simp_all, rfl⟩)

/-- RAISE ALERT of a scene id and an exclusive flag acts by R21; or it refuses. -/
theorem raiseAlert_cases (p : List Byte) (s : State) :
    (raiseAlert p s).Refuses s ∨
      ∃ exclusive, boolCode? (byteAt p 1) = some exclusive ∧ byteAt p 0 ≠ 0 ∧
        raiseAlert p s = s.raiseAlert (byteAt p 0) exclusive := by
  unfold raiseAlert
  split
  · split
    · simp
    · exact .inr ⟨_, ‹_›, ‹_›, rfl⟩
  · simp

/-- CLEAR ALERT of slot 10 or 11 in one of its modes acts by R22; or it refuses. -/
theorem clearAlert_cases (p : List Byte) (s : State) :
    (clearAlert p s).Refuses s ∨
      ∃ i atEnd, slotOf (byteAt p 0) = some i ∧ endMode? (byteAt p 1) = some atEnd ∧ isScene i = false ∧
        clearAlert p s = s.clearAlert i atEnd := by
  unfold clearAlert
  split
  · split
    · simp
    · exact .inr ⟨_, _, ‹_›, ‹_›, by simp_all, rfl⟩
  · simp

/-- SLEEP puts the part to sleep; or it refuses (R205). -/
theorem sleep_cases (s : State) : (sleep s).Refuses s ∨
    ((s.layer alertSlot).latch = false ∧ (s.layer egressSlot).latch = false ∧ s.store.op = .idle ∧
      sleep s = .plain s.fallAsleep .ok) := by
  unfold sleep
  split
  · simp
  · split
    · simp
    · exact .inr (by simp_all)

/-! ### What the owners of pool, library and triggers can answer -/

/-- LOAD CUES writes its records from its pool index on; or it refuses (R38, R39). -/
theorem loadCues_cases (p : List Byte) (s : State) :
    (loadCues p s).Refuses s ∨
      ∃ n cues, recordCount? p = some n ∧ wordAt p 0 + n ≤ Config.poolSize ∧ cuesOf (recordBytes p n) = some cues ∧
        (∀ k < n, s.owned (wordAt p 0 + k) = false) ∧
        loadCues p s = .plain { s with pool := s.pool.writeAll (wordAt p 0) cues } .ok := by
  unfold loadCues
  split
  · simp
  · rename_i n hn
    dsimp only
    split
    · simp
    · rename_i bounds
      split
      · simp
      · rename_i cues hcues
        split
        · simp
        · rename_i owned
          exact .inr ⟨n, cues, hn, by omega, hcues, by simpa using owned, rfl⟩

/-- PUT SCENE removes a record, or adds or replaces one within its bounds; or it refuses (R46, R47). -/
theorem putScene_cases (p : List Byte) (s : State) :
    (putScene p s).Refuses s ∨
      (wordAt p 3 = 0 ∧ (findScene s.library (byteAt p 0)).isSome = true ∧
        putScene p s = .plain { s with library := s.library.filter (·.id ≠ byteAt p 0) } .ok) ∨
      ∃ c : Scene, c.id = byteAt p 0 ∧ c.id ≠ 0 ∧ c.inBounds = true ∧
        ((findScene s.library c.id).isSome = true ∨ s.library.length < Config.maxScenes) ∧
        putScene p s = .plain { s with library := insertScene s.library c } .ok := by
  unfold putScene State.removeScene State.addScene
  split
  · simp
  · rename_i hid
    split
    · split
      · simp
      · rename_i hlength found
        exact .inr (.inl ⟨hlength, by simpa [Option.isSome_iff_ne_none] using found, rfl⟩)
    · split
      · simp
      · dsimp only
        split
        · simp
        · rename_i bounds
          split
          · simp
          · rename_i room
            refine .inr (.inr ⟨_, rfl, hid, by simpa using bounds, ?_, rfl⟩)
            rcases Nat.lt_or_ge s.library.length Config.maxScenes with h | h
            · exact .inr h
            · refine .inl ?_
              by_contra none
              exact room ⟨by simpa using none, h⟩

/-- PUT TRIGGER writes its entry; or it refuses (R170). -/
theorem putTrigger_cases (p : List Byte) (s : State) :
    (putTrigger p s).Refuses s ∨
      ∃ (h : byteAt p 0 < 24) (t : Trigger), triggerOfBytes (p.drop 1) = some t ∧
        putTrigger p s = .plain { s with triggers := s.triggers.set (byteAt p 0) t } .ok := by
  unfold putTrigger
  split
  · split
    · exact .inr ⟨‹_›, _, ‹_›, rfl⟩
    · simp
  · simp

/-! ### What a trigger's action can do (R163 to R168) -/

/-- START_SCENE with replace no starts the scene in an IDLE slot, or changes nothing (R163). -/
theorem State.triggerStart_cases (s : State) (i : Slot) (c : Scene) (level : Nat) :
    (s.triggerStart i c level).1 = s ∨
      ((s.layer i).state = .idle ∧ s.overlaps (fun _ => true) c.base c.length .resident = false ∧
        s.belowFloor i level s.arb.floor = false ∧
        s.triggerStart i c level = (s.startRing i (c.ring level c.exclusive), .ok)) := by
  unfold State.triggerStart
  split
  · exact .inl rfl
  · split
    · exact .inl rfl
    · split
      · exact .inl rfl
      · exact .inr ⟨by simp_all, by simp_all, by simp_all, rfl⟩

/-- The state in which a START_SCENE with replace yes starts: the slot's layer has ended (R164, R5). -/
def State.replaced (s : State) (i : Slot) : State :=
  if (s.layer i).state = .idle then s
  else ((s.endLayers (fun j _ => decide (j = i)) .stopped).1).queueAll (s.endLayers (fun j _ => decide (j = i)) .stopped).2

/-- START_SCENE with replace yes ends the slot's layer and starts the scene, or changes nothing (R164). -/
theorem State.triggerReplace_cases (s : State) (i : Slot) (c : Scene) (level : Nat) :
    (s.triggerReplace i c level).1 = s ∨
      (s.overlaps (fun j => decide (j ≠ i)) c.base c.length .resident = false ∧
        s.belowFloor i level (s.floorWithout i) = false ∧
        s.triggerReplace i c level = ((s.replaced i).startRing i (c.ring level c.exclusive), .ok)) := by
  unfold State.triggerReplace
  split
  · exact .inl rfl
  · split
    · exact .inl rfl
    · exact .inr ⟨by simp_all, by simp_all, rfl⟩

/-- The state that a trigger's action leaves: as it was, or as the request it stands for leaves it. -/
theorem State.act_cases (s : State) (t : Trigger) :
    (s.act t).1 = s ∨
      (∃ i c, t.action = .startScene ∧ slotOf t.slot = some i ∧ findScene s.library t.sceneId = some c ∧
        ((s.act t = s.triggerStart i c (c.resolve t.level)) ∨ s.act t = s.triggerReplace i c (c.resolve t.level))) ∨
      (∃ i, slotOf t.slot = some i ∧ (s.layer i).state ≠ .idle ∧ (s.act t).1 = s.finish i) ∨
      (s.act t).1 = (s.raiseAlert t.sceneId t.exclusive).state ∨
      ∃ i atEnd, slotOf t.slot = some i ∧ (s.act t).1 = (s.clearAlert i atEnd).state := by
  unfold State.act
  split
  · exact .inl rfl
  · rename_i action
    unfold State.triggerScene
    split
    · exact .inl rfl
    · exact .inl rfl
    · rename_i i c hi hc
      refine .inr (.inl ⟨i, c, action, hi, hc, ?_⟩)
      split
      · exact .inr rfl
      · exact .inl rfl
  · split
    · rename_i i hi
      unfold State.stopAtEnd
      split
      · exact .inl rfl
      · rename_i plays
        push Not at plays
        exact .inr (.inr (.inl ⟨i, hi, plays.1, rfl⟩))
    · exact .inl rfl
  · exact .inr (.inr (.inr (.inl rfl)))
  · split
    · exact .inr (.inr (.inr (.inr ⟨_, _, ‹_›, rfl⟩)))
    · exact .inl rfl

/-- VEHICLE EVENT leaves the state, or takes an entry's action and queues its notice (R162, R169). -/
theorem vehicleEvent_cases (p : List Byte) (s : State) :
    (vehicleEvent p s).Refuses s ∨
      ∃ k t, scan s.triggers (BitVec.ofNat 16 (wordAt p 0)) = some (k, t) ∧
        vehicleEvent p s =
          .plain (if t.report then
              (s.act t).1.queueAll [.trigger (BitVec.ofNat 16 (wordAt p 0)) k (s.act t).2] else (s.act t).1) .ok := by
  unfold vehicleEvent
  dsimp only
  split
  · simp
  · exact .inr ⟨_, _, ‹_›, rfl⟩

end Sys2Proof.Machine

namespace Sys2Proof.Machine

/-! ### The commands that leave the layers alone -/

/-- The Arbiter, the part state, the pool, the library and the trigger table are those of `s`. -/
def SameLayers (s t : State) : Prop :=
  t.arb = s.arb ∧ t.power = s.power ∧ t.pool = s.pool ∧ t.library = s.library ∧ t.triggers = s.triggers

theorem SameLayers.refl (s : State) : SameLayers s s := ⟨rfl, rfl, rfl, rfl, rfl⟩

section
variable {s t : State}

@[simp] theorem sameLayers_setPort {c : Chain} {p : Port} : SameLayers s (t.setPort c p) ↔ SameLayers s t := by
  simp [SameLayers]

@[simp] theorem sameLayers_onPort {c : Chain} {f : Port → Port} : SameLayers s (t.onPort c f) ↔ SameLayers s t := by
  simp [SameLayers]

@[simp] theorem sameLayers_setComp {c : Chain} {k : Comp} : SameLayers s (t.setComp c k) ↔ SameLayers s t := by
  simp [SameLayers]

@[simp] theorem sameLayers_raise {f : Flag} : SameLayers s (t.raise f) ↔ SameLayers s t := by simp [SameLayers]

@[simp] theorem sameLayers_raiseIf {b : Bool} {f : Flag} : SameLayers s (t.raiseIf b f) ↔ SameLayers s t := by
  simp [SameLayers]

@[simp] theorem sameLayers_queueAll {ns : List Notice} : SameLayers s (t.queueAll ns) ↔ SameLayers s t := by
  simp [SameLayers]

@[simp] theorem sameLayers_settle : SameLayers s t.settle ↔ SameLayers s t := by simp [SameLayers]

@[simp] theorem sameLayers_takeFrame : SameLayers s t.takeFrame ↔ SameLayers s t := by simp [SameLayers]

@[simp] theorem sameLayers_reply {f : LinkFrame} {k : Status} {d : List Byte} :
    SameLayers s (t.reply f k d) ↔ SameLayers s t := by simp [SameLayers]

@[simp] theorem sameLayers_holdFor {h : Hold} : SameLayers s (t.holdFor h) ↔ SameLayers s t := by simp [SameLayers]

@[simp] theorem sameLayers_leaveRunning {c : Chain} : SameLayers s (t.leaveRunning c) ↔ SameLayers s t := by
  unfold State.leaveRunning; split <;> simp

@[simp] theorem sameLayers_beginPass {c : Chain} : SameLayers s (t.beginPass c) ↔ SameLayers s t := by
  simp [State.beginPass]

@[simp] theorem sameLayers_closePort {c : Chain} : SameLayers s (t.closePort c) ↔ SameLayers s t := by
  simp [State.closePort]

@[simp] theorem sameLayers_takeOff {c : Chain} : SameLayers s (t.takeOff c).1 ↔ SameLayers s t := by
  unfold State.takeOff; split <;> simp

@[simp] theorem sameLayers_completeRender {c : Chain} {f : Frame} :
    SameLayers s (t.completeRender c f) ↔ SameLayers s t := by simp [State.completeRender]

@[simp] theorem sameLayers_copyFinished {c : Chain} : SameLayers s (t.copyFinished c) ↔ SameLayers s t := by
  unfold State.copyFinished
  split
  · split <;> simp
  · rfl

@[simp] theorem sameLayers_afterTransfer {c : Chain} : SameLayers s (t.afterTransfer c) ↔ SameLayers s t := by
  simp [State.afterTransfer]

@[simp] theorem sameLayers_absorb {c : Chain} {bytes : List Byte} : SameLayers s (t.absorb c bytes) ↔ SameLayers s t := by
  simp only [State.absorb, sameLayers_raiseIf]
  rfl

@[simp] theorem sameLayers_judgeTrailer {c : Chain} {trailer : List Byte} {n : Nat} :
    SameLayers s (t.judgeTrailer c trailer n) ↔ SameLayers s t := by
  unfold State.judgeTrailer
  dsimp only
  split <;> simp

@[simp] theorem sameLayers_release {c : Chain} : SameLayers s (t.release c) ↔ SameLayers s t := by
  simp [State.release]

end

/-- The commands that can act on layers, the pool, the library, the triggers or the part state. -/
def actsOnLayers : Instr → Bool
  | .powerOn _ | .startupComplete | .supplyRemoval | .tick _ | .hushExpiry | .egressLineChange _ | .debouncedAssertion
  | .debouncedDeassertion | .startLayer _ _ | .startScene _ _ | .stopLayerImmediate _ _ | .stopLayerAtEnd _ _
  | .setLevel _ _ | .setMaster _ _ | .hush _ _ | .setPolicy _ _ | .raiseAlert _ _ | .clearAlertAtEnd _ _
  | .clearAlertImmediate _ _ | .loadCues _ _ | .putScene _ _ | .putSceneRemove _ _ | .vehicleEvent _ _ | .putTrigger _ _
  | .restartTaken | .sleep _ _ | .dormantEntry | .wakeByLink | .wakeByEgress => true
  | _ => false

/-- A request whose owner leaves the layers alone leaves them alone. -/
theorem State.serve_sameLayers {s : State} {f : LinkFrame} {mine : Bool} {owner : State → Answer}
    (h : ∀ t, SameLayers s t → SameLayers s (owner t).state) : SameLayers s (s.serve f mine owner) :=
  State.serve_keeps (P := SameLayers s) (fun _ _ => id) (fun t _ ht => h t ht) (SameLayers.refl s)

/-- A request on a chain leaves the layers alone when its owner for the chain does. -/
theorem onChain_sameLayers {s t : State} {p : List Byte} {owner : Chain → State → Answer} (ht : SameLayers s t)
    (h : ∀ c, SameLayers s (owner c t).state) : SameLayers s (onChain p t owner).state := by
  unfold onChain
  split
  · exact h _
  · exact ht

theorem State.enumerate_sameLayers {s t : State} (h : SameLayers s t) (c : Chain) :
    SameLayers s (State.enumerate c t).state := by
  unfold State.enumerate
  split <;> simpa [Answer.plain] using h

theorem State.setTiming_sameLayers {s t : State} (h : SameLayers s t) (pre sel period : Nat) (c : Chain) :
    SameLayers s (State.setTiming pre sel period c t).state := by
  unfold State.setTiming
  split
  · exact h
  · unfold State.retime
    dsimp only
    split
    · simpa using h
    · simpa using h
    · split <;> simpa using h

theorem State.setChainState_sameLayers {s t : State} (h : SameLayers s t) (code : Nat) (c : Chain) :
    SameLayers s (State.setChainState code c t).state := by
  unfold State.setChainState State.switchOn State.switchOff
  split
  · split <;> simpa [Answer.plain] using h
  · split <;> simpa [Answer.plain] using h
  · exact h

theorem State.reclaim_sameLayers {s t : State} (h : SameLayers s t) (c : Chain) :
    SameLayers s (State.reclaim c t).state := by
  unfold State.reclaim
  dsimp only
  split
  · exact h
  · split <;> simpa [Answer.plain] using h

theorem State.endWrite_sameLayers {s t : State} (h : SameLayers s t) (matched : Bool) :
    SameLayers s (t.endWrite matched) := by
  unfold State.endWrite
  split
  · exact h
  · exact sameLayers_queueAll.mpr h
  · exact sameLayers_queueAll.mpr h

theorem State.periodStart_sameLayers {s t : State} (h : SameLayers s t) (c : Chain) :
    SameLayers s (t.periodStart c) := by
  unfold State.periodStart State.latePeriod State.promptPeriod
  split
  · exact h
  · split <;> simpa using h

/-- A command that does not act on them leaves the layers, the pool, the library, the triggers and the part state. -/
theorem exec_sameLayers {c : Instr} (h : actsOnLayers c = false) (s : State) : Leaves (exec c s) (SameLayers s) := by
  have same := SameLayers.refl s
  cases c with
  | luxEdge => exact leaves_next.mpr (by split <;> exact same)
  | gateWindowEnd => exact leaves_next.mpr (by split <;> exact same)
  | periodStart c =>
    refine leaves_next.mpr ?_
    split
    · exact sameLayers_settle.mpr (State.periodStart_sameLayers (sameLayers_onPort.mpr same) c)
    · exact same
  | renderComplete c =>
    refine leaves_next.mpr ?_
    unfold State.finishRender
    split
    · split
      · split <;> simpa using same
      · exact same
    · exact same
  | latchPoint c =>
    refine leaves_next.mpr ?_
    split
    · split
      · exact sameLayers_onPort.mpr same
      · exact sameLayers_onPort.mpr same
      · exact same
    · exact same
  | shiftEnd c trailer =>
    refine leaves_next.mpr ?_
    split
    · split <;> simpa using same
    · exact same
  | identifyRequestEnd c => exact leaves_next.mpr (by split <;> simpa using same)
  | settleEnd c => exact leaves_next.mpr (by split <;> simpa using same)
  | collectEnd c returned =>
    refine leaves_next.mpr ?_
    split
    · exact sameLayers_settle.mpr (sameLayers_queueAll.mpr (sameLayers_onPort.mpr same))
    · exact same
  | collectMarkerTimeout c => exact leaves_next.mpr (by split <;> simpa using same)
  | foreignActivity c =>
    refine leaves_next.mpr ?_
    split
    · dsimp only
      split <;> simpa using same
    · exact same
  | foreignQuiet c => exact leaves_next.mpr (by split <;> simpa using same)
  | frameReceived characters => exact leaves_next.mpr (by split <;> exact same)
  | framingError => exact leaves_next.mpr (by split <;> exact same)
  | interByteTimeout => exact leaves_next.mpr (by split <;> exact same)
  | linkBreak => exact leaves_next.mpr (by split <;> exact same)
  | waitIdleEnd => exact leaves_next.mpr (by split <;> exact same)
  | transmitComplete => exact leaves_next.mpr (by split <;> exact same)
  | unknownKind kind tag p => exact leaves_next.mpr (by split <;> exact same)
  | reportKindDiscard kind tag p => exact leaves_next.mpr (by split <;> exact same)
  | ping tag p => exact leaves_next.mpr (State.serve_sameLayers fun _ => id)
  | getStatus tag p => exact leaves_next.mpr (State.serve_sameLayers fun _ => id)
  | getCounters tag p =>
    refine leaves_next.mpr (State.serve_sameLayers fun t ht => ?_)
    unfold getCounters
    split
    · dsimp only
      split <;> exact ht
    · exact ht
  | setEventMask tag p => exact leaves_next.mpr (State.serve_sameLayers fun _ => id)
  | clearEvents tag p => exact leaves_next.mpr (State.serve_sameLayers fun _ => id)
  | getLayer tag p =>
    refine leaves_next.mpr (State.serve_sameLayers fun t ht => ?_)
    unfold getLayer
    split <;> exact ht
  | readCues tag p =>
    refine leaves_next.mpr (State.serve_sameLayers fun t ht => ?_)
    unfold readCues
    dsimp only
    split <;> exact ht
  | getScene tag p =>
    refine leaves_next.mpr (State.serve_sameLayers fun t ht => ?_)
    unfold getScene
    split
    · exact ht
    · split <;> exact ht
  | enumerate tag p =>
    exact leaves_next.mpr (State.serve_sameLayers fun t ht =>
      onChain_sameLayers ht fun c => State.enumerate_sameLayers ht c)
  | getNode tag p =>
    refine leaves_next.mpr (State.serve_sameLayers fun t ht => ?_)
    unfold getNode
    split
    · exact ht
    · dsimp only
      split
      · exact ht
      · split <;> exact ht
  | putCatalog tag p =>
    refine leaves_next.mpr (State.serve_sameLayers fun t ht => ?_)
    unfold putCatalog
    split
    · split
      · exact ht
      · split <;> exact ht
    · exact ht
  | getCatalog tag p =>
    refine leaves_next.mpr (State.serve_sameLayers fun t ht => ?_)
    unfold getCatalog
    split <;> exact ht
  | putZoneSpan tag p =>
    refine leaves_next.mpr (State.serve_sameLayers fun t ht => ?_)
    unfold putZoneSpan
    split
    · split
      · exact ht
      · split <;> exact ht
    · exact ht
  | lockCatalog tag p =>
    refine leaves_next.mpr (State.serve_sameLayers fun t ht => ?_)
    unfold lockCatalog
    split <;> exact ht
  | setChainTiming tag p =>
    exact leaves_next.mpr (State.serve_sameLayers fun t ht =>
      onChain_sameLayers ht fun c => State.setTiming_sameLayers ht _ _ _ c)
  | setChainBudget tag p =>
    exact leaves_next.mpr (State.serve_sameLayers fun t ht =>
      onChain_sameLayers ht fun c => sameLayers_onPort.mpr ht)
  | setChainStateOff tag p =>
    exact leaves_next.mpr (State.serve_sameLayers fun t ht =>
      onChain_sameLayers ht fun c => State.setChainState_sameLayers ht _ c)
  | setChainStateOn tag p =>
    exact leaves_next.mpr (State.serve_sameLayers fun t ht =>
      onChain_sameLayers ht fun c => State.setChainState_sameLayers ht _ c)
  | reclaimChain tag p =>
    exact leaves_next.mpr (State.serve_sameLayers fun t ht =>
      onChain_sameLayers ht fun c => State.reclaim_sameLayers ht c)
  | setCurve tag p =>
    refine leaves_next.mpr (State.serve_sameLayers fun t ht => ?_)
    unfold setCurve
    dsimp only
    split <;> exact ht
  | setAmbientOverrideOn tag p =>
    refine leaves_next.mpr (State.serve_sameLayers fun t ht => ?_)
    unfold setAmbientOverride
    dsimp only
    split
    · exact ht
    · split <;> exact ht
    · exact ht
  | setAmbientOverrideOff tag p =>
    refine leaves_next.mpr (State.serve_sameLayers fun t ht => ?_)
    unfold setAmbientOverride
    dsimp only
    split
    · exact ht
    · split <;> exact ht
    · exact ht
  | getAmbient tag p => exact leaves_next.mpr (State.serve_sameLayers fun _ => id)
  | getTrigger tag p =>
    refine leaves_next.mpr (State.serve_sameLayers fun t ht => ?_)
    unfold getTrigger
    split <;> exact ht
  | storeSettings tag p =>
    refine leaves_next.mpr (State.serve_sameLayers fun t ht => ?_)
    unfold storeSettings
    split
    · exact ht
    · split <;> exact ht
  | storeLibrary tag p =>
    refine leaves_next.mpr (State.serve_sameLayers fun t ht => ?_)
    unfold storeLibrary
    split
    · exact ht
    · split <;> exact ht
  | storeWriteEnd matched =>
    refine leaves_next.mpr ?_
    split
    · exact sameLayers_settle.mpr (State.endWrite_sameLayers same matched)
    · exact same
  | restart tag p =>
    refine leaves_next.mpr (State.serve_sameLayers fun t ht => ?_)
    unfold restart
    split <;> exact ht
  | _ => cases h

end Sys2Proof.Machine

namespace Sys2Proof.Machine

/-! ### Reset, wake and tick -/

@[simp] theorem State.powerOn_layer (cs : List Instr) (hi line : Bool) (d : Option Identity) (k : Option StoredSettings)
    (l : Option (List StoredScene)) (n : Nat) (i : Slot) :
    (State.powerOn cs hi line d k l n).layer i = Layer.reset (resetLevel i) := by
  simp [State.powerOn, State.layer, Arbiter.reset]

/-- The part at its values of power-on, over its own regions, line and queue (R196, R203, R204). -/
def State.rebooted (s : State) (plantHigh : Bool) : State :=
  State.powerOn s.pending plantHigh s.arb.egressLine s.store.identityRegion s.store.settingsRegion s.store.libraryRegion
    s.openChoices

@[simp] theorem State.rebooted_layer (s : State) (plantHigh : Bool) (i : Slot) :
    (s.rebooted plantHigh).layer i = Layer.reset (resetLevel i) := State.powerOn_layer _ _ _ _ _ _ _ i

/-- At a wake every layer is IDLE, and nothing else of its record changes (R209). -/
@[simp] theorem State.wake_layer (s : State) (i : Slot) : s.wake.layer i = { s.layer i with state := .idle } := by
  simp [State.wake, State.layer, Arbiter.wake]

/-- The state of an AWAKE tick when the slots are handled: hush, debounce, gate window and port timers have counted. -/
def State.ticked (s : State) : State :=
  { s.tickHush with
    arb := s.tickHush.arb.tickEgress
    amb := s.amb.tick s.power.sleepPending
    portA := s.portA.tick
    portB := s.portB.tick }

/-- The hush part of a tick writes the countdown and, at its end, a flag (R20). -/
theorem State.tickHush_eq (s : State) :
    s.tickHush =
      { s with
        arb := { s.arb with hush := s.arb.hush - 1 }
        link := if s.arb.hush = 1 then s.link.raise .hushEnd else s.link } := by
  unfold State.tickHush
  split
  · rename_i h
    simp only [h, Nat.zero_sub, Nat.zero_ne_one, if_false]
    rw [← h]
  · split
    · rename_i h
      simp [State.expireHush, State.raise, h]
    · rename_i h
      simp

/-- What the timers of a tick make of the Arbiter: its layers, floor, factors and policy stay (R20, R24). -/
theorem State.ticked_arb (s : State) :
    s.ticked.arb = { s.arb with
      hush := s.arb.hush - 1
      egressTimer := if s.arb.egressLine = s.arb.egressLevel then s.arb.egressTimer else s.arb.egressTimer - 1 } := by
  simp only [State.ticked, State.tickHush_eq, Arbiter.tickEgress]
  split <;> rfl

@[simp] theorem State.ticked_power (s : State) : s.ticked.power = s.power := by
  simp [State.ticked, State.tickHush_eq]

@[simp] theorem State.ticked_pool (s : State) : s.ticked.pool = s.pool := by simp [State.ticked, State.tickHush_eq]

@[simp] theorem State.ticked_layer (s : State) (i : Slot) : s.ticked.layer i = s.layer i := by
  simp [State.layer, State.ticked_arb]

theorem State.tick_awake {s : State} (h : s.power.part = .awake) (order : List Nat) :
    s.tick order = (s.ticked.handleLayers order).settle := by
  simp only [State.tick, h, State.ticked, State.tickHush_eq]

/-- What a tick leaves outside AWAKE: all but the debounce in STARTING (R197). -/
theorem State.tick_asleep {s : State} (h : s.power.part ≠ .awake) (order : List Nat) :
    s.tick order = s ∨ s.tick order = { s with arb := s.arb.tickEgress } := by
  unfold State.tick
  split
  · exact absurd ‹_› h
  · exact .inr rfl
  · exact .inl rfl

/-- What every handling of a slot keeps, the handling of all slots keeps. -/
theorem State.handleLayers_keeps {P : State → Prop} (slot : ∀ s i, P s → P (s.handleSlot i)) {s : State} (h : P s)
    (order : List Nat) : P (s.handleLayers order) :=
  List.foldlRecOn (slotOrder order) State.handleSlot h fun s hs i _ => slot s i hs

/-! ### Starts, ends and the law of the floor (R3, R6 to R8, R11) -/

/-- The state of a START fits its slot (R11). -/
theorem State.startState_fits {s : State} (awake : s.power.part = .awake) (i : Slot) (level : Nat) :
    (s.startState i level).fits s.arb.policy s.power.part i := by
  rw [awake]
  unfold State.startState
  split
  · rename_i h
    simp only [Bool.and_eq_true] at h
    exact ⟨by simp [h.1], by simp, by simp⟩
  · split
    · rename_i h
      simp only [Bool.and_eq_true, decide_eq_true_eq] at h
      exact ⟨by simp [h.1.1], by simp [h.1.2], by simp⟩
    · exact LayerState.fits_of_playing rfl _ _

theorem FloorHolds.startRing {s : State} (h : StatesFit s) (awake : s.power.part = .awake) (i : Slot) (r : RingStart) :
    FloorHolds (s.startRing i r) :=
  State.evalFloor_floorHolds (h.setLayer (State.startState_fits awake i r.level))

theorem FloorHolds.startEgress {s : State} (h : StatesFit s) (awake : s.power.part = .awake) :
    FloorHolds s.startEgress := FloorHolds.startRing h awake _ _

theorem State.stopSlot_eq (s : State) (i : Slot) (r : EndReason) :
    s.stopSlot i r =
      ((s.endLayers (fun j _ => decide (j = i)) r).1.queueAll (s.endLayers (fun j _ => decide (j = i)) r).2).evalFloor :=
  rfl

theorem FloorHolds.stopSlot {s : State} (h : StatesFit s) (i : Slot) (r : EndReason) : FloorHolds (s.stopSlot i r) := by
  rw [State.stopSlot_eq]
  exact State.evalFloor_floorHolds ((h.endLayers _ r).congr (State.queueAll_arb _ _) (by simp))

/-- A layer record whose state stays fits as before. -/
theorem StatesFit.setLayer_state {s : State} {i : Slot} {l : Layer} (h : StatesFit s) (hl : l.state = (s.layer i).state) :
    StatesFit (s.setLayer i l) := by
  refine h.setLayer ?_
  rw [hl]
  exact h i

/-- Marks of a layer that the floor does not read may change. -/
theorem FloorHolds.setLayer_marks {s : State} {i : Slot} {l : Layer} (h : FloorHolds s)
    (state : l.state = (s.layer i).state) (exclusive : l.exclusive = (s.layer i).exclusive)
    (level : l.level = (s.layer i).level) : FloorHolds (s.setLayer i l) :=
  h.setLayer ⟨.inl state, fun _ => ⟨exclusive, level⟩⟩

theorem FloorHolds.finish {s : State} (h : FloorHolds s) (i : Slot) : FloorHolds (s.finish i) :=
  h.setLayer_marks rfl rfl rfl

theorem FloorHolds.played {s : State} (h : FloorHolds s) {i : Slot} (playing : (s.layer i).state.playing = true) :
    FloorHolds (s.played i) := by
  obtain ⟨setup, plays⟩ := s.played_layer_same i playing
  obtain ⟨level, exclusive, -⟩ := Layer.fields_of_setup setup
  refine h.of_standsLike rfl rfl rfl fun j => ?_
  by_cases hj : j = i
  · subst j
    exact ⟨.inr ⟨plays, playing⟩, fun _ => ⟨exclusive, level⟩⟩
  · rw [s.played_layer_other hj]
    exact Layer.standsLike_refl _

theorem FloorHolds.handleSlot {s : State} (h : FloorHolds s) (awake : s.power.part = .awake) (i : Slot) :
    FloorHolds (s.handleSlot i) := by
  rcases s.handleSlot_cases i with ⟨-, e⟩ | ⟨playing, e⟩
  · rw [e]; exact h
  · have played := h.played playing
    have raised : StatesFit ((s.played i).raise .layerRunaway) := played.statesFit.congr rfl rfl
    rcases e with e | e | e | ⟨-, -, e⟩ <;> rw [e]
    · exact played
    · exact State.evalFloor_floorHolds (played.statesFit.setLayer (LayerState.fits_idle _ _ _))
    · exact State.evalFloor_floorHolds (raised.setLayer (LayerState.fits_idle _ _ _))
    · refine State.evalFloor_floorHolds (raised.setLayer ?_)
      rw [State.raise_power, State.played_power, awake]
      exact LayerState.fits_of_playing rfl _ _

@[simp] theorem State.handleSlot_power (s : State) (i : Slot) : (s.handleSlot i).power = s.power := by
  rcases s.handleSlot_cases i with ⟨-, e⟩ | ⟨-, e | e | e | ⟨-, -, e⟩⟩ <;> rw [e] <;> simp

theorem FloorHolds.tick {s : State} (h : FloorHolds s) (order : List Nat) : FloorHolds (s.tick order) := by
  by_cases awake : s.power.part = .awake
  · rw [State.tick_awake awake]
    have ticked : FloorHolds s.ticked :=
      h.of_standsLike (by rw [s.ticked_arb]) (by rw [s.ticked_arb]) (by simp) fun i => by
        rw [s.ticked_layer]; exact Layer.standsLike_refl _
    exact (State.handleLayers_keeps (P := fun t => FloorHolds t ∧ t.power.part = .awake)
      (fun t i ⟨ht, ha⟩ => ⟨ht.handleSlot ha i, by simpa using ha⟩) ⟨ticked, by simpa using awake⟩ order).1
  · rcases State.tick_asleep awake order with e | e <;> rw [e]
    · exact h
    · have arb : s.arb.tickEgress.layers = s.arb.layers ∧ s.arb.tickEgress.floor = s.arb.floor ∧
          s.arb.tickEgress.policy = s.arb.policy := by unfold Arbiter.tickEgress; split <;> simp
      refine h.of_standsLike arb.2.1 arb.2.2 rfl fun i => ?_
      rw [show State.layer { s with arb := s.arb.tickEgress } i = s.layer i by
        simp only [State.layer, arb.1]]
      exact Layer.standsLike_refl _

/-! ### The law of the floor under requests -/

theorem FloorHolds.startLayer {s : State} (h : FloorHolds s) (awake : s.power.part = .awake) (p : List Byte) :
    FloorHolds (startLayer p s).state := by
  rcases startLayer_cases p s with ⟨-, -, e, -⟩ | ⟨_, i, r, -, -, -, -, -, -, -, -, e⟩
  · rw [e]; exact h
  · rw [e]; exact .startRing h.statesFit awake i r

theorem FloorHolds.startScene {s : State} (h : FloorHolds s) (awake : s.power.part = .awake) (p : List Byte) :
    FloorHolds (startScene p s).state := by
  rcases startScene_cases p s with ⟨-, -, e, -⟩ | ⟨i, c, -, -, -, -, -, -, -, e⟩
  · rw [e]; exact h
  · rw [e]; exact .startRing h.statesFit awake i _

theorem FloorHolds.stopLayer {s : State} (h : FloorHolds s) (p : List Byte) : FloorHolds (stopLayer p s).state := by
  rcases stopLayer_cases p s with ⟨-, -, e, -⟩ | ⟨i, -, -, -, ⟨-, -, e⟩ | ⟨-, e⟩⟩ <;> rw [e]
  · exact h
  · exact h.finish i
  · exact .stopSlot h.statesFit i _

/-- A level given to a layer in play leaves a state that fits its slot (R15). -/
theorem Layer.withLevel_fits {l : Layer} {i : Slot} {policy : Policy} (plays : l.state ≠ .idle)
    (fits : l.state.fits policy .awake i) (level : Nat) : (l.withLevel i level).state.fits policy .awake i := by
  unfold Layer.withLevel
  simp only [plays, if_false]
  split
  · rename_i parks
    simp only [Bool.and_eq_true] at parks
    exact ⟨by simp [parks.1], by simp, by simp⟩
  · split
    · exact LayerState.fits_of_playing rfl _ _
    · exact fits

theorem FloorHolds.setLevel {s : State} (h : FloorHolds s) (awake : s.power.part = .awake) (p : List Byte) :
    FloorHolds (setLevel p s).state := by
  rcases setLevel_cases p s with ⟨-, -, e, -⟩ | ⟨i, -, -, -, ⟨idle, e⟩ | ⟨plays, -, e⟩⟩ <;> rw [e]
  · exact h
  · refine h.setLayer ⟨.inl (by simp [Layer.withLevel, idle]), fun hp => ?_⟩
    rw [idle] at hp
    cases hp
  · refine State.evalFloor_floorHolds (h.statesFit.setLayer ?_)
    have fits := h.statesFit i
    rw [awake] at fits ⊢
    exact Layer.withLevel_fits plays fits _

theorem FloorHolds.setMaster {s : State} (h : FloorHolds s) (p : List Byte) : FloorHolds (setMaster p s).state := by
  rcases setMaster_cases p s with ⟨-, -, e, -⟩ | ⟨on, -, e⟩ <;> rw [e] <;> exact h

theorem FloorHolds.hush {s : State} (h : FloorHolds s) (p : List Byte) : FloorHolds (hush p s).state := by
  rcases hush_cases p s with ⟨-, -, e, -⟩ | ⟨-, e⟩ <;> rw [e] <;> exact h

/-- After a change to CANCEL no scene layer is SUSPENDED, and its record is ended CUT where it was (R9). -/
theorem State.cutSuspended_layer (s : State) (i : Slot) :
    s.cutSuspended.layer i =
      if isScene i = true ∧ (s.layer i).state = .suspended then (s.layer i).toIdle i .cut else s.layer i := by
  unfold State.cutSuspended
  rw [State.layer_congr (State.queueOpen_arb _ _), State.endLayers_layer]
  simp

@[simp] theorem State.cutSuspended_power (s : State) : s.cutSuspended.power = s.power := by simp [State.cutSuspended]
@[simp] theorem State.cutSuspended_policy (s : State) : s.cutSuspended.arb.policy = s.arb.policy := by
  simp [State.cutSuspended, State.endLayers]

/-- What SET POLICY evaluates the floor over fits the new policy (R9). -/
theorem FloorHolds.statesFit_withPolicy {s : State} (h : FloorHolds s) (k : Policy) :
    StatesFit (if k = .cancel then (s.withPolicy k).cutSuspended else s.withPolicy k) := by
  obtain ⟨-, -, nonScene, -, idle⟩ := h
  split
  · rename_i hk
    intro i
    rw [State.cutSuspended_layer, State.cutSuspended_policy, State.cutSuspended_power]
    split
    · exact LayerState.fits_idle _ _ _
    · rename_i stays
      refine ⟨nonScene i, fun _ suspended => ?_, fun hp => idle hp i⟩
      cases hi : isScene i
      · exact (nonScene i hi).1 suspended
      · exact stays ⟨hi, suspended⟩
  · rename_i hk
    exact fun i => ⟨nonScene i, fun hc => absurd hc hk, fun hp => idle hp i⟩

theorem FloorHolds.setPolicy {s : State} (h : FloorHolds s) (p : List Byte) : FloorHolds (setPolicy p s).state := by
  rcases setPolicy_cases p s with ⟨-, -, e, -⟩ | ⟨k, -, e⟩ <;> rw [e]
  · exact h
  · exact State.evalFloor_floorHolds (h.statesFit_withPolicy k)

theorem FloorHolds.raiseAlert {s : State} (h : FloorHolds s) (awake : s.power.part = .awake) (id : Nat)
    (exclusive : Bool) : FloorHolds (s.raiseAlert id exclusive).state := by
  rcases s.raiseAlert_cases id exclusive with ⟨-, -, e, -⟩ | ⟨c, -, -, -, e⟩ | ⟨c, -, -, -, e⟩ <;> rw [e]
  · exact h
  · rw [Answer.plain_state]; exact h.setLayer_marks rfl rfl rfl
  · rw [Answer.plain_state]
    apply FloorHolds.startRing
    · exact h.statesFit.setLayer_state rfl
    · exact awake

theorem FloorHolds.clearAlert {s : State} (h : FloorHolds s) (i : Slot) (atEnd : Bool) :
    FloorHolds (s.clearAlert i atEnd).state := by
  rcases s.clearAlert_cases i atEnd with ⟨-, -, e, -⟩ | ⟨-, ⟨-, -, e⟩ | ⟨-, -, e⟩ | ⟨-, -, e⟩⟩ <;> rw [e]
  · exact h
  · rw [Answer.plain_state]; exact h.setLayer_marks rfl rfl rfl
  · rw [Answer.plain_state]; exact h.setLayer_marks rfl rfl rfl
  · rw [Answer.plain_state]
    refine FloorHolds.stopSlot ?_ i _
    exact h.statesFit.setLayer_state rfl

theorem StatesFit.replaced {s : State} (h : StatesFit s) (i : Slot) : StatesFit (s.replaced i) := by
  unfold State.replaced
  split
  · exact h
  · exact (h.endLayers _ _).congr (State.queueAll_arb _ _) (by simp)

@[simp] theorem State.replaced_power (s : State) (i : Slot) : (s.replaced i).power = s.power := by
  unfold State.replaced; split <;> rfl

theorem FloorHolds.act {s : State} (h : FloorHolds s) (awake : s.power.part = .awake) (t : Trigger) :
    FloorHolds (s.act t).1 := by
  rcases s.act_cases t with e | ⟨i, c, -, -, -, e | e⟩ | ⟨i, -, -, e⟩ | e | ⟨i, atEnd, -, e⟩ <;> rw [e]
  · exact h
  · rcases s.triggerStart_cases i c (c.resolve t.level) with e | ⟨-, -, -, e⟩ <;> rw [e]
    · exact h
    · exact .startRing h.statesFit awake i _
  · rcases s.triggerReplace_cases i c (c.resolve t.level) with e | ⟨-, -, e⟩ <;> rw [e]
    · exact h
    · exact .startRing (h.statesFit.replaced i) (by simpa using awake) i _
  · exact h.finish i
  · exact h.raiseAlert awake _ _
  · exact h.clearAlert i atEnd

theorem FloorHolds.vehicleEvent {s : State} (h : FloorHolds s) (awake : s.power.part = .awake) (p : List Byte) :
    FloorHolds (vehicleEvent p s).state := by
  rcases vehicleEvent_cases p s with ⟨-, -, e, -⟩ | ⟨k, t, -, e⟩ <;> rw [e]
  · exact h
  · dsimp only [Answer.plain]
    split
    · exact (h.act awake t).congr rfl rfl
    · exact h.act awake t

/-- An accepted SLEEP leaves of the Arbiter what the stop of all layers leaves (R205). -/
theorem State.fallAsleep_arb (s : State) : s.fallAsleep.arb = s.stopLayers.1.arb := by
  have arb : ∀ (t : State) (c : Chain), (t.sleepPort c).1.arb = t.arb := fun t c => by
    unfold State.sleepPort State.takeOff State.leaveRunning
    dsimp only
    split
    · simp only [State.onPort_arb, State.closePort, State.setPort_arb]
      split <;> simp
    · simp [State.closePort]
    · simp
  simp [State.fallAsleep, arb]

end Sys2Proof.Machine

namespace Sys2Proof.Machine

/-! ### The law of the floor under the events of power and of the EGRESS line -/

theorem State.stopLayers_eq (s : State) :
    s.stopLayers.1 =
      ({ (s.endLayers (fun _ l => decide (l.state ≠ .idle)) .stopped).1 with
        arb := { (s.endLayers (fun _ l => decide (l.state ≠ .idle)) .stopped).1.arb with hush := 0 } }
          : State).evalFloor := rfl

theorem StatesFit.stopLayers {s : State} (h : StatesFit s) :
    StatesFit { (s.endLayers (fun _ l => decide (l.state ≠ .idle)) .stopped).1 with
        arb := { (s.endLayers (fun _ l => decide (l.state ≠ .idle)) .stopped).1.arb with hush := 0 } } :=
  h.endLayers (fun _ l => decide (l.state ≠ .idle)) .stopped

@[simp] theorem State.stopLayers_power (s : State) : s.stopLayers.1.power = s.power := by simp [State.stopLayers_eq]

@[simp] theorem State.sleepPort_power (s : State) (c : Chain) : (s.sleepPort c).1.power = s.power := by
  unfold State.sleepPort State.takeOff State.leaveRunning State.closePort
  dsimp only
  split
  · simp only [State.onPort_power, State.setPort_power]
    split <;> simp
  · simp
  · simp

@[simp] theorem State.fallAsleep_power (s : State) : s.fallAsleep.power = { s.power with sleepPending := true } := by
  simp [State.fallAsleep]

theorem FloorHolds.sleep {s : State} (h : FloorHolds s) : FloorHolds (sleep s).state := by
  rcases sleep_cases s with ⟨-, -, e, -⟩ | ⟨-, -, -, e⟩ <;> rw [e]
  · exact h
  · rw [Answer.plain_state]
    have stopped : FloorHolds s.stopLayers.1 := State.evalFloor_floorHolds h.statesFit.stopLayers
    exact stopped.congr s.fallAsleep_arb (by simp)

@[simp] theorem State.load_power (s : State) : s.load.power = s.power := rfl

/-- The part in AWAKE. -/
def State.awakened (s : State) : State := { s with power := { s.power with part := .awake } }

/-- Entering AWAKE starts a latched slot 11 and begins both identify passes (R27, R139). -/
theorem State.enterAwake_eq (s : State) :
    s.enterAwake =
      ((if (s.layer egressSlot).latch then s.awakened.startEgress else s.awakened).beginPass .a).beginPass .b := rfl

@[simp] theorem State.startRing_power (s : State) (i : Slot) (r : RingStart) : (s.startRing i r).power = s.power := by
  simp [State.startRing]

@[simp] theorem State.startEgress_power (s : State) : s.startEgress.power = s.power := State.startRing_power _ _ _

@[simp] theorem State.beginPass_arb (s : State) (c : Chain) : (s.beginPass c).arb = s.arb := by simp [State.beginPass]
@[simp] theorem State.beginPass_power (s : State) (c : Chain) : (s.beginPass c).power = s.power := by
  simp [State.beginPass]

theorem FloorHolds.startup {s : State} (h : FloorHolds s) (starting : s.power.part = .starting) :
    FloorHolds s.load.enterAwake := by
  have idle : ∀ i, (s.load.awakened.layer i).state = .idle := h.idle_of_starting starting
  have floor : s.load.awakened.arb.floor = 0 :=
    h.1.trans (highestLevel_eq_zero fun i => by rw [h.idle_of_starting starting i]; rfl)
  have loaded := FloorHolds.of_idle idle floor
  rw [State.enterAwake_eq]
  refine FloorHolds.congr (s := if (s.load.layer egressSlot).latch then s.load.awakened.startEgress else s.load.awakened)
    ?_ (by simp) (by simp)
  split
  · exact .startEgress loaded.statesFit rfl
  · exact loaded

theorem FloorHolds.rebooted (s : State) (plantHigh : Bool) : FloorHolds (s.rebooted plantHigh) :=
  .of_idle (fun i => by rw [State.rebooted_layer]; rfl) rfl

theorem FloorHolds.wake (s : State) : FloorHolds s.wake :=
  .of_idle (fun i => by rw [State.wake_layer]) rfl

@[simp] theorem State.cancelSleep_arb (s : State) : s.cancelSleep.arb = s.arb := by
  unfold State.cancelSleep; split <;> rfl

theorem State.cancelSleep_power (s : State) : s.cancelSleep.power = { s.power with sleepPending := false } := by
  unfold State.cancelSleep
  split
  · rfl
  · rename_i h
    rw [Bool.not_eq_true] at h
    rw [← h]

theorem FloorHolds.lightEgress {s : State} (h : FloorHolds s) (awake : s.power.part = .awake) :
    FloorHolds s.lightEgress := by
  unfold State.lightEgress
  split
  · exact .startEgress h.statesFit awake
  · exact h.setLayer_marks rfl rfl rfl

@[simp] theorem State.lightEgress_power (s : State) : s.lightEgress.power = s.power := by
  unfold State.lightEgress; split <;> simp

@[simp] theorem State.latchEgress_power (s : State) : s.latchEgress.power = s.power := rfl
@[simp] theorem State.takeEgressLevel_power (s : State) : s.takeEgressLevel.power = s.power := rfl

theorem FloorHolds.latchEgress {s : State} (h : FloorHolds s) : FloorHolds s.takeEgressLevel.latchEgress := by
  have taken : FloorHolds s.takeEgressLevel := h
  exact (taken.setLayer_marks (i := egressSlot) (l := { s.takeEgressLevel.layer egressSlot with latch := true })
    rfl rfl rfl).congr (State.raise_arb _ _) rfl

theorem FloorHolds.raiseAlertRequest {s : State} (h : FloorHolds s) (awake : s.power.part = .awake) (p : List Byte) :
    FloorHolds (Machine.raiseAlert p s).state := by
  rcases raiseAlert_cases p s with ⟨-, -, e, -⟩ | ⟨exclusive, -, -, e⟩ <;> rw [e]
  · exact h
  · exact h.raiseAlert awake _ _

theorem FloorHolds.clearAlertRequest {s : State} (h : FloorHolds s) (p : List Byte) :
    FloorHolds (Machine.clearAlert p s).state := by
  rcases clearAlert_cases p s with ⟨-, -, e, -⟩ | ⟨i, atEnd, -, -, -, e⟩ <;> rw [e]
  · exact h
  · exact h.clearAlert i atEnd

theorem FloorHolds.loadCues {s : State} (h : FloorHolds s) (p : List Byte) : FloorHolds (Machine.loadCues p s).state := by
  rcases loadCues_cases p s with ⟨-, -, e, -⟩ | ⟨_, _, -, -, -, -, e⟩ <;> rw [e] <;> exact h

theorem FloorHolds.putScene {s : State} (h : FloorHolds s) (p : List Byte) : FloorHolds (Machine.putScene p s).state := by
  rcases putScene_cases p s with ⟨-, -, e, -⟩ | ⟨-, -, e⟩ | ⟨_, -, -, -, -, e⟩ <;> rw [e] <;> exact h

theorem FloorHolds.putTrigger {s : State} (h : FloorHolds s) (p : List Byte) :
    FloorHolds (Machine.putTrigger p s).state := by
  rcases putTrigger_cases p s with ⟨-, -, e, -⟩ | ⟨_, _, -, e⟩ <;> rw [e] <;> exact h

/-- A request keeps the law of the floor when its owner does in AWAKE. -/
theorem FloorHolds.serve {f : LinkFrame} {mine : Bool} {owner : State → Answer} {s : State} (h : FloorHolds s)
    (hk : servedInStarting f.kind = false)
    (answer : ∀ t, FloorHolds t → t.power.part = .awake → FloorHolds (owner t).state) : FloorHolds (s.serve f mine owner) :=
  State.serve_keeps_awake (fun _ _ ht => ht) hk (fun t ha ht => answer t ht ha) h

theorem exec_keeps_floor (c : Instr) (s : State) (h : FloorHolds s) : Leaves (exec c s) FloorHolds := by
  by_cases acts : actsOnLayers c = false
  · intro t e
    obtain ⟨arb, power, -⟩ := exec_sameLayers acts s t e
    exact h.congr arb (by rw [power])
  cases c with
  | powerOn hi => exact leaves_next.mpr (.rebooted s hi)
  | startupComplete =>
    refine leaves_next.mpr ?_
    split
    · exact h.startup ‹_›
    · exact h
  | supplyRemoval =>
    refine leaves_next.mpr (FloorHolds.of_idle (fun i => ?_) rfl)
    exact congrArg Layer.state (s.rebooted_layer s.power.plantHigh i)
  | tick order => exact leaves_next.mpr (h.tick order)
  | hushExpiry => exact leaves_next.mpr (by split <;> exact h)
  | egressLineChange asserted => exact leaves_next.mpr (by split <;> exact h)
  | debouncedAssertion =>
    refine leaves_next.mpr ?_
    split
    · dsimp only
      split
      · rename_i awake
        have lit := h.latchEgress.lightEgress (by simpa [State.awake] using awake)
        exact lit.congr (by simp) (by simp [State.cancelSleep_power])
      · exact h.latchEgress
    · exact h
  | debouncedDeassertion => exact leaves_next.mpr (by split <;> exact h)
  | startLayer tag p => exact leaves_next.mpr (h.serve rfl fun t ht ha => ht.startLayer ha p)
  | startScene tag p => exact leaves_next.mpr (h.serve rfl fun t ht ha => ht.startScene ha p)
  | stopLayerImmediate tag p => exact leaves_next.mpr (h.serve rfl fun t ht _ => ht.stopLayer p)
  | stopLayerAtEnd tag p => exact leaves_next.mpr (h.serve rfl fun t ht _ => ht.stopLayer p)
  | setLevel tag p => exact leaves_next.mpr (h.serve rfl fun t ht ha => ht.setLevel ha p)
  | setMaster tag p => exact leaves_next.mpr (h.serve rfl fun t ht _ => ht.setMaster p)
  | hush tag p => exact leaves_next.mpr (h.serve rfl fun t ht _ => ht.hush p)
  | setPolicy tag p => exact leaves_next.mpr (h.serve rfl fun t ht _ => ht.setPolicy p)
  | raiseAlert tag p => exact leaves_next.mpr (h.serve rfl fun t ht ha => ht.raiseAlertRequest ha p)
  | clearAlertAtEnd tag p => exact leaves_next.mpr (h.serve rfl fun t ht _ => ht.clearAlertRequest p)
  | clearAlertImmediate tag p => exact leaves_next.mpr (h.serve rfl fun t ht _ => ht.clearAlertRequest p)
  | loadCues tag p => exact leaves_next.mpr (h.serve rfl fun t ht _ => ht.loadCues p)
  | putScene tag p => exact leaves_next.mpr (h.serve rfl fun t ht _ => ht.putScene p)
  | putSceneRemove tag p => exact leaves_next.mpr (h.serve rfl fun t ht _ => ht.putScene p)
  | vehicleEvent tag p => exact leaves_next.mpr (h.serve rfl fun t ht ha => ht.vehicleEvent ha p)
  | putTrigger tag p => exact leaves_next.mpr (h.serve rfl fun t ht _ => ht.putTrigger p)
  | restartTaken =>
    refine leaves_next.mpr ?_
    split
    · exact (FloorHolds.rebooted s s.power.plantHigh).congr rfl rfl
    · exact h
  | sleep tag p => exact leaves_next.mpr (h.serve rfl fun t ht _ => ht.sleep)
  | dormantEntry =>
    refine leaves_next.mpr ?_
    split
    · obtain ⟨highest, above, nonScene, cancel, -⟩ := h
      exact ⟨highest, above, nonScene, cancel, by simp⟩
    · exact h
  | wakeByLink => exact leaves_next.mpr (by split; exacts [.wake s, h])
  | wakeByEgress => exact leaves_next.mpr (by split; exacts [.wake s, h])
  | _ => exact absurd rfl acts

/-- Settles O5: every command keeps the law of the floor, for a floor evaluation of fitting states establishes it. -/
theorem stepKeepsFloor : Obligations.StepKeepsFloor :=
  step_keeps (fun _ _ h => h) exec_keeps_floor

end Sys2Proof.Machine

namespace Sys2Proof.Machine

/-! ### Levels in the range of their slots (R1) -/

@[simp] theorem isScene_alertSlot : isScene alertSlot = false := rfl
@[simp] theorem isScene_egressSlot : isScene egressSlot = false := rfl

theorem levelInRange_of_fits {i : Slot} {level : Nat} (h : levelFits i level = true) (hi : i ≠ egressSlot) :
    levelInRange i level := by
  unfold levelFits at h
  unfold levelInRange
  cases hs : isScene i
  · have alert : i = alertSlot := by
      simp only [isScene, decide_eq_false_iff_not, Nat.not_lt] at hs
      have : i.val ≠ 11 := fun e => hi (Fin.ext e)
      exact Fin.ext (by change i.val = 10; omega)
    simpa [hs, alert] using h
  · simpa [hs] using h

theorem levelInRange_scene {i : Slot} {level : Nat} (hi : isScene i = true) (h : level ≤ 7) : levelInRange i level := by
  simpa [levelInRange, hi] using h

theorem levelInRange_egress : levelInRange egressSlot 15 := by
  unfold levelInRange; decide

theorem isScene_of_le {n : Nat} {i : Slot} (h : slotOf n = some i) (hn : n ≤ 9) : isScene i = true := by
  unfold slotOf at h
  split at h
  · cases h
    simp only [isScene, decide_eq_true_eq]
    omega
  · cases h

theorem Scene.level_le {c : Scene} (h : c.inBounds = true) : c.level ≤ 7 := by
  simp only [Scene.inBounds, Bool.and_eq_true, decide_eq_true_eq] at h
  exact h.2

theorem findScene_mem {library : List Scene} {id : Nat} {c : Scene} (h : findScene library id = some c) :
    c ∈ library ∧ c.id = id :=
  ⟨List.mem_of_find?_eq_some h, by simpa using List.find?_some h⟩

/-- The level a START SCENE or a trigger asks for is one of a scene slot (R1, R12). -/
theorem Scene.resolve_le {c : Scene} (hc : c.inBounds = true) {level : Nat} (h : level ≤ 7 ∨ level = levelDefault) :
    c.resolve level ≤ 7 := by
  unfold Scene.resolve
  split
  · exact c.level_le hc
  · exact h.resolve_right ‹_›

/-- The library after an insertion holds the new record and old ones. -/
theorem mem_insertScene {library : List Scene} {c e : Scene} (h : e ∈ insertScene library c) : e = c ∨ e ∈ library := by
  induction library with
  | nil => simpa [insertScene] using h
  | cons d rest ih =>
    unfold insertScene at h
    split at h
    · simpa using h
    · split at h
      · rcases List.mem_cons.mp h with h | h
        · exact .inl h
        · exact .inr (List.mem_cons_of_mem _ h)
      · rcases List.mem_cons.mp h with rfl | h
        · exact .inr (List.mem_cons_self ..)
        · exact (ih h).imp_right (List.mem_cons_of_mem _)

/-- Every record that the load takes is in bounds (R45, R199). -/
theorem passing_inBounds {l : List StoredScene} {seen : List Nat} {c : StoredScene} (h : c ∈ passing l seen) :
    c.scene.inBounds = true := by
  induction l generalizing seen with
  | nil => cases h
  | cons d rest ih =>
    unfold passing at h
    split at h
    · rename_i good
      rcases List.mem_cons.mp h with rfl | h
      · simp only [Bool.and_eq_true] at good
        exact good.2
      · exact ih h
    · exact ih h

/-- A START_SCENE entry that PUT TRIGGER takes names a scene slot and a level of one (R170). -/
theorem triggerOfBytes_sound {p : List Byte} {t : Trigger} (h : triggerOfBytes p = some t)
    (action : t.action = .startScene) : t.slot ≤ 9 ∧ (t.level ≤ 7 ∨ t.level = levelDefault) := by
  simp only [triggerOfBytes, Option.bind_eq_bind, Option.bind_eq_some_iff] at h
  obtain ⟨valid, -, endOfTable, -, replace, -, report, -, exclusive, -, a, -, h⟩ := h
  cases a with
  | startScene =>
    dsimp only at h
    split at h
    · cases h
    · rename_i good
      obtain rfl := Option.some.inj h
      simp only [Bool.or_eq_true, Bool.and_eq_true, decide_eq_true_eq, not_or, not_and] at good
      obtain ⟨⟨slot, -⟩, level⟩ := good
      refine ⟨by simpa using slot, ?_⟩
      by_cases le : byteAt p 9 ≤ 7
      · exact .inl le
      · exact .inr (by simpa using level (by simpa using le))
  | _ =>
    dsimp only at h
    split at h <;> cases h
    cases action

/-! ### The law of levels under writes, ends and starts -/

theorem LevelsHold.of_levels {s t : State} (h : LevelsHold s) (levels : ∀ i, (t.layer i).level = (s.layer i).level)
    (library : t.library = s.library) (triggers : t.triggers = s.triggers) : LevelsHold t := by
  obtain ⟨inRange, bounds, sound⟩ := h
  refine ⟨fun i => ?_, fun c hc => bounds c (library ▸ hc), ?_⟩
  · rw [levels i]; exact inRange i
  · unfold TriggersSound
    rw [triggers]
    exact sound

theorem LevelsHold.congr {s t : State} (h : LevelsHold s) (arb : t.arb = s.arb) (library : t.library = s.library)
    (triggers : t.triggers = s.triggers) : LevelsHold t :=
  h.of_levels (fun i => by rw [State.layer_congr arb]) library triggers

theorem LevelsHold.setLayer {s : State} {i : Slot} {l : Layer} (h : LevelsHold s) (hl : levelInRange i l.level) :
    LevelsHold (s.setLayer i l) := by
  obtain ⟨inRange, bounds, sound⟩ := h
  refine ⟨fun j => ?_, bounds, sound⟩
  rw [State.setLayer_layer]
  split
  · subst j; exact hl
  · exact inRange j

/-- A layer record whose level stays keeps the law. -/
theorem LevelsHold.setLayer_level {s : State} {i : Slot} {l : Layer} (h : LevelsHold s)
    (hl : l.level = (s.layer i).level) : LevelsHold (s.setLayer i l) := by
  refine h.setLayer ?_
  rw [hl]
  exact h.1 i

theorem LevelsHold.evalFloor {s : State} (h : LevelsHold s) : LevelsHold s.evalFloor :=
  h.of_levels s.evalFloor_level (by simp) (by simp)

theorem LevelsHold.endLayers {s : State} (h : LevelsHold s) (p : Slot → Layer → Bool) (r : EndReason) :
    LevelsHold (s.endLayers p r).1 :=
  h.of_levels (fun i => by rw [State.endLayers_layer]; split <;> rfl) rfl rfl

theorem LevelsHold.startRing {s : State} (h : LevelsHold s) {i : Slot} {r : RingStart} (hr : levelInRange i r.level) :
    LevelsHold (s.startRing i r) :=
  LevelsHold.evalFloor (h.setLayer (l := (s.layer i).started r (s.startState i r.level)) hr)

theorem LevelsHold.stopSlot {s : State} (h : LevelsHold s) (i : Slot) (r : EndReason) : LevelsHold (s.stopSlot i r) := by
  rw [State.stopSlot_eq]
  exact LevelsHold.evalFloor ((h.endLayers _ r).congr (State.queueAll_arb _ _) (by simp) (by simp))

/-- Slot 11 starts the egress scene or the fallback ring, at level 15 (R25). -/
theorem State.startEgress_cases (s : State) :
    (∃ c, findScene s.library s.store.egressScene = some c ∧ s.store.egressScene ≠ 0 ∧
        s.overlaps (fun _ => true) c.base c.length .resident = false ∧
        s.startEgress = s.startRing egressSlot (c.ring 15 true)) ∨
      ((s.store.egressScene = 0 ∨ findScene s.library s.store.egressScene = none ∨
          ∃ c, findScene s.library s.store.egressScene = some c ∧
            s.overlaps (fun _ => true) c.base c.length .resident = true) ∧
        s.startEgress = s.startRing egressSlot fallbackRing) := by
  unfold State.startEgress
  split
  · exact .inr ⟨.inl ‹_›, rfl⟩
  · split
    · rename_i c hc
      split
      · exact .inr ⟨.inr (.inr ⟨c, hc, ‹_›⟩), rfl⟩
      · exact .inl ⟨c, hc, ‹_›, by simp_all, rfl⟩
    · exact .inr ⟨.inr (.inl ‹_›), rfl⟩

theorem LevelsHold.startEgress {s : State} (h : LevelsHold s) : LevelsHold s.startEgress := by
  rcases s.startEgress_cases with ⟨c, -, -, -, e⟩ | ⟨-, e⟩ <;> rw [e] <;> exact h.startRing levelInRange_egress

theorem LevelsHold.played {s : State} (h : LevelsHold s) {i : Slot} (playing : (s.layer i).state.playing = true) :
    LevelsHold (s.played i) := by
  refine h.of_levels (fun j => ?_) rfl rfl
  by_cases hj : j = i
  · subst j
    exact (Layer.fields_of_setup (s.played_layer_same i playing).1).1
  · rw [s.played_layer_other hj]

theorem LevelsHold.handleSlot {s : State} (h : LevelsHold s) (i : Slot) : LevelsHold (s.handleSlot i) := by
  rcases s.handleSlot_cases i with ⟨-, e⟩ | ⟨playing, e⟩
  · rw [e]; exact h
  · have played := h.played playing
    have raised : LevelsHold ((s.played i).raise .layerRunaway) := played.congr rfl rfl rfl
    rcases e with e | e | e | ⟨rfl, -, e⟩ <;> rw [e]
    · exact played
    · exact LevelsHold.evalFloor (played.setLayer_level rfl)
    · exact LevelsHold.evalFloor (raised.setLayer_level rfl)
    · exact LevelsHold.evalFloor (raised.setLayer levelInRange_egress)

theorem LevelsHold.tick {s : State} (h : LevelsHold s) (order : List Nat) : LevelsHold (s.tick order) := by
  by_cases awake : s.power.part = .awake
  · rw [State.tick_awake awake]
    have ticked : LevelsHold s.ticked :=
      h.of_levels (fun i => by rw [s.ticked_layer]) (by simp [State.ticked, State.tickHush_eq])
        (by simp [State.ticked, State.tickHush_eq])
    exact State.handleLayers_keeps (P := LevelsHold) (fun t i ht => ht.handleSlot i) ticked order
  · rcases State.tick_asleep awake order with e | e <;> rw [e]
    · exact h
    · refine h.of_levels (fun i => ?_) rfl rfl
      simp only [State.layer, Arbiter.tickEgress]
      split <;> rfl

/-! ### The law of levels under requests -/

theorem LevelsHold.startLayer {s : State} (h : LevelsHold s) (p : List Byte) : LevelsHold (startLayer p s).state := by
  rcases startLayer_cases p s with ⟨-, -, e, -⟩ | ⟨_, i, r, -, -, hi, fits, hr, -, -, -, e⟩ <;> rw [e]
  · exact h
  · obtain ⟨mode, -, -, -, -, -, rfl⟩ := startFields_some hr
    exact h.startRing (levelInRange_of_fits fits hi)

theorem LevelsHold.startScene {s : State} (h : LevelsHold s) (p : List Byte) : LevelsHold (startScene p s).state := by
  rcases startScene_cases p s with ⟨-, -, e, -⟩ | ⟨i, c, -, hi, level, hc, -, -, -, e⟩ <;> rw [e]
  · exact h
  · exact h.startRing (levelInRange_scene hi (c.resolve_le (h.2.1 c (findScene_mem hc).1) level))

theorem LevelsHold.stopLayer {s : State} (h : LevelsHold s) (p : List Byte) : LevelsHold (stopLayer p s).state := by
  rcases stopLayer_cases p s with ⟨-, -, e, -⟩ | ⟨i, -, -, -, ⟨-, -, e⟩ | ⟨-, e⟩⟩ <;> rw [e]
  · exact h
  · exact h.setLayer_level rfl
  · exact h.stopSlot i _

theorem LevelsHold.setLevel {s : State} (h : LevelsHold s) (p : List Byte) : LevelsHold (setLevel p s).state := by
  rcases setLevel_cases p s with ⟨-, -, e, -⟩ | ⟨i, -, hi, fits, e⟩
  · rw [e]; exact h
  · have written : LevelsHold (s.setLayer i ((s.layer i).withLevel i (byteAt p 1))) :=
      h.setLayer (levelInRange_of_fits fits hi)
    rcases e with ⟨-, e⟩ | ⟨-, -, e⟩ <;> rw [e]
    · exact written
    · exact written.evalFloor

theorem LevelsHold.setPolicy {s : State} (h : LevelsHold s) (p : List Byte) : LevelsHold (setPolicy p s).state := by
  rcases setPolicy_cases p s with ⟨-, -, e, -⟩ | ⟨k, -, e⟩ <;> rw [e]
  · exact h
  · have set : LevelsHold (s.withPolicy k) := h
    refine LevelsHold.evalFloor ?_
    split
    · exact set.of_levels (fun i => by rw [State.cutSuspended_layer]; split <;> rfl) (by simp [State.cutSuspended])
        (by simp [State.cutSuspended])
    · exact set

theorem LevelsHold.raiseAlert {s : State} (h : LevelsHold s) (id : Nat) (exclusive : Bool) :
    LevelsHold (s.raiseAlert id exclusive).state := by
  rcases s.raiseAlert_cases id exclusive with ⟨-, -, e, -⟩ | ⟨c, -, -, -, e⟩ | ⟨c, -, -, -, e⟩ <;>
    rw [e] <;> try rw [Answer.plain_state]
  · exact h
  · exact h.setLayer_level rfl
  · have latched : LevelsHold (s.setLayer alertSlot { s.layer alertSlot with latch := true }) := h.setLayer_level rfl
    exact latched.startRing (h.1 alertSlot)

theorem LevelsHold.raiseAlertRequest {s : State} (h : LevelsHold s) (p : List Byte) :
    LevelsHold (Machine.raiseAlert p s).state := by
  rcases raiseAlert_cases p s with ⟨-, -, e, -⟩ | ⟨exclusive, -, -, e⟩ <;> rw [e]
  · exact h
  · exact h.raiseAlert _ _

theorem LevelsHold.clearAlert {s : State} (h : LevelsHold s) (i : Slot) (atEnd : Bool) :
    LevelsHold (s.clearAlert i atEnd).state := by
  rcases s.clearAlert_cases i atEnd with ⟨-, -, e, -⟩ | ⟨-, ⟨-, -, e⟩ | ⟨-, -, e⟩ | ⟨-, -, e⟩⟩ <;>
    rw [e] <;> try rw [Answer.plain_state]
  · exact h
  · exact h.setLayer_level rfl
  · exact h.setLayer_level rfl
  · have cleared : LevelsHold (s.setLayer i { s.layer i with latch := false }) := h.setLayer_level rfl
    exact cleared.stopSlot i _

theorem LevelsHold.clearAlertRequest {s : State} (h : LevelsHold s) (p : List Byte) :
    LevelsHold (Machine.clearAlert p s).state := by
  rcases clearAlert_cases p s with ⟨-, -, e, -⟩ | ⟨i, atEnd, -, -, -, e⟩ <;> rw [e]
  · exact h
  · exact h.clearAlert i atEnd

theorem LevelsHold.replaced {s : State} (h : LevelsHold s) (i : Slot) : LevelsHold (s.replaced i) := by
  unfold State.replaced
  split
  · exact h
  · exact (h.endLayers _ _).congr (State.queueAll_arb _ _) (by simp) (by simp)

/-- A trigger of the table keeps the levels: its START_SCENE names a scene slot and a level of one (R170). -/
theorem LevelsHold.act {s : State} (h : LevelsHold s) {t : Trigger}
    (sound : t.action = .startScene → t.slot ≤ 9 ∧ (t.level ≤ 7 ∨ t.level = levelDefault)) : LevelsHold (s.act t).1 := by
  rcases s.act_cases t with e | ⟨i, c, action, hi, hc, e⟩ | ⟨i, -, -, e⟩ | e | ⟨i, atEnd, -, e⟩
  · rw [e]; exact h
  · obtain ⟨slot, level⟩ := sound action
    have inRange : levelInRange i (c.resolve t.level) :=
      levelInRange_scene (isScene_of_le hi slot) (c.resolve_le (h.2.1 c (findScene_mem hc).1) level)
    rcases e with e | e <;> rw [e]
    · rcases s.triggerStart_cases i c (c.resolve t.level) with e | ⟨-, -, -, e⟩ <;> rw [e]
      · exact h
      · exact h.startRing inRange
    · rcases s.triggerReplace_cases i c (c.resolve t.level) with e | ⟨-, -, e⟩ <;> rw [e]
      · exact h
      · exact (h.replaced i).startRing inRange
  · rw [e]; exact h.setLayer_level rfl
  · rw [e]; exact h.raiseAlert _ _
  · rw [e]; exact h.clearAlert i atEnd

/-- The match of a scan is an entry of the table. -/
theorem scanFrom_mem {code : BitVec 16} {l : List Trigger} {i k : Nat} {t : Trigger}
    (h : scanFrom code l i = some (k, t)) : t ∈ l := by
  induction l generalizing i with
  | nil => cases h
  | cons x rest ih =>
    unfold scanFrom at h
    split at h
    · cases h
    · split at h
      · cases h; exact List.mem_cons_self ..
      · exact List.mem_cons_of_mem _ (ih h)

theorem TriggersSound.of_scan {s : State} (h : TriggersSound s) {code : BitVec 16} {k : Nat} {t : Trigger}
    (hs : scan s.triggers code = some (k, t)) :
    t.action = .startScene → t.slot ≤ 9 ∧ (t.level ≤ 7 ∨ t.level = levelDefault) := by
  obtain ⟨i, hi, rfl⟩ := List.mem_iff_getElem.mp (scanFrom_mem hs)
  rw [Vector.length_toList] at hi
  simpa using h ⟨i, hi⟩

theorem LevelsHold.vehicleEvent {s : State} (h : LevelsHold s) (p : List Byte) :
    LevelsHold (vehicleEvent p s).state := by
  rcases vehicleEvent_cases p s with ⟨-, -, e, -⟩ | ⟨k, t, hs, e⟩ <;> rw [e]
  · exact h
  · have acted := h.act (h.2.2.of_scan hs)
    rw [Answer.plain_state]
    split
    · exact acted.congr rfl rfl rfl
    · exact acted

theorem LevelsHold.putScene {s : State} (h : LevelsHold s) (p : List Byte) : LevelsHold (Machine.putScene p s).state := by
  obtain ⟨inRange, bounds, sound⟩ := h
  rcases putScene_cases p s with ⟨-, -, e, -⟩ | ⟨-, -, e⟩ | ⟨c, -, -, hc, -, e⟩ <;> rw [e]
  · exact ⟨inRange, bounds, sound⟩
  · exact ⟨inRange, fun d hd => bounds d (List.mem_of_mem_filter hd), sound⟩
  · refine ⟨inRange, fun d hd => ?_, sound⟩
    rcases mem_insertScene hd with rfl | hd
    · exact hc
    · exact bounds d hd

theorem LevelsHold.putTrigger {s : State} (h : LevelsHold s) (p : List Byte) :
    LevelsHold (Machine.putTrigger p s).state := by
  obtain ⟨inRange, bounds, sound⟩ := h
  rcases putTrigger_cases p s with ⟨-, -, e, -⟩ | ⟨hk, t, ht, e⟩ <;> rw [e]
  · exact ⟨inRange, bounds, sound⟩
  · refine ⟨inRange, bounds, fun i => ?_⟩
    simp only [Answer.plain_state, Fin.getElem_fin, Vector.getElem_set]
    split
    · exact triggerOfBytes_sound ht
    · exact sound i

/-! ### The law of levels under the events of power and of the EGRESS line -/

theorem LevelsHold.stopLayers {s : State} (h : LevelsHold s) : LevelsHold s.stopLayers.1 := by
  rw [State.stopLayers_eq]
  refine LevelsHold.evalFloor ?_
  exact (h.endLayers (fun _ l => decide (l.state ≠ .idle)) .stopped).of_levels (fun _ => rfl) rfl rfl

/-- Changes of both ports, of both Compositor states, of the link, the Ambient Unit and the free orders, and of the part
state alone. -/
theorem State.sleepPort_frame (s : State) (c : Chain) :
    (s.sleepPort c).1.arb = s.arb ∧ (s.sleepPort c).1.pool = s.pool ∧ (s.sleepPort c).1.library = s.library ∧
      (s.sleepPort c).1.triggers = s.triggers := by
  have same : SameLayers s (s.sleepPort c).1 := by simp [State.sleepPort, SameLayers.refl]
  exact ⟨same.1, same.2.2.1, same.2.2.2.1, same.2.2.2.2⟩

theorem LevelsHold.sleep {s : State} (h : LevelsHold s) : LevelsHold (sleep s).state := by
  rcases sleep_cases s with ⟨-, -, e, -⟩ | ⟨-, -, -, e⟩ <;> rw [e]
  · exact h
  · refine h.stopLayers.congr s.fallAsleep_arb ?_ ?_ <;>
      simp [State.fallAsleep, State.sleepPort_frame]

theorem LibraryInBounds.loadLibrary (s : State) (l : List StoredScene) : LibraryInBounds (s.loadLibrary l) := by
  unfold LibraryInBounds State.loadLibrary
  refine List.foldlRecOn (motive := fun library : List Scene => ∀ c ∈ library, c.inBounds = true) _ _ (by simp) ?_
  intro library hl c hc d hd
  rcases mem_insertScene hd with rfl | hd
  · exact passing_inBounds hc
  · exact hl d hd

theorem LevelsHold.load {s : State} (h : LevelsHold s) : LevelsHold s.load := by
  refine ⟨h.1, fun c hc => ?_, fun i => ?_⟩
  · exact LibraryInBounds.loadLibrary s (s.store.goodLibrary.getD []) c hc
  have entry : s.load.triggers[i] =
      (triggerOfBytes (s.store.settingsRegion.getD StoredSettings.default).triggers[i]).getD Trigger.empty := by
    change (((s.store.settingsRegion.getD StoredSettings.default).triggers.map _)[i]) = _
    simp
  rw [entry]
  cases ht : triggerOfBytes (s.store.settingsRegion.getD StoredSettings.default).triggers[i] with
  | none => intro action; cases action
  | some t => exact triggerOfBytes_sound ht

theorem LevelsHold.enterAwake {s : State} (h : LevelsHold s) : LevelsHold s.enterAwake := by
  have awake : LevelsHold s.awakened := h
  rw [State.enterAwake_eq]
  refine LevelsHold.congr (s := if (s.layer egressSlot).latch then s.awakened.startEgress else s.awakened) ?_
    (by simp) (by simp [State.beginPass]) (by simp [State.beginPass])
  split
  · exact awake.startEgress
  · exact awake

theorem resetLevel_inRange (i : Slot) : levelInRange i (resetLevel i) := by
  unfold levelInRange; revert i; decide

theorem LevelsHold.rebooted (s : State) (plantHigh : Bool) : LevelsHold (s.rebooted plantHigh) := by
  refine ⟨fun i => ?_, fun c (hc : c ∈ []) => (List.not_mem_nil hc).elim, fun i => ?_⟩
  · rw [State.rebooted_layer]; exact resetLevel_inRange i
  · simp [State.rebooted, State.powerOn, Trigger.empty]

theorem LevelsHold.wake {s : State} (h : LevelsHold s) : LevelsHold s.wake :=
  h.of_levels (fun i => by rw [State.wake_layer]) rfl rfl

theorem LevelsHold.lightEgress {s : State} (h : LevelsHold s) : LevelsHold s.lightEgress := by
  unfold State.lightEgress
  split
  · exact h.startEgress
  · exact h.setLayer_level rfl

theorem LevelsHold.latchEgress {s : State} (h : LevelsHold s) : LevelsHold s.takeEgressLevel.latchEgress := by
  have taken : LevelsHold s.takeEgressLevel := h
  have latched : LevelsHold (s.takeEgressLevel.setLayer egressSlot
      { s.takeEgressLevel.layer egressSlot with latch := true }) := taken.setLayer_level rfl
  exact latched.congr (State.raise_arb _ _) rfl rfl

theorem LevelsHold.cancelSleep {s : State} (h : LevelsHold s) : LevelsHold s.cancelSleep := by
  unfold State.cancelSleep
  split <;> exact h

/-- A request keeps the law of levels when its owner does. -/
theorem LevelsHold.serve {f : LinkFrame} {mine : Bool} {owner : State → Answer} {s : State} (h : LevelsHold s)
    (answer : ∀ t, LevelsHold t → LevelsHold (owner t).state) : LevelsHold (s.serve f mine owner) :=
  State.serve_keeps (fun _ _ ht => ht) (fun t _ ht => answer t ht) h

theorem exec_keeps_levels (c : Instr) (s : State) (h : LevelsHold s) : Leaves (exec c s) LevelsHold := by
  by_cases acts : actsOnLayers c = false
  · intro t e
    obtain ⟨arb, -, -, library, triggers⟩ := exec_sameLayers acts s t e
    exact h.congr arb library triggers
  cases c with
  | powerOn hi => exact leaves_next.mpr (.rebooted s hi)
  | startupComplete =>
    refine leaves_next.mpr ?_
    split
    · exact h.load.enterAwake
    · exact h
  | supplyRemoval => exact leaves_next.mpr (LevelsHold.rebooted s s.power.plantHigh)
  | tick order => exact leaves_next.mpr (h.tick order)
  | hushExpiry => exact leaves_next.mpr (by split <;> exact h)
  | egressLineChange asserted => exact leaves_next.mpr (by split <;> exact h)
  | debouncedAssertion =>
    refine leaves_next.mpr ?_
    split
    · dsimp only
      split
      · exact h.latchEgress.lightEgress.cancelSleep
      · exact h.latchEgress
    · exact h
  | debouncedDeassertion => exact leaves_next.mpr (by split <;> exact h)
  | startLayer tag p => exact leaves_next.mpr (h.serve fun t ht => ht.startLayer p)
  | startScene tag p => exact leaves_next.mpr (h.serve fun t ht => ht.startScene p)
  | stopLayerImmediate tag p => exact leaves_next.mpr (h.serve fun t ht => ht.stopLayer p)
  | stopLayerAtEnd tag p => exact leaves_next.mpr (h.serve fun t ht => ht.stopLayer p)
  | setLevel tag p => exact leaves_next.mpr (h.serve fun t ht => ht.setLevel p)
  | setMaster tag p =>
    refine leaves_next.mpr (h.serve fun t ht => ?_)
    rcases setMaster_cases p t with ⟨-, -, e, -⟩ | ⟨on, -, e⟩ <;> rw [e] <;> exact ht
  | hush tag p =>
    refine leaves_next.mpr (h.serve fun t ht => ?_)
    rcases hush_cases p t with ⟨-, -, e, -⟩ | ⟨-, e⟩ <;> rw [e] <;> exact ht
  | setPolicy tag p => exact leaves_next.mpr (h.serve fun t ht => ht.setPolicy p)
  | raiseAlert tag p => exact leaves_next.mpr (h.serve fun t ht => ht.raiseAlertRequest p)
  | clearAlertAtEnd tag p => exact leaves_next.mpr (h.serve fun t ht => ht.clearAlertRequest p)
  | clearAlertImmediate tag p => exact leaves_next.mpr (h.serve fun t ht => ht.clearAlertRequest p)
  | loadCues tag p =>
    refine leaves_next.mpr (h.serve fun t ht => ?_)
    rcases loadCues_cases p t with ⟨-, -, e, -⟩ | ⟨_, _, -, -, -, -, e⟩ <;> rw [e] <;> exact ht
  | putScene tag p => exact leaves_next.mpr (h.serve fun t ht => ht.putScene p)
  | putSceneRemove tag p => exact leaves_next.mpr (h.serve fun t ht => ht.putScene p)
  | vehicleEvent tag p => exact leaves_next.mpr (h.serve fun t ht => ht.vehicleEvent p)
  | putTrigger tag p => exact leaves_next.mpr (h.serve fun t ht => ht.putTrigger p)
  | restartTaken =>
    refine leaves_next.mpr ?_
    split
    · exact LevelsHold.rebooted s s.power.plantHigh
    · exact h
  | sleep tag p => exact leaves_next.mpr (h.serve fun t ht => ht.sleep)
  | dormantEntry => exact leaves_next.mpr (by split <;> exact h)
  | wakeByLink => exact leaves_next.mpr (by split; exacts [h.wake, h])
  | wakeByEgress => exact leaves_next.mpr (by split; exacts [h.wake, h])
  | _ => exact absurd rfl acts

/-- Settles O6: every write of a level is one of the slot's kind, for the library and the trigger table hold none but
levels of scene slots. -/
theorem stepKeepsLevels : Obligations.StepKeepsLevels :=
  step_keeps (fun _ _ h => h) exec_keeps_levels

end Sys2Proof.Machine

namespace Sys2Proof.Machine

/-! ### The latch of slot 11 (R24, R25) -/

/-- A slot that is no scene slot is not touched by a floor evaluation. -/
theorem State.evalFloor_layer_nonScene (s : State) {i : Slot} (h : isScene i = false) :
    s.evalFloor.layer i = s.layer i := by
  rw [s.evalFloor_layer, Layer.underFloor_nonScene _ _ _ _ h]

/-- The level of the line may fall and the latch may be set. -/
theorem EgressLatched.of_latch {s t : State} (h : EgressLatched s)
    (level : t.arb.egressLevel = true → s.arb.egressLevel = true)
    (latch : (s.layer egressSlot).latch = true → (t.layer egressSlot).latch = true) : EgressLatched t :=
  fun ht => latch (h (level ht))

theorem EgressLatched.congr {s t : State} (h : EgressLatched s) (arb : t.arb = s.arb) : EgressLatched t :=
  h.of_latch (by rw [arb]; exact id) (by rw [State.layer_congr arb]; exact id)

theorem EgressLatched.of_deasserted {s : State} (h : s.arb.egressLevel = false) : EgressLatched s :=
  fun ht => by rw [h] at ht; cases ht

theorem EgressLatched.setLayer {s : State} {i : Slot} {l : Layer} (h : EgressLatched s)
    (hl : i = egressSlot → (s.layer i).latch = true → l.latch = true) : EgressLatched (s.setLayer i l) := by
  refine h.of_latch id ?_
  rw [State.setLayer_layer]
  split
  · rename_i hi
    rw [hi]
    exact hl hi.symm
  · exact id

/-- A layer record whose latch stays keeps the law. -/
theorem EgressLatched.setLayer_latch {s : State} {i : Slot} {l : Layer} (h : EgressLatched s)
    (hl : l.latch = (s.layer i).latch) : EgressLatched (s.setLayer i l) :=
  h.setLayer fun _ => by rw [hl]; exact id

theorem EgressLatched.evalFloor {s : State} (h : EgressLatched s) : EgressLatched s.evalFloor :=
  h.of_latch (by simp) (by rw [s.evalFloor_layer_nonScene isScene_egressSlot]; exact id)

theorem EgressLatched.endLayers {s : State} (h : EgressLatched s) (p : Slot → Layer → Bool) (r : EndReason) :
    EgressLatched (s.endLayers p r).1 := by
  refine h.of_latch id ?_
  rw [State.endLayers_layer]
  split <;> exact id

theorem EgressLatched.startRing {s : State} (h : EgressLatched s) (i : Slot) (r : RingStart) :
    EgressLatched (s.startRing i r) :=
  EgressLatched.evalFloor (h.setLayer_latch (l := (s.layer i).started r (s.startState i r.level)) rfl)

theorem EgressLatched.startEgress {s : State} (h : EgressLatched s) : EgressLatched s.startEgress := h.startRing _ _

theorem EgressLatched.stopSlot {s : State} (h : EgressLatched s) (i : Slot) (r : EndReason) :
    EgressLatched (s.stopSlot i r) := by
  rw [State.stopSlot_eq]
  exact EgressLatched.evalFloor ((h.endLayers _ r).congr (State.queueAll_arb _ _))

theorem EgressLatched.played {s : State} (h : EgressLatched s) {i : Slot} (playing : (s.layer i).state.playing = true) :
    EgressLatched (s.played i) := by
  refine h.of_latch id ?_
  by_cases hi : egressSlot = i
  · subst i
    obtain ⟨-, -, -, -, -, -, -, latch⟩ := Layer.fields_of_setup (s.played_layer_same egressSlot playing).1
    rw [latch]
    exact id
  · rw [s.played_layer_other hi]
    exact id

theorem EgressLatched.handleSlot {s : State} (h : EgressLatched s) (i : Slot) : EgressLatched (s.handleSlot i) := by
  rcases s.handleSlot_cases i with ⟨-, e⟩ | ⟨playing, e⟩
  · rw [e]; exact h
  · have played := h.played playing
    have raised : EgressLatched ((s.played i).raise .layerRunaway) := played.congr rfl
    have ended : ∀ r, i = egressSlot → ((s.played i).layer i).latch = true →
        (((s.played i).layer i).toIdle i r).latch = true := fun r hi hl => by
      subst hi; exact hl
    rcases e with e | e | e | ⟨rfl, -, e⟩ <;> rw [e]
    · exact played
    · exact EgressLatched.evalFloor (played.setLayer (ended _))
    · exact EgressLatched.evalFloor (raised.setLayer (ended _))
    · exact EgressLatched.evalFloor (raised.setLayer_latch rfl)

theorem EgressLatched.tick {s : State} (h : EgressLatched s) (order : List Nat) : EgressLatched (s.tick order) := by
  by_cases awake : s.power.part = .awake
  · rw [State.tick_awake awake]
    have ticked : EgressLatched s.ticked :=
      h.of_latch (by rw [s.ticked_arb]; exact id) (by rw [s.ticked_layer]; exact id)
    exact State.handleLayers_keeps (P := EgressLatched) (fun t i ht => ht.handleSlot i) ticked order
  · rcases State.tick_asleep awake order with e | e <;> rw [e]
    · exact h
    · unfold Arbiter.tickEgress
      split <;> exact h

/-! ### The latch of slot 11 under requests -/

theorem EgressLatched.setPolicy {s : State} (h : EgressLatched s) (p : List Byte) :
    EgressLatched (Machine.setPolicy p s).state := by
  rcases setPolicy_cases p s with ⟨-, -, e, -⟩ | ⟨k, -, e⟩ <;> rw [e]
  · exact h
  · have set : EgressLatched (s.withPolicy k) := h
    refine EgressLatched.evalFloor ?_
    split
    · refine set.of_latch (by simp [State.cutSuspended, State.endLayers]) ?_
      rw [State.cutSuspended_layer]
      split <;> exact id
    · exact set

theorem EgressLatched.raiseAlert {s : State} (h : EgressLatched s) (id : Nat) (exclusive : Bool) :
    EgressLatched (s.raiseAlert id exclusive).state := by
  have latched : ∀ l, EgressLatched (s.setLayer alertSlot l) := fun l => h.setLayer fun e => absurd e (by decide)
  rcases s.raiseAlert_cases id exclusive with ⟨-, -, e, -⟩ | ⟨c, -, -, -, e⟩ | ⟨c, -, -, -, e⟩ <;> rw [e]
  · exact h
  · rw [Answer.plain_state]
    exact latched _
  · rw [Answer.plain_state]
    exact (latched _).startRing _ _

/-- CLEAR ALERT clears no latch of slot 11 while the debounced level is asserted (R22). -/
theorem EgressLatched.clearAlert {s : State} (h : EgressLatched s) (i : Slot) (atEnd : Bool) :
    EgressLatched (s.clearAlert i atEnd).state := by
  have cleared : ∀ l, ¬(i = egressSlot ∧ s.arb.egressLevel = true) → EgressLatched (s.setLayer i l) := fun l line => by
    by_cases hi : i = egressSlot
    · exact .of_deasserted (show s.arb.egressLevel = false by simpa [hi] using line)
    · exact h.setLayer fun e => absurd e hi
  rcases s.clearAlert_cases i atEnd with ⟨-, -, e, -⟩ | ⟨line, ⟨-, -, e⟩ | ⟨-, -, e⟩ | ⟨-, -, e⟩⟩ <;>
    rw [e]
  · exact h
  · rw [Answer.plain_state]
    exact cleared _ line
  · rw [Answer.plain_state]
    exact cleared _ line
  · rw [Answer.plain_state]
    exact (cleared { s.layer i with latch := false } line).stopSlot i _

theorem EgressLatched.replaced {s : State} (h : EgressLatched s) (i : Slot) : EgressLatched (s.replaced i) := by
  unfold State.replaced
  split
  · exact h
  · exact (h.endLayers _ _).congr (State.queueAll_arb _ _)

theorem EgressLatched.act {s : State} (h : EgressLatched s) (t : Trigger) : EgressLatched (s.act t).1 := by
  rcases s.act_cases t with e | ⟨i, c, -, -, -, e | e⟩ | ⟨i, -, -, e⟩ | e | ⟨i, atEnd, -, e⟩ <;> rw [e]
  · exact h
  · rcases s.triggerStart_cases i c (c.resolve t.level) with e | ⟨-, -, -, e⟩ <;> rw [e]
    · exact h
    · exact h.startRing i _
  · rcases s.triggerReplace_cases i c (c.resolve t.level) with e | ⟨-, -, e⟩ <;> rw [e]
    · exact h
    · exact (h.replaced i).startRing i _
  · exact h.setLayer_latch rfl
  · exact h.raiseAlert _ _
  · exact h.clearAlert i atEnd

theorem EgressLatched.sleep {s : State} (h : EgressLatched s) : EgressLatched (sleep s).state := by
  rcases sleep_cases s with ⟨-, -, e, -⟩ | ⟨-, -, -, e⟩ <;> rw [e]
  · exact h
  · have stopped : EgressLatched s.stopLayers.1 := by
      rw [State.stopLayers_eq]
      exact EgressLatched.evalFloor (h.endLayers (fun _ l => decide (l.state ≠ .idle)) .stopped)
    exact stopped.congr s.fallAsleep_arb

/-! ### The latch of slot 11 under the events of power and of the EGRESS line -/

theorem EgressLatched.enterAwake {s : State} (h : EgressLatched s) : EgressLatched s.enterAwake := by
  have awake : EgressLatched s.awakened := h
  rw [State.enterAwake_eq]
  refine EgressLatched.congr (s := if (s.layer egressSlot).latch then s.awakened.startEgress else s.awakened) ?_ (by simp)
  split
  · exact awake.startEgress
  · exact awake

/-- A debounced assertion sets the latch (R25). -/
theorem State.latchEgress_latch (s : State) : (s.latchEgress.layer egressSlot).latch = true := by
  simp [State.latchEgress, State.layer_congr (State.raise_arb _ _)]

theorem EgressLatched.lightEgress {s : State} (h : EgressLatched s) : EgressLatched s.lightEgress := by
  unfold State.lightEgress
  split
  · exact h.startEgress
  · exact h.setLayer_latch rfl

/-- A request keeps the law of the latch when its owner does. -/
theorem EgressLatched.serve {f : LinkFrame} {mine : Bool} {owner : State → Answer} {s : State} (h : EgressLatched s)
    (answer : ∀ t, EgressLatched t → EgressLatched (owner t).state) : EgressLatched (s.serve f mine owner) :=
  State.serve_keeps (fun _ _ ht => ht) (fun t _ ht => answer t ht) h

theorem exec_keeps_egressLatched (c : Instr) (s : State) (h : EgressLatched s) : Leaves (exec c s) EgressLatched := by
  by_cases acts : actsOnLayers c = false
  · intro t e
    exact h.congr (exec_sameLayers acts s t e).1
  have stop : ∀ (t : State) (p : List Byte), EgressLatched t → EgressLatched (stopLayer p t).state := fun t p ht => by
    rcases stopLayer_cases p t with ⟨-, -, e, -⟩ | ⟨i, -, -, -, ⟨-, -, e⟩ | ⟨-, e⟩⟩ <;> rw [e]
    exacts [ht, ht.setLayer_latch rfl, ht.stopSlot i _]
  have clear : ∀ (t : State) (p : List Byte), EgressLatched t → EgressLatched (clearAlert p t).state := fun t p ht => by
    rcases clearAlert_cases p t with ⟨-, -, e, -⟩ | ⟨i, atEnd, -, -, -, e⟩ <;> rw [e]
    exacts [ht, ht.clearAlert i atEnd]
  have put : ∀ (t : State) (p : List Byte), EgressLatched t → EgressLatched (putScene p t).state := fun t p ht => by
    rcases putScene_cases p t with ⟨-, -, e, -⟩ | ⟨-, -, e⟩ | ⟨_, -, -, -, -, e⟩ <;> rw [e] <;> exact ht
  cases c with
  | powerOn hi => exact leaves_next.mpr (EgressLatched.of_deasserted rfl)
  | startupComplete =>
    refine leaves_next.mpr ?_
    split
    · have loaded : EgressLatched s.load := h
      exact loaded.enterAwake
    · exact h
  | supplyRemoval => exact leaves_next.mpr (EgressLatched.of_deasserted rfl)
  | tick order => exact leaves_next.mpr (h.tick order)
  | hushExpiry => exact leaves_next.mpr (by split <;> exact h)
  | egressLineChange asserted => exact leaves_next.mpr (by split <;> exact h)
  | debouncedAssertion =>
    refine leaves_next.mpr ?_
    split
    · have latched : EgressLatched s.takeEgressLevel.latchEgress := fun _ => State.latchEgress_latch _
      dsimp only
      split
      · exact latched.lightEgress.congr (State.cancelSleep_arb _)
      · exact latched
    · exact h
  | debouncedDeassertion =>
    refine leaves_next.mpr ?_
    split
    · rename_i due
      simp only [Bool.and_eq_true, Bool.not_eq_true'] at due
      exact .of_deasserted due.2
    · exact h
  | startLayer tag p =>
    refine leaves_next.mpr (h.serve fun t ht => ?_)
    rcases startLayer_cases p t with ⟨-, -, e, -⟩ | ⟨_, i, r, -, -, -, -, -, -, -, -, e⟩ <;> rw [e]
    exacts [ht, ht.startRing i r]
  | startScene tag p =>
    refine leaves_next.mpr (h.serve fun t ht => ?_)
    rcases startScene_cases p t with ⟨-, -, e, -⟩ | ⟨i, c, -, -, -, -, -, -, -, e⟩ <;> rw [e]
    exacts [ht, ht.startRing i _]
  | stopLayerImmediate tag p => exact leaves_next.mpr (h.serve fun t ht => stop t p ht)
  | stopLayerAtEnd tag p => exact leaves_next.mpr (h.serve fun t ht => stop t p ht)
  | setLevel tag p =>
    refine leaves_next.mpr (h.serve fun t ht => ?_)
    rcases setLevel_cases p t with ⟨-, -, e, -⟩ | ⟨i, -, -, -, ⟨-, e⟩ | ⟨-, -, e⟩⟩ <;> rw [e]
    exacts [ht, ht.setLayer_latch rfl, EgressLatched.evalFloor (ht.setLayer_latch rfl)]
  | setMaster tag p =>
    refine leaves_next.mpr (h.serve fun t ht => ?_)
    rcases setMaster_cases p t with ⟨-, -, e, -⟩ | ⟨on, -, e⟩ <;> rw [e] <;> exact ht
  | hush tag p =>
    refine leaves_next.mpr (h.serve fun t ht => ?_)
    rcases hush_cases p t with ⟨-, -, e, -⟩ | ⟨-, e⟩ <;> rw [e] <;> exact ht
  | setPolicy tag p => exact leaves_next.mpr (h.serve fun t ht => ht.setPolicy p)
  | raiseAlert tag p =>
    refine leaves_next.mpr (h.serve fun t ht => ?_)
    rcases raiseAlert_cases p t with ⟨-, -, e, -⟩ | ⟨exclusive, -, -, e⟩ <;> rw [e]
    exacts [ht, ht.raiseAlert _ _]
  | clearAlertAtEnd tag p => exact leaves_next.mpr (h.serve fun t ht => clear t p ht)
  | clearAlertImmediate tag p => exact leaves_next.mpr (h.serve fun t ht => clear t p ht)
  | loadCues tag p =>
    refine leaves_next.mpr (h.serve fun t ht => ?_)
    rcases loadCues_cases p t with ⟨-, -, e, -⟩ | ⟨_, _, -, -, -, -, e⟩ <;> rw [e] <;> exact ht
  | putScene tag p => exact leaves_next.mpr (h.serve fun t ht => put t p ht)
  | putSceneRemove tag p => exact leaves_next.mpr (h.serve fun t ht => put t p ht)
  | vehicleEvent tag p =>
    refine leaves_next.mpr (h.serve fun t ht => ?_)
    rcases vehicleEvent_cases p t with ⟨-, -, e, -⟩ | ⟨k, x, -, e⟩ <;> rw [e]
    · exact ht
    · rw [Answer.plain_state]
      split
      exacts [(ht.act x).congr rfl, ht.act x]
  | putTrigger tag p =>
    refine leaves_next.mpr (h.serve fun t ht => ?_)
    rcases putTrigger_cases p t with ⟨-, -, e, -⟩ | ⟨_, _, -, e⟩ <;> rw [e] <;> exact ht
  | restartTaken =>
    refine leaves_next.mpr ?_
    split
    · exact EgressLatched.of_deasserted rfl
    · exact h
  | sleep tag p => exact leaves_next.mpr (h.serve fun t ht => ht.sleep)
  | dormantEntry => exact leaves_next.mpr (by split <;> exact h)
  | wakeByLink => exact leaves_next.mpr (by split; exacts [.of_deasserted rfl, h])
  | wakeByEgress => exact leaves_next.mpr (by split; exacts [.of_deasserted rfl, h])
  | _ => exact absurd rfl acts

/-- Settles O8: the debounced assertion sets the latch, no end or start of slot 11 clears it, and CLEAR ALERT answers
LINE_ACTIVE while the level is asserted. -/
theorem stepKeepsEgressLatched : Obligations.StepKeepsEgressLatched :=
  step_keeps (fun _ _ h => h) exec_keeps_egressLatched

end Sys2Proof.Machine

namespace Sys2Proof.Machine

/-! ### The dimming curve stays in its range (R152) -/

/-- Between two ascending points the curve stays between their factors. -/
theorem section_le {p q : CurvePoint} {x n : Nat} (hp : p.factor ≤ n) (hq : q.factor ≤ n) (lo : p.count ≤ x)
    (hi : x < q.count) : section_ p q x ≤ n := by
  have offset : (0 : Int) ≤ (x : Int) - p.count := by omega
  have width : (0 : Int) < (q.count : Int) - p.count := by omega
  have inside : (x : Int) - p.count ≤ (q.count : Int) - p.count := by omega
  suffices h : (p.factor : Int) +
      (((q.factor : Int) - p.factor) * ((x : Int) - p.count)) / ((q.count : Int) - p.count) ≤ n by
    unfold section_; omega
  rcases le_total p.factor q.factor with rises | falls
  · have rise : (0 : Int) ≤ (q.factor : Int) - p.factor := by omega
    have := Int.ediv_le_ediv width (mul_le_mul_of_nonneg_left inside rise)
    rw [Int.mul_ediv_cancel _ width.ne'] at this
    omega
  · have fall : (q.factor : Int) - p.factor ≤ 0 := by omega
    have := Int.ediv_nonpos_of_nonpos_of_neg (mul_nonpos_of_nonpos_of_nonneg fall offset) width
    omega

/-- Factors bounded at the points bound the curve everywhere. -/
theorem Curve.value_le {c : Curve} {n : Nat} (factors : ∀ q ∈ c.points, q.factor ≤ n) (x : Nat) : c.value x ≤ n := by
  simp only [Curve.points, List.forall_mem_cons, List.not_mem_nil, false_implies, implies_true, and_true] at factors
  obtain ⟨h0, h1, h2, h3, h4⟩ := factors
  unfold Curve.value
  split
  · exact h0
  split
  · exact section_le h0 h1 (by omega) ‹_›
  split
  · exact section_le h1 h2 (by omega) ‹_›
  split
  · exact section_le h2 h3 (by omega) ‹_›
  split
  · exact section_le h3 h4 (by omega) ‹_›
  · exact h4

/-- The curve's counts ascend, with factors of at most 1024 (R152). -/
def Curve.bounded (c : Curve) : Prop := c.ascending = true ∧ ∀ q ∈ c.points, q.factor ≤ Config.one

theorem Curve.default_bounded : Curve.default.bounded := by
  refine ⟨rfl, ?_⟩
  simp [Curve.points, Curve.default, Config.one]

theorem Curve.loaded_bounded (c : Curve) : c.loaded.bounded := by
  unfold Curve.loaded
  dsimp only
  split
  · exact ⟨‹_›, by simp [Curve.points]⟩
  · exact Curve.default_bounded

theorem curveOfBytes_factors (p : List Byte) : ∀ q ∈ (curveOfBytes p).points, q.factor ≤ Config.one := by
  simp [Curve.points, curveOfBytes]

/-- The ranges of the Ambient Unit (R152). -/
def Ambient.inRange (m : Ambient) : Prop :=
  m.measured ≤ Config.one ∧ m.overrideValue ≤ Config.one ∧ m.curve.bounded

theorem factorsHold_iff {s : State} :
    FactorsHold s ↔ s.arb.u ≤ Config.one ∧ s.arb.hush ≤ Config.maxHush * 1000 ∧ s.amb.inRange := Iff.rfl

theorem Ambient.inRange_reset : Ambient.reset.inRange := ⟨by decide, by decide, Curve.default_bounded⟩

section
variable {m : Ambient}

theorem Ambient.inRange.update (h : m.inRange) (n : Nat) : (m.update n).inRange :=
  ⟨Curve.value_le h.2.2.2 _, h.2⟩

theorem Ambient.inRange.judge (h : m.inRange) (n : Nat) : (m.judge n).1.inRange := by
  unfold Ambient.judge
  split
  · split
    · exact h
    · exact Ambient.inRange.update (m := { m with stale := false, staleCount := 0, seeded := false }) h n
  · split
    · exact Ambient.inRange.update (m := { m with staleCount := 0 }) h n
    · split
      · exact Ambient.inRange.update (m := { m with staleCount := m.staleCount + 1 }) h n
      · exact h

theorem Ambient.inRange.restart (h : m.inRange) : m.restart.inRange :=
  ⟨Curve.value_le h.2.2.2 _, Nat.zero_le _, h.2.2⟩

theorem Ambient.inRange.tick (h : m.inRange) (sleepPending : Bool) : (m.tick sleepPending).inRange := by
  unfold Ambient.tick
  split
  · exact h
  · split <;> exact h

end

/-! ### The counters and the port records stay in their ranges (R130, R189) -/

theorem countUp_le (n : Nat) : countUp n ≤ Config.counterTop := Nat.min_le_right _ _

/-- Every link counter is at most 65535 (R189). -/
def Link.inRange (l : Link) : Prop :=
  l.crcErrors ≤ Config.counterTop ∧ l.framingErrors ≤ Config.counterTop ∧ l.timeouts ≤ Config.counterTop ∧
    l.overlength ≤ Config.counterTop ∧ l.overruns ≤ Config.counterTop

theorem countersHold_iff {s : State} : CountersHold s ↔ s.portA.inRange ∧ s.portB.inRange ∧ s.link.inRange := Iff.rfl

section
variable (l : Link)

@[simp] theorem Link.raise_inRange (f : Flag) : (l.raise f).inRange ↔ l.inRange := Iff.rfl

@[simp] theorem Link.raiseIf_inRange (b : Bool) (f : Flag) : (l.raiseIf b f).inRange ↔ l.inRange := by
  unfold Link.raiseIf; split <;> exact Iff.rfl

@[simp] theorem Link.queue_inRange (n : Notice) : (l.queue n).inRange ↔ l.inRange := by
  unfold Link.queue; split <;> exact Iff.rfl

@[simp] theorem Link.queueAll_inRange (ns : List Notice) : (l.queueAll ns).inRange ↔ l.inRange := by
  unfold Link.queueAll
  induction ns generalizing l with
  | nil => rfl
  | cons n ns ih => rw [List.foldl_cons, ih, Link.queue_inRange]

@[simp] theorem Link.startNext_inRange : l.startNext.inRange ↔ l.inRange := by
  unfold Link.startNext
  split
  · exact Iff.rfl
  · split
    · exact Iff.rfl
    · exact Iff.rfl
    · split
      · exact Iff.rfl
      · simp only [Link.inRange, Link.reportFlags]

variable {l}

theorem Link.inRange.deliver (h : l.inRange) (f : LinkFrame) : (l.deliver f).inRange := by
  obtain ⟨crc, framing, timeouts, overlength, overruns⟩ := h
  unfold Link.deliver
  split
  · exact ⟨crc, framing, timeouts, overlength, overruns⟩
  · exact ⟨crc, framing, timeouts, overlength, countUp_le _⟩

theorem Link.inRange.judgeFrame (h : l.inRange) (f : LinkFrame) (crc : Nat) : (l.judgeFrame f crc).inRange := by
  unfold Link.judgeFrame
  dsimp only
  split
  · exact Link.inRange.deliver (l := { l with receiver := .hunt }) h f
  · exact ⟨countUp_le _, h.2⟩

theorem Link.inRange.takeByte (h : l.inRange) (b : Byte) : (l.takeByte b).inRange := by
  unfold Link.takeByte
  split
  · exact h
  · split <;> exact h
  · split
    · obtain ⟨crc, framing, timeouts, -, overruns⟩ := h
      exact ⟨crc, framing, timeouts, countUp_le _, overruns⟩
    · exact h
  · exact h
  · exact h
  · exact h
  · exact h
  · exact h.judgeFrame _ _

theorem Link.inRange.framingError (h : l.inRange) : l.framingError.inRange := by
  unfold Link.framingError
  split
  · exact h
  · exact ⟨h.1, countUp_le _, h.2.2⟩

theorem Link.inRange.takeCharacters (h : l.inRange) (bytes : List Byte) :
    (bytes.foldl (fun l b => l.takeCharacter (characterBits b)) l).inRange := by
  refine List.foldlRecOn bytes _ h fun k hk b _ => ?_
  rw [Link.takeCharacter_bits]
  exact hk.takeByte b

theorem Link.inRange.sent (h : l.inRange) (sleepPending : Bool) : (l.sent sleepPending).inRange := by
  unfold Link.sent
  split
  · exact h
  · dsimp only
    split
    · unfold Link.holdReplyDone
      dsimp only
      split
      · exact h
      · exact h
      · split <;> exact h
    · exact h

end

theorem Port.inRange_reset : Port.reset.inRange := by
  simp [Port.reset, Port.inRange, Config.maxBudget]

section
variable (p : Port)

@[simp] theorem Port.beginNext_inRange (n : Nat) : (p.beginNext n).inRange ↔ p.inRange := by
  unfold Port.beginNext; split <;> exact Iff.rfl

@[simp] theorem Port.fallDue_inRange (n : Nat) (w : Waiting) : (p.fallDue n w).inRange ↔ p.inRange :=
  Port.beginNext_inRange { p with waiting := p.waiting ++ [w] } n

@[simp] theorem Port.resumeIf_inRange (b : Bool) : (p.resumeIf b).inRange ↔ p.inRange := by
  unfold Port.resumeIf
  split
  · dsimp only
    split <;> exact Iff.rfl
  · exact Iff.rfl

@[simp] theorem Port.wake_inRange : p.wake.inRange ↔ p.inRange := by
  unfold Port.wake; split <;> exact Iff.rfl

variable {p}

theorem Port.inRange.judge (h : p.inRange) (correct : Bool) : (p.judge correct).inRange := by
  obtain ⟨failing, correctRun, repeated, aborted, breaks, period⟩ := h
  unfold Port.judge Port.inRange
  split
  · split
    · split
      · exact ⟨failing, by dsimp only; omega, repeated, aborted, breaks, period⟩
      · exact ⟨Nat.zero_le _, Nat.le_refl _, repeated, aborted, breaks, period⟩
    · exact ⟨failing, Nat.zero_le _, repeated, aborted, breaks, period⟩
  · split
    · exact ⟨Nat.zero_le _, correctRun, repeated, aborted, breaks, period⟩
    · split
      · exact ⟨by dsimp only; omega, correctRun, repeated, aborted, breaks, period⟩
      · exact ⟨Nat.le_refl _, Nat.zero_le _, repeated, aborted, countUp_le _, period⟩

theorem Port.inRange.countAbort (h : p.inRange) : p.countAbort.inRange := by
  obtain ⟨failing, correctRun, repeated, -, rest⟩ := h
  exact ⟨failing, correctRun, repeated, countUp_le _, rest⟩

theorem Port.inRange.countRepeat (h : p.inRange) : Port.inRange { p with repeatedFrames := countUp p.repeatedFrames } := by
  obtain ⟨failing, correctRun, -, rest⟩ := h
  exact ⟨failing, correctRun, countUp_le _, rest⟩

theorem Port.inRange.cleared (h : p.inRange) : p.cleared.inRange := by
  obtain ⟨failing, correctRun, -, -, -, rest⟩ := h
  exact ⟨failing, correctRun, Nat.zero_le _, Nat.zero_le _, Nat.zero_le _, rest⟩

theorem clampPeriod_bounds (t : Nat) : 5 ≤ clampPeriod t ∧ clampPeriod t ≤ 40 := by
  unfold clampPeriod; omega

theorem Port.inRange.retimed (h : p.inRange) (pre sel period : Nat) :
    Port.inRange { p with pre := pre, sel := sel, period := clampPeriod period } := by
  obtain ⟨failing, correctRun, repeated, aborted, breaks, -, -, budget⟩ := h
  exact ⟨failing, correctRun, repeated, aborted, breaks, (clampPeriod_bounds _).1, (clampPeriod_bounds _).2, budget⟩

theorem Port.inRange.budgeted (h : p.inRange) (n : Nat) : Port.inRange { p with budget := min n Config.maxBudget } := by
  obtain ⟨failing, correctRun, repeated, aborted, breaks, least, most, -⟩ := h
  exact ⟨failing, correctRun, repeated, aborted, breaks, least, most, Nat.min_le_right _ _⟩

theorem Port.inRange.load (h : p.inRange) (k : PortSettings) : (p.load k).inRange :=
  (h.retimed k.pre k.sel k.period).budgeted k.budget

theorem Port.inRange.unbroken (h : p.inRange) :
    Port.inRange { p with loopBroken := false, failingRun := 0, correctRun := 0 } := by
  obtain ⟨-, -, rest⟩ := h
  exact ⟨Nat.zero_le _, Nat.zero_le _, rest⟩

end

/-! ### What keeps the ranges -/

/-- On the way from `s` to `t` the factors and the counters stay in their ranges. -/
structure KeepsRanges (s t : State) : Prop where
  factors : FactorsHold s → FactorsHold t
  counters : CountersHold s → CountersHold t

theorem KeepsRanges.refl (s : State) : KeepsRanges s s := ⟨id, id⟩

namespace KeepsRanges

variable {s t u : State} (h : KeepsRanges s t)
include h

theorem trans (k : KeepsRanges t u) : KeepsRanges s u := ⟨k.factors ∘ h.factors, k.counters ∘ h.counters⟩

/-- The Arbiter and the Ambient Unit may change where their ranges hold. -/
theorem withFactors (factors : FactorsHold t → FactorsHold u) (portA : u.portA = t.portA := by rfl)
    (portB : u.portB = t.portB := by rfl) (link : u.link = t.link := by rfl) : KeepsRanges s u :=
  h.trans ⟨factors, fun k => by rwa [countersHold_iff, portA, portB, link]⟩

theorem withLink (link : t.link.inRange → u.link.inRange) (arb : u.arb = t.arb := by rfl) (amb : u.amb = t.amb := by rfl)
    (portA : u.portA = t.portA := by rfl) (portB : u.portB = t.portB := by rfl) : KeepsRanges s u :=
  h.trans ⟨fun k => by rwa [factorsHold_iff, arb, amb], fun k => by
    rw [countersHold_iff, portA, portB]; exact ⟨k.1, k.2.1, link k.2.2⟩⟩

theorem raise (f : Flag) : KeepsRanges s (t.raise f) := h.withLink id
theorem raiseIf (b : Bool) (f : Flag) : KeepsRanges s (t.raiseIf b f) := h.withLink (t.link.raiseIf_inRange b f).mpr
theorem queueAll (ns : List Notice) : KeepsRanges s (t.queueAll ns) := h.withLink (t.link.queueAll_inRange ns).mpr
theorem settle : KeepsRanges s t.settle := h.withLink t.link.startNext_inRange.mpr
theorem takeFrame : KeepsRanges s t.takeFrame := h.withLink id
theorem reply (f : LinkFrame) (k : Status) (d : List Byte) : KeepsRanges s (t.reply f k d) := h.withLink id
theorem holdFor (k : Hold) : KeepsRanges s (t.holdFor k) := h.withLink id

theorem queueOpen (ns : List Notice) : KeepsRanges s (t.queueOpen ns) := by
  unfold State.queueOpen
  split
  · exact h.queueAll _
  · exact (h.queueAll _).withLink id

theorem setComp (c : Chain) (k : Comp) : KeepsRanges s (t.setComp c k) := by
  cases c <;> exact h.withLink id

theorem setPort {c : Chain} {p : Port} (hp : (t.port c).inRange → p.inRange) : KeepsRanges s (t.setPort c p) :=
  h.trans (by
    cases c
    · exact ⟨id, fun k => ⟨hp k.1, k.2⟩⟩
    · exact ⟨id, fun k => ⟨k.1, hp k.2.1, k.2.2⟩⟩)

theorem onPort {c : Chain} {f : Port → Port} (hf : ∀ p : Port, p.inRange → (f p).inRange) : KeepsRanges s (t.onPort c f) :=
  h.setPort (hf _)

theorem setLayer (i : Slot) (l : Layer) : KeepsRanges s (t.setLayer i l) := h.withFactors id
theorem endLayers (p : Slot → Layer → Bool) (r : EndReason) : KeepsRanges s (t.endLayers p r).1 := h.withFactors id

theorem evalFloor : KeepsRanges s t.evalFloor := by
  unfold State.evalFloor
  cases t.arb.policy
  · exact h.withFactors id
  · dsimp only
    apply KeepsRanges.queueOpen
    exact h.withFactors fun k => k

theorem startRing (i : Slot) (r : RingStart) : KeepsRanges s (t.startRing i r) := (h.setLayer i _).evalFloor
theorem startEgress : KeepsRanges s t.startEgress := h.startRing _ _

theorem stopSlot (i : Slot) (r : EndReason) : KeepsRanges s (t.stopSlot i r) := by
  rw [State.stopSlot_eq]
  exact ((h.endLayers _ r).queueAll _).evalFloor

theorem leaveRunning (c : Chain) : KeepsRanges s (t.leaveRunning c) := by
  unfold State.leaveRunning
  split
  · exact (h.setComp c _).setPort fun k => by rwa [State.setComp_port] at k
  · exact h

theorem beginPass (c : Chain) : KeepsRanges s (t.beginPass c) := h.setPort fun k => (Port.fallDue_inRange _ _ _).mpr k

theorem closePort (c : Chain) : KeepsRanges s (t.closePort c) := by
  refine h.setPort fun k => ?_
  dsimp only
  split
  · exact k
  · exact (Port.fallDue_inRange _ _ _).mpr k

theorem takeOff (c : Chain) : KeepsRanges s (t.takeOff c).1 := by
  unfold State.takeOff
  split
  · exact (h.leaveRunning c).closePort c
  · exact (h.setPort (p := (t.port c).stopPass) fun k => k).closePort c
  · exact h

theorem completeRender (c : Chain) (f : Frame) : KeepsRanges s (t.completeRender c f) := by
  unfold State.completeRender
  exact ((h.setComp c _).setPort fun k => by exact k).raiseIf _ _

theorem copyFinished (c : Chain) : KeepsRanges s (t.copyFinished c) := by
  unfold State.copyFinished
  split
  · split
    · exact h
    · exact h.completeRender c _
  · exact h

theorem afterTransfer (c : Chain) : KeepsRanges s (t.afterTransfer c) := by
  have ended : KeepsRanges s (t.onPort c Port.endTransfer) := h.onPort fun _ hp => hp
  unfold State.afterTransfer
  refine (ended.copyFinished c).onPort fun p hp => ?_
  rwa [Port.beginNext_inRange, Port.resumeIf_inRange]

theorem absorb (c : Chain) (bytes : List Byte) : KeepsRanges s (t.absorb c bytes) :=
  (h.withLink id : KeepsRanges s { t with dir := t.dir.setNodes c (absorbAll (t.dir.nodes c) bytes) }).raiseIf _ _

theorem judgeTrailer (c : Chain) (trailer : List Byte) (n : Nat) : KeepsRanges s (t.judgeTrailer c trailer n) := by
  have judged := (h.setPort (c := c) fun k => k.judge (trailerCorrect trailer n)).raiseIf
    (((t.port c).judge (trailerCorrect trailer n)).loopBroken && !(t.port c).loopBroken) (loopBreakFlag c)
  unfold State.judgeTrailer
  dsimp only
  split
  · exact judged.absorb c _
  · exact judged

theorem release (c : Chain) : KeepsRanges s (t.release c) := by
  unfold State.release
  exact (((h.leaveRunning c).onPort fun _ hp => by exact hp).queueAll _).raise _

theorem periodStart (c : Chain) : KeepsRanges s (t.periodStart c) := by
  unfold State.periodStart State.latePeriod State.promptPeriod
  split
  · exact h
  · split
    · refine ((h.onPort fun p hp => ?_).setComp c _).raiseIf _ _
      split
      · exact (Port.fallDue_inRange _ _ _).mpr hp.countRepeat
      · exact hp
    · refine (h.onPort fun p hp => ?_).setComp c _
      split
      · exact (Port.fallDue_inRange _ _ _).mpr hp
      · exact hp

theorem completePass (c : Chain) (answers : List NodeAnswer) (outcome : PassOutcome) :
    KeepsRanges s (t.completePass c answers outcome) := by
  have recorded : KeepsRanges s { t with dir := t.dir.complete c answers } := h.withLink id
  unfold State.completePass
  exact (recorded.onPort fun p hp => by rw [Port.beginNext_inRange]; exact hp.unbroken).queueAll _

theorem serve {f : LinkFrame} {mine : Bool} {owner : State → Answer}
    (answer : ∀ r, KeepsRanges s r → KeepsRanges s (owner r).state) : KeepsRanges s (t.serve f mine owner) := by
  rcases t.serve_cases f mine owner with e | ⟨-, -, e⟩ <;> rw [e]
  · exact h
  · refine KeepsRanges.settle (KeepsRanges.reply ?_ _ _ _)
    rcases linkChecked_cases f owner t.takeFrame with ⟨e, -⟩ | ⟨e, -⟩ | ⟨e, -⟩ <;> rw [e]
    · exact h.takeFrame
    · exact h.takeFrame
    · exact answer _ h.takeFrame

theorem onChain {p : List Byte} {owner : Chain → State → Answer} (answer : ∀ c, KeepsRanges s (owner c t).state) :
    KeepsRanges s (onChain p t owner).state := by
  unfold Machine.onChain
  split
  · exact answer _
  · exact h

theorem enumerate (c : Chain) : KeepsRanges s (State.enumerate c t).state := by
  unfold State.enumerate
  split
  · exact (h.onPort (f := Port.unmark) fun _ hp => hp).beginPass c
  · exact (h.leaveRunning c).beginPass c
  · exact h
  · exact h

theorem retime (c : Chain) : KeepsRanges s (t.retime c) := by
  unfold State.retime
  split
  · exact ((h.onPort fun _ hp => hp.countAbort).afterTransfer c).queueAll _
  · exact (h.onPort fun _ hp => by exact hp.countAbort).queueAll _
  · split
    · exact (((h.leaveRunning c).onPort (f := Port.stopPass) fun _ hp => hp).beginPass c).queueAll _
    · exact h

theorem setTiming (pre sel period : Nat) (c : Chain) : KeepsRanges s (State.setTiming pre sel period c t).state := by
  unfold State.setTiming
  split
  · exact h
  · exact (h.onPort fun _ hp => hp.retimed pre sel period).retime c

theorem setChainState (code : Nat) (c : Chain) : KeepsRanges s (State.setChainState code c t).state := by
  unfold State.setChainState State.switchOn State.switchOff
  split
  · split
    · exact h.onPort (f := fun p => p.unmark.run) fun _ hp => hp
    · exact h
    · exact h
  · split
    · exact h
    · exact h
    · exact (h.takeOff c).queueAll _
  · exact h

theorem reclaim (c : Chain) : KeepsRanges s (State.reclaim c t).state := by
  unfold State.reclaim
  dsimp only
  split
  · exact h
  · split
    · exact h
    · rw [Answer.plain_state]
      refine h.onPort fun p hp => ?_
      split <;> exact hp

theorem endWrite (matched : Bool) : KeepsRanges s (t.endWrite matched) := by
  unfold State.endWrite
  split
  · exact h
  · apply KeepsRanges.queueAll
    exact h.withLink id
  · apply KeepsRanges.queueAll
    exact h.withLink id

theorem sleepPort (c : Chain) : KeepsRanges s (t.sleepPort c).1 := by
  unfold State.sleepPort
  dsimp only
  apply (h.takeOff c).onPort
  exact fun _ hp => hp

theorem raiseAlert (id : Nat) (exclusive : Bool) : KeepsRanges s (t.raiseAlert id exclusive).state := by
  rcases t.raiseAlert_cases id exclusive with ⟨-, -, e, -⟩ | ⟨c, -, -, -, e⟩ | ⟨c, -, -, -, e⟩ <;> rw [e]
  · exact h
  · rw [Answer.plain_state]
    exact h.setLayer _ _
  · rw [Answer.plain_state]
    exact (h.setLayer _ _).startRing _ _

theorem clearAlert (i : Slot) (atEnd : Bool) : KeepsRanges s (t.clearAlert i atEnd).state := by
  rcases t.clearAlert_cases i atEnd with ⟨-, -, e, -⟩ | ⟨-, ⟨-, -, e⟩ | ⟨-, -, e⟩ | ⟨-, -, e⟩⟩ <;> rw [e]
  · exact h
  · rw [Answer.plain_state]
    exact h.setLayer _ _
  · rw [Answer.plain_state]
    exact h.setLayer _ _
  · rw [Answer.plain_state]
    exact (h.setLayer i { t.layer i with latch := false }).stopSlot i _

theorem replaced (i : Slot) : KeepsRanges s (t.replaced i) := by
  unfold State.replaced
  split
  · exact h
  · exact (h.endLayers _ _).queueAll _

theorem act (x : Trigger) : KeepsRanges s (t.act x).1 := by
  rcases t.act_cases x with e | ⟨i, c, -, -, -, e | e⟩ | ⟨i, -, -, e⟩ | e | ⟨i, atEnd, -, e⟩ <;> rw [e]
  · exact h
  · rcases t.triggerStart_cases i c (c.resolve x.level) with e | ⟨-, -, -, e⟩ <;> rw [e]
    · exact h
    · exact h.startRing i _
  · rcases t.triggerReplace_cases i c (c.resolve x.level) with e | ⟨-, -, e⟩ <;> rw [e]
    · exact h
    · exact (h.replaced i).startRing i _
  · exact h.setLayer i _
  · exact h.raiseAlert _ _
  · exact h.clearAlert i atEnd

/-- A handling of a slot raises flags and queues notices, and reads no factor (R51). -/
theorem played (i : Slot) : KeepsRanges s (t.played i) := by
  have link : t.link.inRange → (t.played i).link.inRange :=
    Play.handle_link (P := Link.inRange) (fun _ _ => id) (fun l n hl => (l.queue_inRange n).mpr hl) ⟨t.layer i, t.pool, t.link⟩ i
  exact h.trans ⟨id, fun ⟨portA, portB, counters⟩ => ⟨portA, portB, link counters⟩⟩

theorem handleSlot (i : Slot) : KeepsRanges s (t.handleSlot i) := by
  rcases t.handleSlot_cases i with ⟨-, e⟩ | ⟨-, e | e | e | ⟨-, -, e⟩⟩ <;> rw [e]
  · exact h
  · exact h.played i
  · exact ((h.played i).setLayer i _).evalFloor
  · exact (((h.played i).raise _).setLayer i _).evalFloor
  · exact (((h.played i).raise _).setLayer i _).evalFloor

end KeepsRanges

end Sys2Proof.Machine

namespace Sys2Proof.Machine

/-! ### The ranges under the commands that change a factor -/

/-- A reset writes every range anew (R130, R154, R192). -/
theorem KeepsRanges.rebooted (s t : State) (plantHigh : Bool) : KeepsRanges s (t.rebooted plantHigh) :=
  ⟨fun _ => ⟨Nat.le_refl _, Nat.zero_le _, Ambient.inRange_reset⟩,
    fun _ => ⟨Port.inRange_reset, Port.inRange_reset, by simp [State.rebooted, State.powerOn, Link.reset]⟩⟩

theorem State.cutSuspended_eq (s : State) :
    s.cutSuspended =
      (s.endLayers (fun i l => isScene i && decide (l.state = .suspended)) .cut).1.queueOpen
        (s.endLayers (fun i l => isScene i && decide (l.state = .suspended)) .cut).2 := rfl

namespace KeepsRanges

variable {s t : State} (h : KeepsRanges s t)
include h

theorem tick (order : List Nat) : KeepsRanges s (t.tick order) := by
  by_cases awake : t.power.part = .awake
  · rw [State.tick_awake awake]
    have ticked : KeepsRanges s t.ticked := by
      refine h.trans ⟨fun ⟨u, hush, amb⟩ => ?_, fun ⟨portA, portB, link⟩ => ⟨portA, portB, ?_⟩⟩
      · rw [factorsHold_iff, t.ticked_arb]
        exact ⟨u, (Nat.sub_le _ _).trans hush, Ambient.inRange.tick amb _⟩
      · show Link.inRange t.tickHush.link
        rw [t.tickHush_eq]
        dsimp only
        split <;> exact link
    exact (State.handleLayers_keeps (P := KeepsRanges s) (fun _ i hr => hr.handleSlot i) ticked order).settle
  · rcases State.tick_asleep awake order with e | e <;> rw [e]
    · exact h
    · refine h.withFactors fun k => ?_
      rw [factorsHold_iff]
      unfold Arbiter.tickEgress
      split <;> exact k

theorem load : KeepsRanges s t.load := by
  have link : t.load.link = t.link.raiseIf t.store.failing .storeInvalid := rfl
  refine h.trans ⟨fun ⟨_, hush, amb⟩ => ⟨Nat.min_le_right _ _, hush, ?_⟩, fun ⟨portA, portB, counters⟩ => ?_⟩
  · have curve := Curve.loaded_bounded (t.store.settingsRegion.getD StoredSettings.default).curve
    exact ⟨Curve.value_le curve.2 0, amb.2.1, curve⟩
  · rw [countersHold_iff, link]
    exact ⟨portA.load _, portB.load _, (t.link.raiseIf_inRange _ _).mpr counters⟩

theorem enterAwake : KeepsRanges s t.enterAwake := by
  have awakened : KeepsRanges s t.awakened := h.withLink id
  rw [State.enterAwake_eq]
  refine (KeepsRanges.beginPass ?_ .a).beginPass .b
  split
  · exact awakened.startEgress
  · exact awakened

theorem wake : KeepsRanges s t.wake := by
  refine h.trans ⟨fun ⟨u, _, amb⟩ => ⟨u, Nat.zero_le _, Ambient.inRange.restart amb⟩, fun ⟨portA, portB, link⟩ => ?_⟩
  exact ⟨t.portA.wake_inRange.mpr portA, t.portB.wake_inRange.mpr portB, (Link.startNext_inRange _).mpr link⟩

theorem cancelSleep : KeepsRanges s t.cancelSleep := by
  unfold State.cancelSleep
  split
  · refine h.trans ⟨fun ⟨u, hush, amb⟩ => ⟨u, hush, Ambient.inRange.restart amb⟩, fun ⟨portA, portB, link⟩ => ?_⟩
    refine ⟨(t.portA.resumeIf_inRange _).mpr portA, (t.portB.resumeIf_inRange _).mpr portB, ?_⟩
    dsimp only
    split <;> exact link
  · exact h

theorem lightEgress : KeepsRanges s t.lightEgress := by
  unfold State.lightEgress
  split
  · exact h.startEgress
  · exact h.setLayer _ _

theorem fallAsleep : KeepsRanges s t.fallAsleep := by
  have stopped : KeepsRanges s t.stopLayers.1 := by
    rw [State.stopLayers_eq]
    apply KeepsRanges.evalFloor
    exact (h.endLayers (fun _ l => decide (l.state ≠ .idle)) .stopped).withFactors fun ⟨u, _, amb⟩ => ⟨u, Nat.zero_le _, amb⟩
  unfold State.fallAsleep
  dsimp only
  apply KeepsRanges.queueOpen
  apply KeepsRanges.holdFor
  exact ((stopped.sleepPort .a).sleepPort .b).withFactors fun k => k

theorem setCurve (p : List Byte) : KeepsRanges s (setCurve p t).state := by
  unfold Machine.setCurve
  dsimp only
  split
  · exact h
  · rename_i ascending
    refine h.withFactors fun ⟨u, hush, measured, value, _⟩ => ⟨u, hush, ?_, value, by simpa using ascending,
      curveOfBytes_factors p⟩
    dsimp only
    split
    · exact measured
    · exact Curve.value_le (curveOfBytes_factors p) _

theorem setAmbientOverride (p : List Byte) : KeepsRanges s (setAmbientOverride p t).state := by
  unfold Machine.setAmbientOverride
  dsimp only
  split
  · exact h.withFactors fun ⟨u, hush, measured, _, curve⟩ => ⟨u, hush, measured, Nat.min_le_right _ _, curve⟩
  · split
    · exact h.withFactors fun k => k
    · exact h
  · exact h

theorem getCounters (p : List Byte) : KeepsRanges s (getCounters p t).state := by
  unfold Machine.getCounters
  split
  · dsimp only
    split
    · exact h.trans ⟨id, fun ⟨portA, portB, _⟩ => ⟨portA.cleared, portB.cleared, Nat.zero_le _, Nat.zero_le _,
        Nat.zero_le _, Nat.zero_le _, Nat.zero_le _⟩⟩
    · exact h
  · exact h

theorem stopLayer (p : List Byte) : KeepsRanges s (stopLayer p t).state := by
  rcases stopLayer_cases p t with ⟨-, -, e, -⟩ | ⟨i, -, -, -, ⟨-, -, e⟩ | ⟨-, e⟩⟩ <;> rw [e]
  exacts [h, h.setLayer i _, h.stopSlot i _]

theorem setLevel (p : List Byte) : KeepsRanges s (setLevel p t).state := by
  rcases setLevel_cases p t with ⟨-, -, e, -⟩ | ⟨i, -, -, -, ⟨-, e⟩ | ⟨-, -, e⟩⟩ <;> rw [e]
  exacts [h, h.setLayer i _, (h.setLayer i _).evalFloor]

theorem setMaster (p : List Byte) : KeepsRanges s (setMaster p t).state := by
  rcases setMaster_cases p t with ⟨-, -, e, -⟩ | ⟨on, -, e⟩ <;> rw [e]
  exacts [h, h.withFactors fun ⟨_, k⟩ => ⟨Nat.min_le_right _ _, k⟩]

theorem hush (p : List Byte) : KeepsRanges s (hush p t).state := by
  rcases hush_cases p t with ⟨-, -, e, -⟩ | ⟨-, e⟩ <;> rw [e]
  exacts [h, h.withFactors fun ⟨u, _, k⟩ => ⟨u, Nat.mul_le_mul_right _ (Nat.min_le_right _ _), k⟩]

theorem cutSuspended : KeepsRanges s t.cutSuspended := by
  rw [State.cutSuspended_eq]
  exact (h.endLayers _ _).queueOpen _

theorem setPolicy (p : List Byte) : KeepsRanges s (setPolicy p t).state := by
  rcases setPolicy_cases p t with ⟨-, -, e, -⟩ | ⟨k, -, e⟩ <;> rw [e]
  · exact h
  · have set : KeepsRanges s (t.withPolicy k) := h.withFactors fun k => k
    apply KeepsRanges.evalFloor
    split
    · exact set.cutSuspended
    · exact set

theorem clearAlertRequest (p : List Byte) : KeepsRanges s (Machine.clearAlert p t).state := by
  rcases clearAlert_cases p t with ⟨-, -, e, -⟩ | ⟨i, atEnd, -, -, -, e⟩ <;> rw [e]
  exacts [h, h.clearAlert i atEnd]

theorem putScene (p : List Byte) : KeepsRanges s (putScene p t).state := by
  rcases putScene_cases p t with ⟨-, -, e, -⟩ | ⟨-, -, e⟩ | ⟨_, -, -, -, -, e⟩ <;> rw [e]
  exacts [h, h.withLink id, h.withLink id]

theorem vehicleEvent (p : List Byte) : KeepsRanges s (vehicleEvent p t).state := by
  rcases vehicleEvent_cases p t with ⟨-, -, e, -⟩ | ⟨k, x, -, e⟩ <;> rw [e]
  · exact h
  · rw [Answer.plain_state]
    split
    exacts [(h.act x).queueAll _, h.act x]

end KeepsRanges

theorem exec_keeps_ranges (c : Instr) (s : State) : Leaves (exec c s) (KeepsRanges s) := by
  have same := KeepsRanges.refl s
  cases c with
  | powerOn hi => exact leaves_next.mpr (.rebooted s s hi)
  | startupComplete =>
    refine leaves_next.mpr ?_
    split
    · exact same.load.enterAwake.settle
    · exact same
  | supplyRemoval => exact leaves_next.mpr ((KeepsRanges.rebooted s s s.power.plantHigh).withLink id)
  | tick order => exact leaves_next.mpr (same.tick order)
  | hushExpiry =>
    refine leaves_next.mpr ?_
    split
    · have expired : KeepsRanges s s.expireHush :=
        (same.withFactors (fun ⟨u, _, amb⟩ => ⟨u, Nat.zero_le _, amb⟩) :
          KeepsRanges s { s with arb := { s.arb with hush := 0 } }).raise _
      exact expired.settle
    · exact same
  | egressLineChange asserted =>
    refine leaves_next.mpr ?_
    split
    · exact same
    · exact same.withFactors fun k => k
  | debouncedAssertion =>
    refine leaves_next.mpr ?_
    split
    · have taken : KeepsRanges s s.takeEgressLevel := same.withFactors fun k => k
      have latched : KeepsRanges s s.takeEgressLevel.latchEgress := (taken.setLayer _ _).raise _
      apply KeepsRanges.settle
      split
      · exact latched.lightEgress.cancelSleep
      · exact latched
    · exact same
  | debouncedDeassertion =>
    refine leaves_next.mpr ?_
    split
    · exact same.withFactors fun k => k
    · exact same
  | luxEdge =>
    refine leaves_next.mpr ?_
    split
    · exact same.withFactors fun k => k
    · exact same
  | gateWindowEnd =>
    refine leaves_next.mpr ?_
    split
    · apply KeepsRanges.settle
      apply KeepsRanges.raiseIf
      exact same.withFactors fun ⟨u, hush, amb⟩ => ⟨u, hush, Ambient.inRange.judge amb _⟩
    · exact same
  | periodStart c =>
    refine leaves_next.mpr ?_
    split
    · exact ((same.onPort (c := c) fun _ hp => by exact hp).periodStart c).settle
    · exact same
  | renderComplete c =>
    refine leaves_next.mpr ?_
    unfold State.finishRender
    split
    · split
      · split
        · exact (same.setComp _ _).settle
        · exact (same.completeRender _ _).settle
      · exact same
    · exact same
  | latchPoint c =>
    have read : ∀ d, KeepsRanges s { s with dir := d } := fun d => same.withLink id
    refine leaves_next.mpr ?_
    split
    · split
      · rename_i f o _
        unfold State.latchDuty
        refine (read _).onPort fun p hp => ?_
        cases o <;> exact hp
      · unfold State.latchDarkFrame
        exact (read _).onPort fun p hp => by exact hp
      · exact same
    · exact same
  | shiftEnd c trailer =>
    refine leaves_next.mpr ?_
    split
    · split
      · exact ((same.judgeTrailer _ _ _).afterTransfer _).settle
      · exact same
    · exact same
  | identifyRequestEnd c =>
    refine leaves_next.mpr ?_
    split
    · exact same.onPort fun _ hp => by exact hp
    · exact same
  | settleEnd c =>
    refine leaves_next.mpr ?_
    split
    · exact same.onPort fun _ hp => by exact hp
    · exact same
  | collectEnd c returned =>
    refine leaves_next.mpr ?_
    split
    · exact (same.completePass c _ _).settle
    · exact same
  | collectMarkerTimeout c =>
    refine leaves_next.mpr ?_
    split
    · exact ((same.onPort fun p hp => by rw [Port.beginNext_inRange]; exact hp).queueAll _).settle
    · exact same
  | foreignActivity c =>
    refine leaves_next.mpr ?_
    split
    · have heard : KeepsRanges s
          (s.onPort c fun p => { p with foreignActive := true, quietTimer := Config.quietTicks }) :=
        same.onPort fun _ hp => hp
      apply KeepsRanges.settle
      split
      · exact heard
      · exact heard.release c
    · exact same
  | foreignQuiet c =>
    refine leaves_next.mpr ?_
    split
    · exact same.onPort fun _ hp => by exact hp
    · exact same
  | frameReceived characters =>
    refine leaves_next.mpr ?_
    split
    · exact KeepsRanges.settle (same.withLink fun hl => hl.takeCharacters characters)
    · exact same
  | framingError =>
    refine leaves_next.mpr ?_
    split
    · exact KeepsRanges.settle (same.withLink fun hl => hl.framingError)
    · exact same
  | interByteTimeout =>
    refine leaves_next.mpr ?_
    split
    · exact KeepsRanges.settle (same.withLink fun ⟨crc, framing, _, rest⟩ => ⟨crc, framing, countUp_le _, rest⟩)
    · exact same
  | linkBreak => exact leaves_next.mpr (by split; exacts [same.withLink id, same])
  | waitIdleEnd => exact leaves_next.mpr (by split; exacts [same.withLink id, same])
  | transmitComplete =>
    refine leaves_next.mpr ?_
    split
    · exact KeepsRanges.settle (same.withLink fun hl => hl.sent _)
    · exact same
  | unknownKind kind tag p =>
    exact leaves_next.mpr (by split; exacts [(same.takeFrame.reply _ _ _).settle, same])
  | reportKindDiscard kind tag p =>
    exact leaves_next.mpr (by split; exacts [(same.takeFrame.raise _).settle, same])
  | ping tag p => exact leaves_next.mpr (same.serve fun _ => id)
  | getStatus tag p => exact leaves_next.mpr (same.serve fun _ => id)
  | getCounters tag p => exact leaves_next.mpr (same.serve fun t ht => ht.getCounters p)
  | setEventMask tag p => exact leaves_next.mpr (same.serve fun t ht => ht.withLink id)
  | clearEvents tag p => exact leaves_next.mpr (same.serve fun t ht => ht.withLink id)
  | startLayer tag p =>
    refine leaves_next.mpr (same.serve fun t ht => ?_)
    rcases startLayer_cases p t with ⟨-, -, e, -⟩ | ⟨_, i, r, -, -, -, -, -, -, -, -, e⟩ <;> rw [e]
    exacts [ht, ht.startRing i r]
  | startScene tag p =>
    refine leaves_next.mpr (same.serve fun t ht => ?_)
    rcases startScene_cases p t with ⟨-, -, e, -⟩ | ⟨i, c, -, -, -, -, -, -, -, e⟩ <;> rw [e]
    exacts [ht, ht.startRing i _]
  | stopLayerImmediate tag p => exact leaves_next.mpr (same.serve fun t ht => ht.stopLayer p)
  | stopLayerAtEnd tag p => exact leaves_next.mpr (same.serve fun t ht => ht.stopLayer p)
  | setLevel tag p => exact leaves_next.mpr (same.serve fun t ht => ht.setLevel p)
  | getLayer tag p =>
    exact leaves_next.mpr (same.serve fun t ht => by unfold getLayer; split <;> exact ht)
  | setMaster tag p => exact leaves_next.mpr (same.serve fun t ht => ht.setMaster p)
  | hush tag p => exact leaves_next.mpr (same.serve fun t ht => ht.hush p)
  | setPolicy tag p => exact leaves_next.mpr (same.serve fun t ht => ht.setPolicy p)
  | raiseAlert tag p =>
    refine leaves_next.mpr (same.serve fun t ht => ?_)
    rcases raiseAlert_cases p t with ⟨-, -, e, -⟩ | ⟨exclusive, -, -, e⟩ <;> rw [e]
    exacts [ht, ht.raiseAlert _ _]
  | clearAlertAtEnd tag p => exact leaves_next.mpr (same.serve fun t ht => ht.clearAlertRequest p)
  | clearAlertImmediate tag p => exact leaves_next.mpr (same.serve fun t ht => ht.clearAlertRequest p)
  | loadCues tag p =>
    refine leaves_next.mpr (same.serve fun t ht => ?_)
    rcases loadCues_cases p t with ⟨-, -, e, -⟩ | ⟨_, _, -, -, -, -, e⟩ <;> rw [e]
    exacts [ht, ht.withLink id]
  | readCues tag p =>
    refine leaves_next.mpr (same.serve fun t ht => ?_)
    unfold readCues
    dsimp only
    split <;> exact ht
  | putScene tag p => exact leaves_next.mpr (same.serve fun t ht => ht.putScene p)
  | putSceneRemove tag p => exact leaves_next.mpr (same.serve fun t ht => ht.putScene p)
  | getScene tag p =>
    refine leaves_next.mpr (same.serve fun t ht => ?_)
    unfold getScene
    split
    · exact ht
    · split <;> exact ht
  | enumerate tag p => exact leaves_next.mpr (same.serve fun t ht => ht.onChain fun c => ht.enumerate c)
  | getNode tag p =>
    refine leaves_next.mpr (same.serve fun t ht => ?_)
    unfold getNode
    split
    · exact ht
    · dsimp only
      split
      · exact ht
      · split <;> exact ht
  | putCatalog tag p =>
    refine leaves_next.mpr (same.serve fun t ht => ?_)
    unfold putCatalog
    split
    · split
      · exact ht
      · split
        · exact ht
        · exact ht.withLink id
    · exact ht
  | getCatalog tag p =>
    exact leaves_next.mpr (same.serve fun t ht => by unfold getCatalog; split <;> exact ht)
  | putZoneSpan tag p =>
    refine leaves_next.mpr (same.serve fun t ht => ?_)
    unfold putZoneSpan
    split
    · split
      · exact ht
      · split
        · exact ht
        · exact ht.withLink id
    · exact ht
  | lockCatalog tag p =>
    refine leaves_next.mpr (same.serve fun t ht => ?_)
    unfold lockCatalog
    split
    · exact ht
    · exact ht.withLink id
  | setChainTiming tag p =>
    exact leaves_next.mpr (same.serve fun t ht => ht.onChain fun c => ht.setTiming _ _ _ c)
  | setChainBudget tag p =>
    refine leaves_next.mpr (same.serve fun t ht => ht.onChain fun c => ?_)
    unfold State.setBudget
    exact ht.onPort fun _ hp => hp.budgeted _
  | setChainStateOff tag p =>
    exact leaves_next.mpr (same.serve fun t ht => ht.onChain fun c => ht.setChainState _ c)
  | setChainStateOn tag p =>
    exact leaves_next.mpr (same.serve fun t ht => ht.onChain fun c => ht.setChainState _ c)
  | reclaimChain tag p => exact leaves_next.mpr (same.serve fun t ht => ht.onChain fun c => ht.reclaim c)
  | setCurve tag p => exact leaves_next.mpr (same.serve fun t ht => ht.setCurve p)
  | setAmbientOverrideOn tag p => exact leaves_next.mpr (same.serve fun t ht => ht.setAmbientOverride p)
  | setAmbientOverrideOff tag p => exact leaves_next.mpr (same.serve fun t ht => ht.setAmbientOverride p)
  | getAmbient tag p => exact leaves_next.mpr (same.serve fun _ => id)
  | vehicleEvent tag p => exact leaves_next.mpr (same.serve fun t ht => ht.vehicleEvent p)
  | putTrigger tag p =>
    refine leaves_next.mpr (same.serve fun t ht => ?_)
    rcases putTrigger_cases p t with ⟨-, -, e, -⟩ | ⟨_, _, -, e⟩ <;> rw [e]
    exacts [ht, ht.withLink id]
  | getTrigger tag p =>
    exact leaves_next.mpr (same.serve fun t ht => by unfold getTrigger; split <;> exact ht)
  | storeSettings tag p =>
    refine leaves_next.mpr (same.serve fun t ht => ?_)
    unfold storeSettings
    split
    · exact ht
    · split
      · exact ht
      · exact ht.withLink id
  | storeLibrary tag p =>
    refine leaves_next.mpr (same.serve fun t ht => ?_)
    unfold storeLibrary
    split
    · exact ht
    · split
      · exact ht
      · exact ht.withLink id
  | storeWriteEnd matched =>
    refine leaves_next.mpr ?_
    split
    · exact (same.endWrite matched).settle
    · exact same
  | restart tag p =>
    refine leaves_next.mpr (same.serve fun t ht => ?_)
    unfold restart
    split
    · exact ht
    · exact ht.holdFor _
  | restartTaken =>
    refine leaves_next.mpr ?_
    split
    · exact (KeepsRanges.rebooted s s s.power.plantHigh).withLink id
    · exact same
  | sleep tag p =>
    refine leaves_next.mpr (same.serve fun t ht => ?_)
    rcases sleep_cases t with ⟨-, -, e, -⟩ | ⟨-, -, -, e⟩ <;> rw [e]
    exacts [ht, ht.fallAsleep]
  | dormantEntry =>
    refine leaves_next.mpr ?_
    split
    · exact same.trans ⟨id, fun k => k⟩
    · exact same
  | wakeByLink => exact leaves_next.mpr (by split; exacts [same.wake, same])
  | wakeByEgress => exact leaves_next.mpr (by split; exacts [same.wake, same])

/-- Settles O9: every write of a factor, of a port record or of a counter is limited to its range, and the curve's value
lies between the factors of its points. -/
theorem stepKeepsRanges : Obligations.StepKeepsRanges := fun s t e =>
  ⟨fun h => step_keeps (P := FactorsHold) (fun _ _ k => k) (fun c r k _ er => (exec_keeps_ranges c r _ er).factors k)
      s t h e,
    fun h => step_keeps (P := CountersHold) (fun _ _ k => k) (fun c r k _ er => (exec_keeps_ranges c r _ er).counters k)
      s t h e⟩

end Sys2Proof.Machine

namespace Sys2Proof.Machine

/-! ### Every law at reset -/

@[simp] theorem State.reset_layer (i : Slot) : State.reset.layer i = Layer.reset (resetLevel i) :=
  State.powerOn_layer _ _ _ _ _ _ _ i

/-- A layer of R2 is IDLE. -/
@[simp] theorem Layer.reset_state (level : Nat) : (Layer.reset level).state = .idle := rfl

theorem floorHolds_reset : FloorHolds State.reset := .of_idle (fun i => by simp) rfl

theorem levelsHold_reset : LevelsHold State.reset := by
  refine ⟨fun i => ?_, by simp [LibraryInBounds, State.reset, State.powerOn], fun i action => ?_⟩
  · rw [State.reset_layer]
    exact resetLevel_inRange i
  · simp [State.reset, State.powerOn, Trigger.empty] at action

/-- Nothing overlaps while every layer is IDLE (R42). -/
theorem ringsHold_reset : RingsHold State.reset := by
  refine ⟨fun i => ?_, fun i j _ playing => ?_, by simp [LibraryInBounds, State.reset, State.powerOn]⟩
  · rw [State.reset_layer]
    exact fun playing => absurd rfl playing
  · exact absurd (by simp) playing

theorem factorsHold_reset : FactorsHold State.reset :=
  ⟨Nat.le_refl _, Nat.zero_le _, Ambient.inRange_reset⟩

theorem portsHold_reset : PortsHold State.reset := by
  simp [PortsHold, PortHolds, State.reset, State.powerOn, Port.reset, Comp.reset]

theorem countersHold_reset : CountersHold State.reset :=
  ⟨Port.inRange_reset, Port.inRange_reset, by simp [State.reset, State.powerOn, Link.reset]⟩

theorem directoryCurrent_reset : DirectoryCurrent State.reset := by
  refine ⟨fun c => ?_, fun _ => ⟨rfl, rfl⟩⟩
  have empty : State.reset.dir.nodes c = [] := by cases c <;> rfl
  simp [empty]

theorem stacksHold_reset : StacksHold State.reset := fun i => by
  rw [State.reset_layer]
  simp [Layer.reset]

/-- Settles O2: at reset every layer is IDLE, every queue and table empty, and every value a default. -/
theorem lawsHoldAtReset : Obligations.LawsHoldAtReset :=
  ⟨rfl, by simp [LinkBounded, State.reset, State.powerOn, Link.reset, Link.unsent], floorHolds_reset, levelsHold_reset,
    ringsHold_reset, .of_deasserted rfl, factorsHold_reset, portsHold_reset, countersHold_reset, directoryCurrent_reset,
    by simp [LibraryHolds, LibraryInBounds, State.reset, State.powerOn], stacksHold_reset⟩

/-! ### Power (R195, R196, R203) -/

/-- Settles O23: both events write the values of `State.powerOn` over the regions and the line as they stand. -/
theorem powerComesAndGoes : Obligations.PowerComesAndGoes := by
  have cold : ∀ (s : State) (hi : Bool) (c : Chain), (s.rebooted hi).comp c = Comp.reset ∧
      (s.rebooted hi).dir.nodes c = [] ∧ (s.rebooted hi).port c = Port.reset := fun s hi c => by
    cases c <;> exact ⟨rfl, rfl, rfl⟩
  refine ⟨fun hi s => ⟨s.rebooted hi, rfl, rfl, s.rebooted_layer hi, rfl, rfl, rfl, rfl, rfl, fun _ => rfl, fun c => ?_,
    rfl, rfl, rfl, rfl, rfl, rfl, rfl, rfl, rfl, rfl⟩, fun s => ?_⟩
  · obtain ⟨comp, nodes, port⟩ := cold s hi c
    rw [comp, nodes, port]
    exact ⟨rfl, rfl, rfl, rfl, rfl, rfl, rfl, rfl, rfl, rfl, rfl, rfl⟩
  · refine ⟨{ s.rebooted s.power.plantHigh with
      power := { (s.rebooted s.power.plantHigh).power with part := .unpowered } }, rfl, rfl, fun i => ?_, fun c => ?_,
      rfl, rfl, rfl, rfl, rfl, rfl⟩
    · exact congrArg Layer.state (s.rebooted_layer s.power.plantHigh i)
    · cases c <;> exact ⟨rfl, rfl, rfl⟩

/-! ### The plain events of the timebase and the pins -/

/-- Settles O30: each event is its arm, with the timer at its debounce time. -/
theorem plainEventsAct : Obligations.PlainEventsAct := by
  refine ⟨fun s awake last => ?_, fun b s change => ?_, fun s running line level timer => ?_, fun s awake window => ?_⟩
  · show execHushExpiry s = _
    unfold execHushExpiry
    rw [if_pos (by simp [State.awake, awake, last])]
    rfl
  · show execEgressLineChange b s = _
    unfold execEgressLineChange
    rw [if_neg change]
    rfl
  · show execDebouncedDeassertion s = _
    unfold execDebouncedDeassertion
    rw [if_pos (by simp [State.debounceDue, running, line, level, timerDue, timer])]
    rw [State.takeEgressLevel, line]
    rfl
  · show execLuxEdge s = _
    unfold execLuxEdge
    rw [if_pos (by simp [State.awake, awake, window])]
    rfl

/-! ### A flag once raised stays until it is cleared (R185, R186) -/

section
variable {l : Link} {f : Flag}

theorem Link.flag_raise_same (l : Link) (f : Flag) : (l.raise f).flag f ≠ .clear := by
  rw [Link.raise_flag_same]
  exact FlagState.raise_ne_clear _

theorem Link.flag_raise (g : Flag) (h : l.flag f ≠ .clear) : (l.raise g).flag f ≠ .clear := by
  by_cases e : g = f
  · rw [e]; exact l.flag_raise_same f
  · rwa [l.raise_flag_other e]

theorem Link.flag_queue (n : Notice) (h : l.flag f ≠ .clear) : (l.queue n).flag f ≠ .clear := by
  unfold Link.queue
  split
  · exact h
  · exact Link.flag_raise _ h

theorem Link.flag_queueAll (ns : List Notice) (h : l.flag f ≠ .clear) : (l.queueAll ns).flag f ≠ .clear :=
  List.foldlRecOn (motive := fun k => k.flag f ≠ .clear) ns Link.queue h fun _ hl n _ => Link.flag_queue n hl

theorem Link.flag_startNext (h : l.flag f ≠ .clear) : l.startNext.flag f ≠ .clear := by
  rcases l.startNext_cases with e | ⟨-, r, rs, -, e⟩ | ⟨-, -, n, ns, -, e⟩ | ⟨-, -, -, -, e⟩ <;> rw [e]
  · exact h
  · exact h
  · exact h
  · simp only [Link.flag, Link.reportFlags] at h ⊢
    simp only [Fin.getElem_fin, Vector.getElem_ofFn]
    split
    · simp
    · exact h

end

section
variable {s : State} {f : Flag}

theorem State.flag_queueOpen (ns : List Notice) (h : s.link.flag f ≠ .clear) : (s.queueOpen ns).link.flag f ≠ .clear := by
  unfold State.queueOpen
  split <;> exact Link.flag_queueAll _ h

theorem State.flag_evalFloor (h : s.link.flag f ≠ .clear) : s.evalFloor.link.flag f ≠ .clear := by
  unfold State.evalFloor
  cases s.arb.policy
  · exact h
  · dsimp only
    apply State.flag_queueOpen
    exact h

theorem State.flag_startRing (i : Slot) (r : RingStart) (h : s.link.flag f ≠ .clear) :
    (s.startRing i r).link.flag f ≠ .clear := State.flag_evalFloor (s := s.setLayer i _) h

end

/-! ### Where the pool is not written (R5, R29) -/

/-- Ends of layers that own no cue leave the pool. -/
theorem State.endLayers_pool_of {s : State} {p : Slot → Layer → Bool} (r : EndReason)
    (h : ∀ i, p i (s.layer i) = true → (s.layer i).ownsCue = false) : (s.endLayers p r).1.pool = s.pool := by
  have fold : ∀ slots : List Slot, slots.foldl (fun pool i =>
      if p i (s.layer i) && (s.layer i).ownsCue then pool.giveBack (s.layer i).cueIndex .cut else pool) s.pool = s.pool := by
    intro slots
    induction slots with
    | nil => rfl
    | cons i slots ih =>
      rw [List.foldl_cons, if_neg, ih]
      rw [Bool.and_eq_true]
      exact fun ⟨ends, owns⟩ => by simp [h i ends] at owns
  exact fold (List.finRange 12)

/-- The scene layers in play below the floor of those in play: what a floor evaluation cuts under CANCEL (R8). -/
def State.belowFloorOf (s : State) (i : Slot) (l : Layer) : Bool :=
  isScene i && l.state.playing && l.level < highestLevel s.arb.layers fun _ l => l.state.playing

theorem State.evalFloor_cancel {s : State} (h : s.arb.policy = .cancel) :
    s.evalFloor =
      ({ (s.endLayers s.belowFloorOf .cut).1 with
          arb := { (s.endLayers s.belowFloorOf .cut).1.arb with
            floor := highestLevel s.arb.layers fun _ l => l.state.playing } } : State).queueOpen
        (s.endLayers s.belowFloorOf .cut).2 := by
  unfold State.evalFloor
  rw [h]
  rfl

/-- A floor evaluation under which no layer in play owns a cue leaves the pool. -/
theorem State.evalFloor_pool_of {s : State} (h : ∀ i, (s.layer i).state.playing = true → (s.layer i).ownsCue = false) :
    s.evalFloor.pool = s.pool := by
  have cut := State.endLayers_pool_of (s := s) (p := s.belowFloorOf) .cut fun i below => h i (by
    simp only [State.belowFloorOf, Bool.and_eq_true] at below
    exact below.1.2)
  cases policy : s.arb.policy with
  | resume => simp only [State.evalFloor, policy]
  | cancel => rw [State.evalFloor_cancel policy, State.queueOpen_pool]; exact cut

@[simp] theorem State.setLayer_master (s : State) (i : Slot) (l : Layer) : (s.setLayer i l).arb.master = s.arb.master := rfl
@[simp] theorem State.setLayer_u (s : State) (i : Slot) (l : Layer) : (s.setLayer i l).arb.u = s.arb.u := rfl
@[simp] theorem State.setLayer_hush (s : State) (i : Slot) (l : Layer) : (s.setLayer i l).arb.hush = s.arb.hush := rfl
@[simp] theorem State.setLayer_egressLine (s : State) (i : Slot) (l : Layer) :
    (s.setLayer i l).arb.egressLine = s.arb.egressLine := rfl
@[simp] theorem State.setLayer_egressLevel (s : State) (i : Slot) (l : Layer) :
    (s.setLayer i l).arb.egressLevel = s.arb.egressLevel := rfl
@[simp] theorem State.setLayer_egressTimer (s : State) (i : Slot) (l : Layer) :
    (s.setLayer i l).arb.egressTimer = s.arb.egressTimer := rfl

/-! ### The start-up (R194, R196, R198) -/

/-- A quiet port that begins a pass is ENUMERATING with its request transfer in progress (R139, R140). -/
theorem State.beginPass_port {s : State} {c : Chain} (h : (s.port c).quiet = true) :
    ((s.beginPass c).port c).state = .enumerating ∧ ((s.beginPass c).port c).transfer = some .request := by
  simp only [Port.quiet, Bool.and_eq_true, Option.isNone_iff_eq_none, List.isEmpty_iff] at h
  simp [State.beginPass, Port.fallDue, Port.beginNext, Port.firstOf, Port.transferFor, h.1, h.2]

/-- A transfer that falls due leaves the port's settings. -/
theorem Port.fallDue_settings (p : Port) (n : Nat) (w : Waiting) : (p.fallDue n w).settings = p.settings := by
  unfold Port.fallDue Port.beginNext
  split <;> rfl

theorem State.beginPass_settings (s : State) (c : Chain) :
    ((s.beginPass c).port c).settings = (s.port c).settings := by
  unfold State.beginPass
  rw [State.setPort_port_same, Port.fallDue_settings]
  rfl

theorem State.beginPass_port_other {s : State} {c d : Chain} (h : c ≠ d) : (s.beginPass c).port d = s.port d :=
  s.setPort_port_other _ h

/-- What a START leaves alone: all but the layers, the floor, the pool and the link. -/
theorem State.startRing_frame (s : State) (i : Slot) (r : RingStart) :
    (s.startRing i r).portA = s.portA ∧ (s.startRing i r).portB = s.portB ∧ (s.startRing i r).dir = s.dir ∧
      (s.startRing i r).amb = s.amb ∧ (s.startRing i r).store = s.store ∧ (s.startRing i r).library = s.library ∧
      (s.startRing i r).triggers = s.triggers ∧ (s.startRing i r).arb.u = s.arb.u ∧
      (s.startRing i r).arb.policy = s.arb.policy := by
  simp [State.startRing]

/-- A start of slot 11 leaves it RUNNING (R25). -/
theorem State.startEgress_running (s : State) : (s.startEgress.layer egressSlot).state = .running := by
  have starts : ∀ r : RingStart, ((s.startRing egressSlot r).layer egressSlot).state = .running := fun r => by
    unfold State.startRing
    rw [State.evalFloor_layer_nonScene _ isScene_egressSlot, State.setLayer_layer_same]
    simp [Layer.started, State.startState]
  exact starts _

/-- A start of slot 11 where every layer is IDLE writes no record of the pool. -/
theorem State.startEgress_pool {s : State} (h : ∀ i, (s.layer i).state = .idle) : s.startEgress.pool = s.pool := by
  have starts : ∀ r : RingStart, (s.startRing egressSlot r).pool = s.pool := fun r => by
    refine (State.evalFloor_pool_of fun i playing => ?_).trans (State.setLayer_pool _ _ _)
    by_cases hi : egressSlot = i
    · subst hi
      rw [State.setLayer_layer_same]
      simp [Layer.ownsCue, Layer.started]
    · rw [s.setLayer_layer_other _ hi] at playing
      rw [h i] at playing
      cases playing
  exact starts _

theorem State.startEgress_flag {s : State} {f : Flag} (h : s.link.flag f ≠ .clear) : s.startEgress.link.flag f ≠ .clear :=
  State.flag_startRing _ _ h

/-- The state in which the identify passes of a start-up begin. -/
def State.lit (s : State) : State :=
  if (s.layer egressSlot).latch then s.awakened.startEgress else s.awakened

theorem State.lit_frame (s : State) :
    s.lit.power = { s.power with part := .awake } ∧ s.lit.portA = s.portA ∧ s.lit.portB = s.portB ∧ s.lit.dir = s.dir ∧
      s.lit.amb = s.amb ∧ s.lit.store = s.store ∧ s.lit.library = s.library ∧ s.lit.triggers = s.triggers ∧
      s.lit.arb.u = s.arb.u ∧ s.lit.arb.policy = s.arb.policy := by
  unfold State.lit
  split
  · exact ⟨State.startEgress_power _, s.awakened.startRing_frame _ _⟩
  · exact ⟨rfl, rfl, rfl, rfl, rfl, rfl, rfl, rfl, rfl, rfl⟩

theorem State.lit_pool {s : State} (h : ∀ i, (s.layer i).state = .idle) : s.lit.pool = s.pool := by
  unfold State.lit
  split
  · exact State.startEgress_pool h
  · rfl

theorem State.lit_flag {s : State} {f : Flag} (h : s.link.flag f ≠ .clear) : s.lit.link.flag f ≠ .clear := by
  unfold State.lit
  split
  · exact State.startEgress_flag h
  · exact h

theorem State.lit_running {s : State} (h : (s.layer egressSlot).latch = true) :
    (s.lit.layer egressSlot).state = .running := by
  unfold State.lit
  rw [if_pos h]
  exact State.startEgress_running _

theorem execStartupComplete_of_starting {s : State} (h : s.power.part = .starting) :
    exec .startupComplete s = .next ((s.load.lit.beginPass .a).beginPass .b).settle := by
  show execStartupComplete s = _
  unfold execStartupComplete
  rw [if_pos h]
  rfl

/-- The ports after the passes of a start-up have begun. -/
theorem State.beginPasses_port {s : State} (quietA : s.portA.quiet = true) (quietB : s.portB.quiet = true) (c : Chain) :
    ((((s.beginPass .a).beginPass .b).port c).state = .enumerating ∧
      (((s.beginPass .a).beginPass .b).port c).transfer = some .request) ∧
      (((s.beginPass .a).beginPass .b).port c).settings = (s.port c).settings := by
  cases c with
  | a =>
    rw [State.beginPass_port_other (by decide)]
    exact ⟨State.beginPass_port quietA, s.beginPass_settings .a⟩
  | b =>
    have other : (s.beginPass .a).port .b = s.port .b := State.beginPass_port_other (by decide)
    refine ⟨State.beginPass_port (by rw [other]; exact quietB), ?_⟩
    rw [State.beginPass_settings, other]

/-- Settles O24: the load hands the regions' values or the defaults to their owners, and entering AWAKE touches none of
them but the ports' passes. -/
theorem startupLoadsAndWakes : Obligations.StartupLoadsAndWakes := by
  intro s starting quietA quietB
  refine ⟨_, execStartupComplete_of_starting starting, ?_⟩
  obtain ⟨power, portA, portB, dir, amb, store, library, triggers, u, policy⟩ := s.load.lit_frame
  have ports := State.beginPasses_port (s := s.load.lit) (by rw [portA]; exact quietA) (by rw [portB]; exact quietB)
  have settingsA := (ports .a).2
  have settingsB := (ports .b).2
  simp only [State.port, portA, portB, Port.settings, PortSettings.mk.injEq] at settingsA settingsB
  obtain ⟨preA, selA, periodA, budgetA⟩ := settingsA
  obtain ⟨preB, selB, periodB, budgetB⟩ := settingsB
  generalize reached : ((s.load.lit.beginPass .a).beginPass .b).settle = t
  have stays : t.power = s.load.lit.power ∧ t.dir = s.load.lit.dir ∧ t.amb = s.load.lit.amb ∧
      t.store = s.load.lit.store ∧ t.library = s.load.lit.library ∧ t.triggers = s.load.lit.triggers ∧
      t.arb = s.load.lit.arb ∧ t.pool = s.load.lit.pool := by
    subst reached; simp [State.beginPass]
  have passes : ∀ c, t.port c = ((s.load.lit.beginPass .a).beginPass .b).port c := by
    subst reached; intro c; cases c <;> rfl
  obtain ⟨tpower, tdir, tamb, tstore, tlibrary, ttriggers, tarb, tpool⟩ := stays
  rw [power] at tpower
  rw [dir] at tdir
  rw [amb] at tamb
  rw [store] at tstore
  rw [library] at tlibrary
  rw [triggers] at ttriggers
  rw [show t.portA = t.port .a from rfl, show t.portB = t.port .b from rfl, passes .a, passes .b, tpower, tdir, tamb,
    tstore, tlibrary, ttriggers, tarb, tpool, u, policy]
  refine ⟨rfl, rfl, ⟨rfl, rfl, rfl, rfl, rfl, rfl, rfl, periodA, budgetB, preA, selA, budgetA, preB, selB, periodB,
    fun i => ?_, rfl, rfl⟩, fun fails => ⟨?_, fun floor i => ?_⟩, fun fails => ?_, fun latch => ?_, fun c => ?_⟩
  · simp [State.load, State.loadLibrary, State.loadSettings]
  · simp [State.load, State.loadLibrary, State.loadSettings, fails, passing]
  · have emptied : s.load.pool = [] := by
      simp [State.load, State.loadLibrary, State.loadSettings, fails, passing]
    rw [State.lit_pool (s := s.load) (floor.idle_of_starting starting), emptied]
    rfl
  · have raised : s.load.link.flag .storeInvalid ≠ .clear := by
      show (s.link.raiseIf s.store.failing .storeInvalid).flag .storeInvalid ≠ .clear
      rw [fails]
      exact s.link.flag_raise_same _
    subst reached
    refine Link.flag_startNext ?_
    simpa [State.beginPass] using State.lit_flag raised
  · rw [State.layer_congr tarb]
    exact State.lit_running latch
  · rw [passes c]
    refine ⟨(ports c).1.1, (ports c).1.2, ?_⟩
    cases c <;> rfl

end Sys2Proof.Machine

namespace Sys2Proof.Machine

/-! ### The operations on layers leave the rest (R4 to R11) -/

theorem State.sameButLayers_refl (s : State) : s.sameButLayers s := by simp [State.sameButLayers]

section
variable {s t : State}

@[simp] theorem sameButLayers_setLayer {i : Slot} {l : Layer} : s.sameButLayers (t.setLayer i l) ↔ s.sameButLayers t := by
  simp [State.sameButLayers]

@[simp] theorem sameButLayers_raise {f : Flag} : s.sameButLayers (t.raise f) ↔ s.sameButLayers t := Iff.rfl

@[simp] theorem sameButLayers_queueAll {ns : List Notice} : s.sameButLayers (t.queueAll ns) ↔ s.sameButLayers t := Iff.rfl

@[simp] theorem sameButLayers_queueOpen {ns : List Notice} :
    s.sameButLayers (t.queueOpen ns) ↔ s.sameButLayers t := by
  simp [State.sameButLayers]

@[simp] theorem sameButLayers_settle : s.sameButLayers t.settle ↔ s.sameButLayers t := Iff.rfl

@[simp] theorem sameButLayers_takeFrame : s.sameButLayers t.takeFrame ↔ s.sameButLayers t := Iff.rfl

@[simp] theorem sameButLayers_reply {f : LinkFrame} {k : Status} {d : List Byte} :
    s.sameButLayers (t.reply f k d) ↔ s.sameButLayers t := Iff.rfl

@[simp] theorem sameButLayers_endLayers {p : Slot → Layer → Bool} {r : EndReason} :
    s.sameButLayers (t.endLayers p r).1 ↔ s.sameButLayers t := Iff.rfl

@[simp] theorem sameButLayers_evalFloor : s.sameButLayers t.evalFloor ↔ s.sameButLayers t := by
  simp [State.sameButLayers]

@[simp] theorem sameButLayers_startRing {i : Slot} {r : RingStart} :
    s.sameButLayers (t.startRing i r) ↔ s.sameButLayers t := by
  simp [State.startRing]

@[simp] theorem sameButLayers_stopSlot {i : Slot} {r : EndReason} :
    s.sameButLayers (t.stopSlot i r) ↔ s.sameButLayers t := by
  simp [State.stopSlot_eq]

@[simp] theorem sameButLayers_played {i : Slot} : s.sameButLayers (t.played i) ↔ s.sameButLayers t := Iff.rfl

@[simp] theorem sameButLayers_handleSlot {i : Slot} : s.sameButLayers (t.handleSlot i) ↔ s.sameButLayers t := by
  rcases t.handleSlot_cases i with ⟨-, e⟩ | ⟨-, e | e | e | ⟨-, -, e⟩⟩ <;> rw [e] <;> simp

theorem sameButLayers_handleLayers {order : List Nat} (h : s.sameButLayers t) : s.sameButLayers (t.handleLayers order) :=
  State.handleLayers_keeps (P := s.sameButLayers) (fun _ _ hr => sameButLayers_handleSlot.mpr hr) h order

end

/-! ### TICK counts time (R20, R24, R129, R149) -/

theorem State.flag_handleSlot {s : State} {f : Flag} (h : s.link.flag f ≠ .clear) (i : Slot) :
    (s.handleSlot i).link.flag f ≠ .clear := by
  have played : (s.played i).link.flag f ≠ .clear :=
    Play.handle_link (P := fun l => l.flag f ≠ .clear) (fun _ g hl => Link.flag_raise g hl)
      (fun _ n hl => Link.flag_queue n hl) ⟨s.layer i, s.pool, s.link⟩ i h
  have runaway : ((s.played i).raise .layerRunaway).link.flag f ≠ .clear := Link.flag_raise _ played
  rcases s.handleSlot_cases i with ⟨-, e⟩ | ⟨-, e | e | e | ⟨-, -, e⟩⟩ <;> rw [e]
  · exact h
  · exact played
  · exact State.flag_evalFloor (s := (s.played i).setLayer i _) played
  · exact State.flag_evalFloor (s := ((s.played i).raise .layerRunaway).setLayer i _) runaway
  · exact State.flag_evalFloor (s := ((s.played i).raise .layerRunaway).setLayer i _) runaway

theorem exec_tick (order : List Nat) (s : State) : exec (.tick order) s = .next (s.tick order) := rfl

/-- An AWAKE tick leaves of all but layers, floor, pool and link what the timers leave. -/
theorem State.tick_sameButLayers {s : State} (h : s.power.part = .awake) (order : List Nat) :
    s.ticked.sameButLayers (s.tick order) := by
  rw [State.tick_awake h, sameButLayers_settle]
  exact sameButLayers_handleLayers s.ticked.sameButLayers_refl

/-- What the timers of a tick leave alone. -/
theorem State.ticked_frame (s : State) :
    s.ticked.pending = s.pending ∧ s.ticked.power = s.power ∧ s.ticked.library = s.library ∧ s.ticked.compA = s.compA ∧
      s.ticked.compB = s.compB ∧ s.ticked.dir = s.dir ∧ s.ticked.triggers = s.triggers ∧ s.ticked.store = s.store := by
  simp [State.ticked, State.tickHush_eq]

theorem State.ticked_hushEnd {s : State} (h : s.arb.hush = 1) : s.ticked.link.flag .hushEnd ≠ .clear := by
  show s.tickHush.link.flag .hushEnd ≠ .clear
  rw [s.tickHush_eq]
  simp only [h, if_true]
  exact s.link.flag_raise_same _

/-- Settles O26: the timers count first, and the handling of the layers touches none of them. -/
theorem tickCountsTime : Obligations.TickCountsTime := by
  intro order s awake
  obtain ⟨pending, power, library, compA, compB, dir, portA, portB, amb, triggers, store, policy, master, u, hush, line,
    level, timer⟩ := State.tick_sameButLayers awake order
  obtain ⟨pending', power', library', compA', compB', dir', triggers', store'⟩ := s.ticked_frame
  rw [s.ticked_arb] at policy master u hush line level timer
  have port : ∀ c, (s.tick order).port c = (s.port c).tick := fun c => by
    cases c
    · exact portA
    · exact portB
  refine ⟨_, exec_tick order s, hush, fun last => ?_, timer, portA, portB, fun c running => ?_, fun c => ?_, u, master,
    policy, line, level, ?_, amb, compA.trans compA', compB.trans compB', dir.trans dir', library.trans library',
    triggers.trans triggers', store.trans store', power.trans power', pending.trans pending'⟩
  · rw [State.tick_awake awake]
    refine Link.flag_startNext ?_
    exact State.handleLayers_keeps (P := fun t => t.link.flag .hushEnd ≠ .clear) (fun _ i ht => State.flag_handleSlot ht i)
      (State.ticked_hushEnd last) order
  · rw [port c, Port.tick, if_pos running]
  · rw [port c]
    exact ⟨rfl, rfl⟩
  · exact amb

end Sys2Proof.Machine

namespace Sys2Proof.Machine

/-! ### What a tick leaves alone (R3, R26, R34, R50) -/

/-- Two records of one level, ring, scene id and exclusive flag. -/
def Layer.sameRing (l k : Layer) : Prop :=
  l.level = k.level ∧ l.exclusive = k.exclusive ∧ l.sceneId = k.sceneId ∧ l.ringBase = k.ringBase ∧
    l.ringLength = k.ringLength ∧ l.ringMode = k.ringMode

theorem Layer.sameRing.trans {l k m : Layer} (h : l.sameRing k) (g : k.sameRing m) : l.sameRing m := by
  obtain ⟨level, exclusive, scene, base, length, mode⟩ := h
  obtain ⟨level', exclusive', scene', base', length', mode'⟩ := g
  exact ⟨level.trans level', exclusive.trans exclusive', scene.trans scene', base.trans base', length.trans length',
    mode.trans mode'⟩

theorem Layer.sameRing_refl (l : Layer) : l.sameRing l := ⟨rfl, rfl, rfl, rfl, rfl, rfl⟩

theorem Layer.toIdle_sameRing (l : Layer) (i : Slot) (r : EndReason) : (l.toIdle i r).sameRing l :=
  ⟨rfl, rfl, rfl, rfl, rfl, rfl⟩

theorem Layer.underFloor_sameRing (l : Layer) (policy : Policy) (floor : Nat) (i : Slot) :
    (l.underFloor policy floor i).sameRing l := by
  unfold Layer.underFloor
  cases policy <;> (dsimp only; split_ifs <;> exact ⟨rfl, rfl, rfl, rfl, rfl, rfl⟩)

theorem Layer.sameRing_of_setup {l k : Layer} (h : l.setup = k.setup) : l.sameRing k := by
  obtain ⟨level, exclusive, scene, base, length, mode, -⟩ := Layer.fields_of_setup h
  exact ⟨level, exclusive, scene, base, length, mode⟩

/-- A floor evaluation leaves IDLE and PARKED layers. -/
theorem State.evalFloor_layer_resting {s : State} {i : Slot} (h : (s.layer i).state = .idle ∨ (s.layer i).state = .parked) :
    s.evalFloor.layer i = s.layer i := by
  rw [s.evalFloor_layer, Layer.underFloor_resting _ _ _ _ h]

theorem State.evalFloor_sameRing (s : State) (i : Slot) : (s.evalFloor.layer i).sameRing (s.layer i) := by
  rw [s.evalFloor_layer]
  exact Layer.underFloor_sameRing _ _ _ _

/-- The handling of one slot leaves the records of IDLE and PARKED layers. -/
theorem State.handleSlot_layer_resting {s : State} {i : Slot} (j : Slot)
    (h : (s.layer i).state = .idle ∨ (s.layer i).state = .parked) : (s.handleSlot j).layer i = s.layer i := by
  rcases s.handleSlot_cases j with ⟨-, e⟩ | ⟨playing, e⟩
  · rw [e]
  have other : i ≠ j := by
    rintro rfl
    obtain ⟨idle, -, parked⟩ := LayerState.ne_of_playing playing
    exact h.elim idle parked
  have played : (s.played j).layer i = s.layer i := s.played_layer_other other
  have ended : ∀ (t : State) (l : Layer), t.layer i = s.layer i → (t.setLayer j l).evalFloor.layer i = s.layer i :=
    fun t l ht => by
      have set : (t.setLayer j l).layer i = s.layer i := (t.setLayer_layer_other _ other.symm).trans ht
      rw [State.evalFloor_layer_resting (by rw [set]; exact h), set]
  rcases e with e | e | e | ⟨-, -, e⟩ <;> rw [e]
  · exact played
  · exact ended _ _ played
  · exact ended _ _ played
  · exact ended _ _ played

/-- The handling of one slot leaves every ring, slot 11's restart apart (R26). -/
theorem State.handleSlot_sameRing (s : State) {i : Slot} (j : Slot) (hi : i ≠ egressSlot) :
    ((s.handleSlot j).layer i).sameRing (s.layer i) := by
  rcases s.handleSlot_cases j with ⟨-, e⟩ | ⟨playing, e⟩
  · rw [e]; exact Layer.sameRing_refl _
  have played : ((s.played j).layer i).sameRing (s.layer i) := by
    by_cases hj : i = j
    · subst hj
      exact Layer.sameRing_of_setup (s.played_layer_same i playing).1
    · rw [s.played_layer_other hj]
      exact Layer.sameRing_refl _
  have written : ∀ (t : State) (l : Layer), (t.layer i).sameRing (s.layer i) → (j = i → l.sameRing (s.layer i)) →
      ((t.setLayer j l).evalFloor.layer i).sameRing (s.layer i) := fun t l ht hl => by
    refine (State.evalFloor_sameRing _ i).trans ?_
    rw [State.setLayer_layer]
    split
    · exact hl (Eq.symm ‹_›)
    · exact ht
  have ended : ∀ r, j = i → (((s.played j).layer j).toIdle j r).sameRing (s.layer i) := fun r hj => by
    subst hj
    exact (Layer.toIdle_sameRing _ _ _).trans played
  rcases e with e | e | e | ⟨hj, -, e⟩ <;> rw [e]
  · exact played
  · exact written (s.played j) _ played (ended _)
  · exact written ((s.played j).raise _) _ played (ended _)
  · exact written ((s.played j).raise _) _ played fun same => absurd (same.symm.trans hj) hi

/-- Every layer that is not IDLE plays a RESIDENT ring. -/
def AllResident (s : State) : Prop := ∀ i : Slot, (s.layer i).state ≠ .idle → (s.layer i).ringMode = .resident

theorem AllResident.setLayer {s : State} {i : Slot} {l : Layer} (h : AllResident s)
    (hl : l.state ≠ .idle → l.ringMode = .resident) : AllResident (s.setLayer i l) := fun j playing => by
  rw [State.setLayer_layer] at playing ⊢
  split_ifs at playing ⊢
  · exact hl playing
  · exact h j playing

theorem AllResident.evalFloor {s : State} (h : AllResident s) : AllResident s.evalFloor := fun i playing => by
  obtain ⟨-, -, -, -, -, mode⟩ := s.evalFloor_sameRing i
  rw [mode]
  refine h i fun idle => playing ?_
  rw [State.evalFloor_layer_resting (.inl idle), idle]

/-- A floor evaluation over RESIDENT rings gives no cue back. -/
theorem AllResident.evalFloor_pool {s : State} (h : AllResident s) : s.evalFloor.pool = s.pool :=
  State.evalFloor_pool_of fun i playing => by
    simp [Layer.ownsCue, h i (LayerState.ne_of_playing playing).1]

theorem AllResident.handleSlot {s : State} (h : AllResident s) (i : Slot) :
    AllResident (s.handleSlot i) ∧ (s.handleSlot i).pool = s.pool := by
  rcases s.handleSlot_cases i with ⟨-, e⟩ | ⟨playing, e⟩
  · rw [e]; exact ⟨h, rfl⟩
  have mode := h i (LayerState.ne_of_playing playing).1
  have pool : (s.played i).pool = s.pool :=
    Play.handle_pool ⟨s.layer i, s.pool, s.link⟩ i (by simp [Layer.streams, mode])
  have played : AllResident (s.played i) := fun j hj => by
    by_cases e : j = i
    · subst e
      obtain ⟨-, -, -, -, -, mode', -⟩ := Layer.fields_of_setup (s.played_layer_same j playing).1
      rw [mode', mode]
    · rw [s.played_layer_other e] at hj ⊢
      exact h j hj
  have ended : ∀ (t : State) (l : Layer), AllResident t → t.pool = s.pool → (l.state ≠ .idle → l.ringMode = .resident) →
      AllResident (t.setLayer i l).evalFloor ∧ (t.setLayer i l).evalFloor.pool = s.pool := fun t l ht hp hl =>
    ⟨(ht.setLayer hl).evalFloor, ((ht.setLayer hl).evalFloor_pool).trans hp⟩
  rcases e with e | e | e | ⟨-, -, e⟩ <;> rw [e]
  · exact ⟨played, pool⟩
  · exact ended (s.played i) _ played pool fun idle => absurd rfl idle
  · exact ended ((s.played i).raise _) _ played pool fun idle => absurd rfl idle
  · exact ended ((s.played i).raise _) _ played pool fun _ => rfl

/-- What is true of the records a tick's layers start from, and kept by every handling, is true after the tick. -/
theorem State.tick_keeps {s : State} {P : State → Prop} (timers : ∀ u, (∀ i : Slot, u.layer i = s.layer i) → u.pool = s.pool → P u)
    (slot : ∀ u i, P u → P (u.handleSlot i)) (link : ∀ u l, P u → P { u with link := l }) (order : List Nat) :
    P (s.tick order) := by
  by_cases awake : s.power.part = .awake
  · rw [State.tick_awake awake]
    exact link _ _ (State.handleLayers_keeps slot (timers _ s.ticked_layer s.ticked_pool) order)
  · rcases State.tick_asleep awake order with e | e <;> rw [e]
    · exact timers s (fun _ => rfl) rfl
    · refine timers _ (fun i => ?_) rfl
      simp only [State.layer]
      unfold Arbiter.tickEgress
      split <;> rfl

/-- Settles O27: no handling touches a resting layer or another's ring, and RESIDENT rings are never written back. -/
theorem tickLeavesAlone : Obligations.TickLeavesAlone := by
  refine ⟨fun order s t i e => ?_, fun order s t resident e => ?_⟩
  · rw [exec_tick] at e
    cases e
    refine ⟨fun rests => ?_, fun hi => ?_⟩
    · exact State.tick_keeps (P := fun u => u.layer i = s.layer i) (fun u hu _ => hu i)
        (fun u j hu => (State.handleSlot_layer_resting j (by rw [hu]; exact rests)).trans hu) (fun _ _ hu => hu) order
    · exact State.tick_keeps (P := fun u => (u.layer i).sameRing (s.layer i))
        (fun u hu _ => by rw [hu i]; exact Layer.sameRing_refl _) (fun u j hu => (u.handleSlot_sameRing j hi).trans hu)
        (fun _ _ hu => hu) order
  · rw [exec_tick] at e
    cases e
    exact (State.tick_keeps (P := fun u => AllResident u ∧ u.pool = s.pool)
      (fun u hu hp => ⟨fun i => by rw [hu i]; exact resident i, hp⟩)
      (fun u i ⟨hu, hp⟩ => ⟨(hu.handleSlot i).1, (hu.handleSlot i).2.trans hp⟩) (fun _ _ hu => hu) order).2

end Sys2Proof.Machine

namespace Sys2Proof.Machine

/-! ### A tick with one slot in play (R50) -/

theorem State.handleSlot_of_not_playing {s : State} {i : Slot} (h : (s.layer i).state.playing = false) :
    s.handleSlot i = s := by
  simp [State.handleSlot, h]

theorem slotOrder_nodup (order : List Nat) : (slotOrder order).Nodup := by
  refine List.Nodup.append (List.nodup_dedup _) ((List.nodup_finRange 12).filter _) fun i named other => ?_
  simp only [List.mem_filter, decide_eq_true_eq] at other
  exact other.2 named

theorem mem_slotOrder (order : List Nat) (i : Slot) : i ∈ slotOrder order := by
  simp only [slotOrder, List.mem_append, List.mem_filter, List.mem_finRange, true_and, decide_eq_true_eq]
  exact em _

/-- Slots that are not in play are passed over. -/
theorem State.foldl_handleSlot_of_not_playing {s : State} {slots : List Slot}
    (h : ∀ j ∈ slots, (s.layer j).state.playing = false) : slots.foldl State.handleSlot s = s := by
  induction slots with
  | nil => rfl
  | cons j slots ih =>
    rw [List.forall_mem_cons] at h
    rw [List.foldl_cons, State.handleSlot_of_not_playing h.1, ih h.2]

/-- Where slot `i` alone is in play, before and after its handling, the tick handles slot `i` alone. -/
theorem State.handleLayers_alone {s : State} {i : Slot} (before : ∀ j, j ≠ i → (s.layer j).state.playing = false)
    (after : ∀ j, j ≠ i → ((s.handleSlot i).layer j).state.playing = false) (order : List Nat) :
    s.handleLayers order = s.handleSlot i := by
  unfold State.handleLayers
  obtain ⟨early, late, split⟩ := List.append_of_mem (mem_slotOrder order i)
  have nodup := slotOrder_nodup order
  rw [split] at nodup ⊢
  obtain ⟨-, notLate, disjoint⟩ := List.nodup_append.mp nodup
  have notEarly : ∀ j ∈ early, j ≠ i := fun j hj e => disjoint j hj i (by simp) e
  have notLate : ∀ j ∈ late, j ≠ i := fun j hj e => (List.nodup_cons.mp notLate).1 (e ▸ hj)
  rw [List.foldl_append, State.foldl_handleSlot_of_not_playing fun j hj => before j (notEarly j hj), List.foldl_cons,
    State.foldl_handleSlot_of_not_playing fun j hj => after j (notLate j hj)]

/-- A tick with slot `i` alone in play among IDLE and PARKED layers. -/
theorem State.tick_playsAlone {s : State} {i : Slot} (h : s.playsAlone i) (order : List Nat) :
    s.tick order = (s.ticked.handleSlot i).settle := by
  obtain ⟨awake, -, rest⟩ := h
  have resting : ∀ j, j ≠ i → (s.ticked.layer j).state = .idle ∨ (s.ticked.layer j).state = .parked := fun j hj => by
    rw [State.ticked_layer]; exact rest j hj
  have silent : ∀ k : LayerState, k = .idle ∨ k = .parked → k.playing = false := fun k hk => by
    rw [LayerState.playing_eq_false]; tauto
  rw [State.tick_awake awake, State.handleLayers_alone (i := i) (fun j hj => silent _ (resting j hj)) fun j hj => ?_]
  rw [State.handleSlot_layer_resting i (resting j hj)]
  exact silent _ (resting j hj)

/-! ### The link of a tick -/

theorem Link.queue_notices (l : Link) (n : Notice) :
    (l.queue n).notices = if l.notices.length < Config.maxNotices then l.notices ++ [n] else l.notices := by
  unfold Link.queue; split <;> rfl

@[simp] theorem Link.queue_tx (l : Link) (n : Notice) : (l.queue n).tx = l.tx := by
  unfold Link.queue; split <;> rfl

/-- A busy transmitter chooses nothing (R183). -/
theorem Link.startNext_of_busy {l : Link} (h : l.tx ≠ none) : l.startNext = l := by
  rcases l.startNext_cases with e | ⟨free, -⟩ | ⟨free, -⟩ | ⟨free, -⟩
  · exact e
  all_goals exact absurd free h

theorem State.ticked_link (s : State) :
    s.ticked.link = if s.arb.hush = 1 then s.link.raise .hushEnd else s.link := by
  show s.tickHush.link = _
  rw [s.tickHush_eq]

theorem State.ticked_tx (s : State) : s.ticked.link.tx = s.link.tx := by rw [s.ticked_link]; split <;> rfl
theorem State.ticked_notices (s : State) : s.ticked.link.notices = s.link.notices := by rw [s.ticked_link]; split <;> rfl

/-- A tick whose handling queues at most the one notice `n`, where `notify`. -/
theorem State.notices_of_tick {s t : State} {notify : Bool} {n : Notice}
    (ht : t.link = (if notify then s.ticked.link.queue n else s.ticked.link).startNext) : s.notices t notify n := by
  intro busy
  have tx : (if notify then s.ticked.link.queue n else s.ticked.link).tx = s.link.tx := by
    cases notify <;> simp [s.ticked_tx]
  rw [ht, Link.startNext_of_busy (by rw [tx]; exact busy)]
  cases notify
  · simp [s.ticked_notices]
  · simp [Link.queue_notices, s.ticked_notices]

/-! ### One handling, cue by cue (R51 to R69) -/

section
variable {e : Play} {i : Slot} {n : Nat}

/-- The layer at the start of a handling: its step count is 0 (R68). -/
def Layer.fresh (l : Layer) : Layer := { l with stepCount := 0 }

/-- A layer whose current cue is not begun takes the cue that is due, with the step count at 0. -/
theorem Play.handle_due (h : e.layer.cueBegun = false) :
    e.handle i = Play.due i dueFuel { e with layer := e.layer.fresh } := by
  simp [Play.handle, Play.onLayer, h, Layer.fresh]

theorem Play.cue_of_pool (h : e.layer.fallback = false) : e.cue = e.pool.read e.layer.cueIndex := by
  simp [Play.cue, h]

/-- A HOLD of duration above 0 is begun, and the handling rests there (R58). -/
theorem Play.due_rests (streams : e.layer.streams = false) (hold : e.cue.rests) :
    Play.due i (n + 1) e = ({ e with layer := (e.layer.beginCue e.cue).select }, .rests) := by
  obtain ⟨kind, duration⟩ := hold
  have long : e.cue.duration ≠ 0 := by omega
  simp [Play.due, streams, Layer.zeroStep, kind, long, Play.takeCue, Play.onLayer]

/-- A cue that is due, within the step limit, and completes where it is begun: the next is due. -/
theorem Play.due_again {d : Play} (ready : e.layer.streams = false) (steps : e.layer.stepCount < Config.maxSteps)
    (taken : e.takeCue i e.cue = (d, .again)) : Play.due i (n + 1) e = Play.due i n d := by
  have within : ¬ Config.maxSteps ≤ e.layer.stepCount := by omega
  simp [Play.due, ready, within, taken]

end

end Sys2Proof.Machine

namespace Sys2Proof.Machine

section
variable {s : State} {i : Slot} {d : Play}

theorem State.handleSlot_rests (playing : (s.layer i).state.playing = true)
    (h : Play.handle ⟨s.layer i, s.pool, s.link⟩ i = (d, .rests)) :
    s.handleSlot i = { s.setLayer i d.layer with pool := d.pool, link := d.link } := by
  simp [State.handleSlot, playing, h]

/-- The tick of a handling that rests: the layer, the pool and the link are the handling's. -/
theorem State.tick_rests (alone : s.playsAlone i) (h : Play.handle ⟨s.layer i, s.pool, s.ticked.link⟩ i = (d, .rests))
    (order : List Nat) :
    ((s.tick order).layer i = d.layer ∧ (s.tick order).pool = d.pool ∧ (s.tick order).arb.floor = s.arb.floor) ∧
      ∀ notify n, d.link = (if notify then s.ticked.link.queue n else s.ticked.link) →
        s.notices (s.tick order) notify n := by
  have playing : (s.ticked.layer i).state.playing = true := by rw [s.ticked_layer, alone.2.1]; rfl
  have handled := State.handleSlot_rests (s := s.ticked) (d := d) playing (by rw [s.ticked_layer, s.ticked_pool, h])
  have tick := State.tick_playsAlone alone order
  refine ⟨?_, fun notify n link => State.notices_of_tick ?_⟩
  · rw [tick, handled]
    refine ⟨State.setLayer_layer_same _ _ _, rfl, ?_⟩
    show s.ticked.arb.floor = _
    rw [s.ticked_arb]
  · rw [tick, handled, ← link]
    rfl

/-- Slot `i` stands at a HOLD just begun there. -/
theorem State.begins_of {t : State} {l : Layer} {next : Nat} (hold : (s.pool.read next).rests) (index : l.cueIndex = next)
    (h : t.layer i = (l.beginCue (s.pool.read next)).select) : t.begins i s next := by
  unfold State.begins
  rw [h]
  simp [Layer.beginCue, Layer.select, Layer.capture, hold.1, index]

end

section
variable {e : Play} {i : Slot}

/-- A begun cue of captured duration above 0 whose time is not up goes on (R51, R54, R57). -/
theorem Play.handle_goesOn (begun : e.layer.cueBegun = true) (time : e.layer.elapsed + 1 < e.layer.captured.duration) :
    e.handle i =
      ({ e with layer :=
          if e.layer.captured.kind = .fade then { e.layer.fadeAt (e.layer.elapsed + 1) with stepCount := 0 }
          else { e.layer with elapsed := e.layer.elapsed + 1, stepCount := 0 } }, .rests) := by
  have long : 0 < e.layer.captured.duration := by omega
  simp only [Play.handle, Play.onLayer, begun, Bool.not_true, Bool.false_eq_true, if_false, long, decide_true,
    Bool.or_true, if_true, Play.advance]
  cases kind : e.layer.captured.kind <;> simp [time, Layer.fadeAt, begun]

/-- The layer whose SWEEP has ended, its cursor at the successor (R59, R53). -/
def Layer.swept (l : Layer) : Layer :=
  { l with stepCount := 0, elapsed := 0, sweepActive := false, colour := l.captured.colour,
           opacity := if l.captured.trail then l.captured.opacity else 0, cueIndex := l.successor, cueBegun := false }

/-- The last tick of a SWEEP of a RESIDENT ring completes it, and its successor is due (R59, R53). -/
theorem Play.handle_sweepEnds (begun : e.layer.cueBegun = true) (sweep : e.layer.sweepActive = true)
    (time : e.layer.elapsed + 1 = e.layer.captured.duration) (resident : e.layer.ringMode = .resident) :
    e.handle i =
      Play.due i dueFuel
        { layer := e.layer.swept
          pool := e.pool
          link := if e.layer.captured.notify then e.link.queue (.cue i e.layer.cueIndex .done) else e.link } := by
  have ends : ¬ e.layer.elapsed + 1 < e.layer.captured.duration := by omega
  cases kind : e.layer.captured.kind <;>
    simp [Play.handle, Play.onLayer, begun, sweep, Play.advance, kind, ends, Layer.fadeAt, Play.complete, Play.handBack,
      Layer.endSweep, Layer.streams, resident, Layer.moveTo, Layer.swept, Layer.successor]

/-- A completion in a RESIDENT ring writes nothing back (R53, R34). -/
theorem Play.complete_resident (resident : e.layer.ringMode = .resident) (next : Nat) :
    e.complete i next =
      { layer := e.layer.moveTo next
        pool := e.pool
        link := if e.layer.captured.notify then e.link.queue (.cue i e.layer.cueIndex .done) else e.link } := by
  simp [Play.complete, Play.handBack, Layer.streams, resident]

/-- The LOOP record at its cursor as it is taken: begun, and counted as a zero-duration step (R52, R68). -/
def Layer.begun (l : Layer) (c : Cue) : Layer := (l.beginCue c).countStep

theorem Play.takeCue_loop {c : Cue} (kind : c.kind = .loop) (resident : e.layer.ringMode = .resident) :
    e.takeCue i c =
      ({ layer := ((e.layer.begun c).takeLoop c).1.moveTo ((e.layer.begun c).takeLoop c).2
         pool := e.pool
         link := if c.notify then e.link.queue (.cue i e.layer.cueIndex .done) else e.link }, .again) := by
  have record := (e.layer.begun c).takeLoop_layer c
  have taken : e.takeCue i c =
      (({ e with layer := ((e.layer.begun c).takeLoop c).1 } : Play).complete i ((e.layer.begun c).takeLoop c).2, .again) := by
    simp [Play.takeCue, Play.onLayer, kind, Layer.zeroStep, Layer.begun]
  rw [taken, Play.complete_resident (by rw [record]; exact resident)]
  rw [record]
  simp [Layer.begun, Layer.beginCue, Layer.countStep, Layer.capture, kind]

/-- An END that restarts its ring: the loop stack is emptied and the cursor is at the base (R62). -/
theorem Play.takeCue_restart {c : Cue} (kind : c.kind = .end_) (restarts : e.layer.restarts i = true)
    (resident : e.layer.ringMode = .resident) :
    e.takeCue i c =
      ({ layer := ({ e.layer.begun c with loopStack := [] } : Layer).moveTo e.layer.ringBase
         pool := e.pool
         link := if c.notify then e.link.queue (.cue i e.layer.cueIndex .done) else e.link }, .again) := by
  have begun : (e.layer.beginCue c).countStep.restarts i = true := restarts
  have taken : e.takeCue i c =
      (({ e with layer := { e.layer.begun c with loopStack := [] } } : Play).complete i e.layer.ringBase, .again) := by
    simp only [Play.takeCue, Play.onLayer, kind, Layer.zeroStep, restarts, if_true]
    rw [if_pos begun]
    rfl
  rw [taken, Play.complete_resident (by exact resident)]
  simp [Layer.begun, Layer.beginCue, Layer.countStep, Layer.capture, kind]

/-- An END that ends its layer (R62, R73). -/
theorem Play.takeCue_end {c : Cue} (kind : c.kind = .end_) (restarts : e.layer.restarts i = false) :
    e.takeCue i c = (({ e with layer := e.layer.beginCue c } : Play).handBack i, .completed) := by
  have begun : (e.layer.beginCue c).restarts i = false := restarts
  simp [Play.takeCue, Play.onLayer, kind, Layer.zeroStep, restarts, begun]

/-- A SET of a RESIDENT ring shows its values and completes (R56). -/
theorem Play.takeCue_set {c : Cue} (kind : c.kind = .set) (resident : e.layer.ringMode = .resident) :
    e.takeCue i c =
      ({ layer := (e.layer.begun c).show.moveTo (e.layer.begun c).successor
         pool := e.pool
         link := if c.notify then e.link.queue (.cue i e.layer.cueIndex .done) else e.link }, .again) := by
  have taken : e.takeCue i c =
      (({ e with layer := (e.layer.begun c).show } : Play).complete i (e.layer.begun c).successor, .again) := by
    simp [Play.takeCue, Play.onLayer, kind, Layer.zeroStep, Layer.begun]
  rw [taken, Play.complete_resident (by exact resident)]
  simp [Layer.begun, Layer.beginCue, Layer.countStep, Layer.capture, kind, Layer.show]

end

/-! ### The table of R64 -/

theorem List.dropWhile_ne_of_mem {k : Nat} {x : LoopEntry} {above below : List LoopEntry} (h : ∀ e ∈ above, e.index ≠ k)
    (hx : x.index = k) : (above ++ x :: below).dropWhile (fun e => decide (e.index ≠ k)) = x :: below := by
  rw [List.dropWhile_append_of_pos fun e he => by simpa using h e he]
  simp [hx]

theorem Layer.successor_begun (l : Layer) (c : Cue) (kind : c.kind = .loop) :
    (l.begun c).successor =
      if c.wrap = true ∨ l.ringBase + l.ringLength ≤ l.cueIndex + 1 then l.ringBase else l.cueIndex + 1 := by
  simp [Layer.successor, Layer.begun, Layer.beginCue, Layer.countStep, Layer.capture, kind]

/-- Taking a LOOP follows the table of R64. -/
theorem Layer.takeLoop_of_loopTakes {l : Layer} {c : Cue} {stack : List LoopEntry} {overflow : Bool} {next : Nat}
    (kind : c.kind = .loop) (h : l.loopTakes c stack overflow next) :
    (l.begun c).takeLoop c = ({ l.begun c with loopStack := stack, loopOverflow := overflow }, next) := by
  have onward := l.successor_begun c kind
  have jump : (l.begun c).jumpTarget c.loopTarget =
      if c.loopTarget < l.ringLength then l.ringBase + c.loopTarget else l.ringBase := rfl
  have index : (l.begun c).cueIndex = l.cueIndex := rfl
  have finishing : (l.begun c).finishing = l.finishing := rfl
  have loops : (l.begun c).loopStack = l.loopStack := rfl
  have marked : (l.begun c).loopOverflow = l.loopOverflow := rfl
  unfold Layer.takeLoop
  dsimp only
  rw [onward, jump, index, finishing, loops]
  rcases h with ⟨above, below, left, held, early, rfl, rest⟩ | ⟨absent, ends, rfl, rfl, rfl⟩ |
    ⟨absent, goes, room, rfl, rfl, rfl⟩ | ⟨absent, goes, full, rfl, rfl, rfl⟩
  · rw [held, List.dropWhile_ne_of_mem early rfl]
    split at rest
    · rename_i ends
      obtain ⟨rfl, rfl⟩ := rest
      simp [ends, marked]
    · rename_i goes
      rcases left with _ | _ | n <;> obtain ⟨rfl, rfl⟩ := rest <;> simp [goes, marked]
  all_goals
    have none : l.loopStack.dropWhile (fun e => decide (e.index ≠ l.cueIndex)) = [] := by
      simpa [List.dropWhile_eq_nil_iff] using absent
    rw [none]
  · rw [if_pos ends]
    rfl
  · simp [goes, room, Config.maxLoops, marked]
  · simp only [goes, Bool.false_eq_true, if_false, Config.maxLoops, Nat.not_lt.mpr full]

end Sys2Proof.Machine

namespace Sys2Proof.Machine

/-! ### One tick of a layer that plays alone -/

section
variable {s : State} {i : Slot}

/-- A tick that leads slot `i` of a RESIDENT ring to a HOLD begins it there, after a layer record `l` and at most one
CUE NOTICE DONE. -/
theorem State.tick_leads {l : Layer} {next n : Nat} {notify : Bool} {k : Notice} (alone : s.playsAlone i)
    (inPool : (s.layer i).inPool) (hold : (s.pool.read next).rests) (mode : l.ringMode = (s.layer i).ringMode)
    (fallback : l.fallback = (s.layer i).fallback) (index : l.cueIndex = next)
    (h : Play.handle ⟨s.layer i, s.pool, s.ticked.link⟩ i =
      Play.due i (n + 1) ⟨l, s.pool, if notify then s.ticked.link.queue k else s.ticked.link⟩) (order : List Nat) :
    (s.tick order).pool = s.pool ∧ (s.tick order).arb.floor = s.arb.floor ∧ (s.tick order).begins i s next ∧
      (s.tick order).layer i = (l.beginCue (s.pool.read next)).select ∧ s.notices (s.tick order) notify k := by
  obtain ⟨resident, noFallback⟩ := inPool
  have streams : l.streams = false := by simp [Layer.streams, mode, resident]
  have cue : Play.cue ⟨l, s.pool, if notify then s.ticked.link.queue k else s.ticked.link⟩ = s.pool.read next := by
    rw [Play.cue_of_pool (by exact fallback.trans noFallback), index]
  rw [Play.due_rests streams (by rw [cue]; exact hold), cue] at h
  obtain ⟨⟨layer, pool, floor⟩, notices⟩ := State.tick_rests alone h order
  exact ⟨pool, floor, State.begins_of hold index layer, layer, notices notify k rfl⟩

/-- A begun cue goes on. -/
theorem State.tick_goesOn (awake : s.power.part = .awake) (running : (s.layer i).state = .running)
    (others : ∀ j : Slot, j ≠ i → (s.layer j).state.playing = false) (begun : (s.layer i).cueBegun = true)
    (time : (s.layer i).elapsed + 1 < (s.layer i).captured.duration) (order : List Nat) :
    (s.tick order).pool = s.pool ∧ (s.tick order).layer i =
      (if (s.layer i).captured.kind = .fade then
        { (s.layer i).fadeAt ((s.layer i).elapsed + 1) with stepCount := 0 }
       else { s.layer i with elapsed := (s.layer i).elapsed + 1, stepCount := 0 }) := by
  have handled := State.handleSlot_rests (s := s.ticked) (i := i) (by rw [s.ticked_layer, running]; rfl)
    (Play.handle_goesOn (e := ⟨s.ticked.layer i, s.ticked.pool, s.ticked.link⟩) (by rw [s.ticked_layer]; exact begun)
      (by rw [s.ticked_layer]; exact time))
  have silent : ∀ j, j ≠ i → (s.ticked.layer j).state.playing = false := fun j hj => by
    rw [s.ticked_layer]; exact others j hj
  have tick : s.tick order = (s.ticked.handleSlot i).settle := by
    rw [State.tick_awake awake, State.handleLayers_alone silent fun j hj => ?_]
    rw [handled]
    exact (congrArg (fun l : Layer => l.state.playing) (s.ticked.setLayer_layer_other _ hj.symm)).trans (silent j hj)
  rw [tick, handled, s.ticked_layer]
  exact ⟨s.ticked_pool, State.setLayer_layer_same _ _ _⟩

/-- A cue that is due and completes where it is begun, in a RESIDENT ring. -/
theorem Play.handle_again {e d : Play} (inPool : e.layer.inPool) (begun : e.layer.cueBegun = false)
    (taken : Play.takeCue { e with layer := e.layer.fresh } i (e.pool.read e.layer.cueIndex) = (d, .again)) :
    e.handle i = Play.due i 16 d := by
  rw [Play.handle_due begun]
  refine Play.due_again (by simp [Layer.fresh, Layer.streams, inPool.1]) (by simp [Layer.fresh, Config.maxSteps]) ?_
  rw [Play.cue_of_pool (by exact inPool.2)]
  exact taken

/-- A layer that a handling ends COMPLETED. -/
theorem State.handleSlot_completed {d : Play} (playing : (s.layer i).state.playing = true)
    (h : Play.handle ⟨s.layer i, s.pool, s.link⟩ i = (d, .completed)) :
    s.handleSlot i =
      ({ s with pool := d.pool, link := d.link }.setLayer i (d.layer.toIdle i .completed)).evalFloor := by
  simp [State.handleSlot, playing, h, State.setLayer]

/-- What a runaway leaves of the layer (R69, R26). -/
def Layer.ranAway (l : Layer) (i : Slot) : Layer :=
  if i = egressSlot ∧ l.latch = true then l.relit else l.toIdle i .runaway

theorem State.handleSlot_runaway {d : Play} (playing : (s.layer i).state.playing = true)
    (h : Play.handle ⟨s.layer i, s.pool, s.link⟩ i = (d, .runaway)) :
    s.handleSlot i =
      ({ s with pool := d.pool, link := d.link.raise .layerRunaway }.setLayer i (d.layer.ranAway i)).evalFloor := by
  unfold State.handleSlot
  rw [if_pos playing, h]
  dsimp only
  unfold Layer.ranAway
  by_cases restarts : i = egressSlot ∧ d.layer.latch = true
  · rw [if_pos (by simpa using restarts), if_pos restarts, State.setLayer_layer_same, State.setLayer_setLayer]
    obtain ⟨rfl, -⟩ := restarts
    simp only [State.setLayer, State.raise, Vector.set_set]
    rfl
  · rw [if_neg (by simpa using restarts), if_neg restarts]
    simp only [State.setLayer, State.raise, Vector.set_set]

/-! ### A floor evaluation with nothing in play -/

theorem State.endLayers_notices_of {p : Slot → Layer → Bool} (r : EndReason) (h : ∀ j, p j (s.layer j) = false) :
    (s.endLayers p r).2 = [] := by
  have none : ∀ j : Slot, p j s.arb.layers[j] = false := h
  simp only [State.endLayers, List.filterMap_eq_nil_iff]
  intro j _
  exact if_neg fun e => by rw [none j] at e; cases e

/-- Over IDLE and PARKED layers a floor evaluation gives floor 0 and nothing else. -/
theorem State.evalFloor_resting (h : ∀ j, (s.layer j).state = .idle ∨ (s.layer j).state = .parked) :
    (∀ j, s.evalFloor.layer j = s.layer j) ∧ s.evalFloor.arb.floor = 0 ∧ s.evalFloor.pool = s.pool ∧
      s.evalFloor.link = s.link := by
  have silent : ∀ j, (s.layer j).state.playing = false := fun j => by
    rw [LayerState.playing_eq_false]; have := h j; tauto
  refine ⟨fun j => State.evalFloor_layer_resting (h j), ?_, State.evalFloor_pool_of fun j playing => ?_, ?_⟩
  · rw [s.evalFloor_floor]
    refine highestLevel_eq_zero fun j => ?_
    rcases h j with e | e <;> simp [LayerState.counted, LayerState.playing, e]
  · simp [silent j] at playing
  · cases policy : s.arb.policy with
    | resume => simp only [State.evalFloor, policy]
    | cancel =>
      rw [State.evalFloor_cancel policy, State.endLayers_notices_of _ fun j => by simp [State.belowFloorOf, silent j]]
      rfl

end

end Sys2Proof.Machine

namespace Sys2Proof.Machine

/-! ### A ring of SETs runs away (R68, R69) -/

/-- What one handling has made of a ring that is the SET `c` alone: the setup and the pool stand, the cursor is back at
the base, and once a SET has been taken the layer shows it. -/
structure Play.Loops (l : Layer) (p : Pool) (c : Cue) (e : Play) : Prop where
  setup : e.layer.setup = l.setup
  pool : e.pool = p
  index : e.layer.cueIndex = l.ringBase
  begun : e.layer.cueBegun = false
  shown : 0 < e.layer.stepCount → e.layer.colour = c.colour ∧ e.layer.opacity = c.opacity ∧
    e.layer.captured.colour = c.colour ∧ e.layer.captured.opacity = c.opacity

section
variable {l : Layer} {i : Slot} {c : Cue} {e : Play} {p : Pool}

theorem Play.Loops.step (h : e.Loops l p c) (kind : c.kind = .set) (resident : l.ringMode = .resident)
    (alone : c.wrap = true ∨ l.ringLength ≤ 1) :
    ∃ d, e.takeCue i c = (d, .again) ∧ d.Loops l p c ∧ d.layer.stepCount = e.layer.stepCount + 1 := by
  obtain ⟨-, -, -, base, length, mode, -, -⟩ := Layer.fields_of_setup h.setup
  have back : (e.layer.begun c).successor = l.ringBase := by
    simp only [Layer.successor, Layer.begun, Layer.beginCue, Layer.countStep, Layer.capture, kind, base, length, h.index]
    rw [if_pos]
    simpa using alone.imp_right fun short => by omega
  refine ⟨_, Play.takeCue_set kind (mode.trans resident), ⟨h.setup, h.pool, back, rfl, fun _ => ?_⟩, rfl⟩
  simp [Layer.begun, Layer.beginCue, Layer.countStep, Layer.capture, Layer.show, Layer.moveTo, kind]

theorem Play.Loops.cue (h : e.Loops l p c) (noFallback : l.fallback = false) (read : p.read l.ringBase = c) : e.cue = c := by
  obtain ⟨-, -, -, -, -, -, fallback, -⟩ := Layer.fields_of_setup h.setup
  rw [Play.cue_of_pool (fallback.trans noFallback), h.pool, h.index, read]

/-- A ring of SETs alone takes 16 steps, and the 17th is a runaway. -/
theorem Play.Loops.runsAway {n : Nat} (h : e.Loops l p c) (read : p.read l.ringBase = c) (kind : c.kind = .set)
    (inPool : l.inPool) (alone : c.wrap = true ∨ l.ringLength ≤ 1) (left : e.layer.stepCount + n = Config.maxSteps) :
    ∃ d, Play.due i (n + 1) e = (d, .runaway) ∧ d.Loops l p c ∧ d.layer.stepCount = Config.maxSteps := by
  induction n generalizing e with
  | zero =>
    obtain ⟨-, -, -, -, -, mode, -, -⟩ := Layer.fields_of_setup h.setup
    refine ⟨e, ?_, h, left⟩
    have full : Config.maxSteps ≤ e.layer.stepCount := Nat.le_of_eq left.symm
    simp [Play.due, h.cue inPool.2 read, Layer.streams, mode.trans inPool.1, Layer.zeroStep, kind, full]
  | succ n ih =>
    obtain ⟨-, -, -, -, -, mode, -, -⟩ := Layer.fields_of_setup h.setup
    obtain ⟨d, taken, loops, steps⟩ := h.step (i := i) kind inPool.1 alone
    rw [Play.due_again (by simp [Layer.streams, mode.trans inPool.1]) (by omega) (by rw [h.cue inPool.2 read, taken])]
    exact ih loops (by omega)

end

section
variable {s : State} {i : Slot}

theorem State.layer_ticked (alone : s.playsAlone i) : (s.ticked.layer i).state.playing = true := by
  rw [s.ticked_layer, alone.2.1]; rfl

/-- The layers behind a tick of slot `i` alone: its own record is `l`, and the others rest. -/
theorem State.resting_setLayer (alone : s.playsAlone i) {l : Layer} {p : Pool} {k : Link} (j : Slot) (hj : j ≠ i) :
    (({ s.ticked with pool := p, link := k } : State).setLayer i l).layer j = s.layer j ∧
      ((s.layer j).state = .idle ∨ (s.layer j).state = .parked) := by
  refine ⟨?_, alone.2.2 j hj⟩
  rw [State.setLayer_layer_other _ _ hj.symm]
  exact s.ticked_layer j

/-- A runaway of slot `i` alone (R69, R26). -/
theorem State.tick_runsAway {c : Cue} (alone : s.playsAlone i) (inPool : (s.layer i).inPool)
    (begun : (s.layer i).cueBegun = false) (index : (s.layer i).cueIndex = (s.layer i).ringBase)
    (read : s.pool.read (s.layer i).ringBase = c) (kind : c.kind = .set) (wraps : c.wrap = true ∨ (s.layer i).ringLength ≤ 1)
    (order : List Nat) :
    ∃ d : Play, d.Loops (s.layer i) s.pool c ∧ d.layer.stepCount = Config.maxSteps ∧
      s.tick order =
        ({ s.ticked with pool := d.pool, link := d.link.raise .layerRunaway }.setLayer i (d.layer.ranAway i)).evalFloor.settle := by
  obtain ⟨d, due, loops, steps⟩ := Play.Loops.runsAway (l := s.layer i) (i := i) (n := 16)
    (e := ⟨(s.layer i).fresh, s.pool, s.ticked.link⟩) ⟨rfl, rfl, index, begun, fun h => absurd h (Nat.lt_irrefl 0)⟩
    read kind inPool wraps rfl
  refine ⟨d, loops, steps, ?_⟩
  rw [State.tick_playsAlone alone, State.handleSlot_runaway (d := d) (State.layer_ticked alone) ?_]
  rw [s.ticked_layer, s.ticked_pool, Play.handle_due begun]
  exact due

/-- An END that is due and ends its layer (R62). -/
theorem Play.due_ends {e : Play} {n : Nat} (ready : e.layer.streams = true → e.cue.ready = true)
    (kind : e.cue.kind = .end_) (ends : e.layer.restarts i = false) :
    Play.due i (n + 1) e = (({ e with layer := e.layer.beginCue e.cue } : Play).handBack i, .completed) := by
  have handed : (e.layer.streams && !e.cue.ready) = false := by
    cases streams : e.layer.streams
    · rfl
    · simp [ready streams]
  simp [Play.due, handed, Layer.zeroStep, kind, ends, Play.takeCue_end kind ends]

/-- The END of a layer that plays alone (R62, R73). -/
theorem State.tick_ends {c : Cue} (alone : s.playsAlone i) (noFallback : (s.layer i).fallback = false)
    (begun : (s.layer i).cueBegun = false) (read : s.pool.read (s.layer i).cueIndex = c) (kind : c.kind = .end_)
    (ready : (s.layer i).ringMode = RingMode.stream → c.ready = true) (ends : (s.layer i).restarts i = false) (order : List Nat) :
    s.tick order =
      ({ s.ticked with
          pool := if (s.layer i).ringMode = RingMode.stream then s.pool.giveBack (s.layer i).cueIndex .done else s.pool
          link := if c.notify then s.ticked.link.queue (.cue i (s.layer i).cueIndex .done) else s.ticked.link }.setLayer i
        (((s.layer i).fresh.beginCue c).toIdle i .completed)).evalFloor.settle := by
  have cue : Play.cue ⟨(s.layer i).fresh, s.pool, s.ticked.link⟩ = c := by
    rw [Play.cue_of_pool (by exact noFallback)]
    exact read
  have due : Play.handle ⟨s.layer i, s.pool, s.ticked.link⟩ i =
      (Play.handBack ⟨(s.layer i).fresh.beginCue c, s.pool, s.ticked.link⟩ i, .completed) := by
    rw [Play.handle_due begun]
    refine (Play.due_ends (fun streams => ?_) (by rw [cue]; exact kind) ends).trans (by rw [cue])
    rw [cue]
    simp only [Layer.streams, Bool.and_eq_true, decide_eq_true_eq] at streams
    exact ready streams.1
  rw [State.tick_playsAlone alone, State.handleSlot_completed (State.layer_ticked alone)
    (by rw [s.ticked_layer, s.ticked_pool]; exact due)]
  simp [Play.handBack, Layer.streams, Layer.fresh, Layer.beginCue, Layer.capture, kind, noFallback]

end

/-! ### The tick of a layer that plays alone, clause by clause -/

/-- Where the other layers rest, a layer at rest leaves floor 0, and nothing else changes. -/
theorem State.alone_ended {s : State} {i : Slot} (alone : s.playsAlone i) {l : Layer} {p : Pool} {k : Link}
    (idle : l.state = .idle) {t : State}
    (ht : t = ({ s.ticked with pool := p, link := k }.setLayer i l).evalFloor.settle) :
    t.layer i = l ∧ (∀ j : Slot, j ≠ i → t.layer j = s.layer j) ∧ t.arb.floor = 0 ∧ t.pool = p ∧ t.link = k.startNext := by
  have own : ({ s.ticked with pool := p, link := k }.setLayer i l).layer i = l := State.setLayer_layer_same _ _ _
  have others := State.resting_setLayer alone (l := l) (p := p) (k := k)
  obtain ⟨layers, floor, pool, link⟩ := State.evalFloor_resting (s := { s.ticked with pool := p, link := k }.setLayer i l)
    fun j => by
      by_cases hj : j = i
      · rw [hj, own]; exact .inl idle
      · rw [(others j hj).1]; exact (others j hj).2
  subst ht
  exact ⟨(layers i).trans own, fun j hj => (layers j).trans (others j hj).1, floor, pool, congrArg Link.startNext link⟩

/-- Where the other layers rest, a slot 11 that plays a RESIDENT ring at level 15, exclusive, leaves floor 15. -/
theorem State.alone_relit {s : State} (alone : s.playsAlone egressSlot) {l : Layer} {p : Pool} {k : Link}
    (running : l.state = .running) (level : l.level = 15) (exclusive : l.exclusive = true)
    (resident : l.ringMode = .resident) {t : State}
    (ht : t = ({ s.ticked with pool := p, link := k }.setLayer egressSlot l).evalFloor.settle) :
    t.layer egressSlot = l ∧ (∀ j : Slot, j ≠ egressSlot → t.layer j = s.layer j) ∧ t.arb.floor = 15 ∧ t.pool = p := by
  generalize set : ({ s.ticked with pool := p, link := k } : State).setLayer egressSlot l = u at ht
  have own : u.layer egressSlot = l := set ▸ State.setLayer_layer_same _ _ _
  have others : ∀ j, j ≠ egressSlot → u.layer j = s.layer j ∧ ((s.layer j).state = .idle ∨ (s.layer j).state = .parked) :=
    fun j hj => set ▸ State.resting_setLayer alone j hj
  have counted : ∀ j, (u.layer j).state.counted u.arb.policy = true → j = egressSlot := fun j hc => by
    by_contra hj
    obtain ⟨same, rests⟩ := others j hj
    rw [same] at hc
    rcases rests with e | e <;> simp [LayerState.counted, LayerState.playing, e] at hc
  subst ht
  refine ⟨(State.evalFloor_layer_nonScene _ isScene_egressSlot).trans own, fun j hj => ?_, ?_, ?_⟩
  · obtain ⟨same, rests⟩ := others j hj
    exact (State.evalFloor_layer_resting (by rw [same]; exact rests)).trans same
  · refine (State.evalFloor_floor u).trans (Nat.le_antisymm (highestLevel_le_iff.mpr fun j _ hc => ?_) ?_)
    · rw [counted j hc, own, level]
    · rw [← level, ← own]
      exact le_highestLevel (by rw [own]; exact exclusive) (by rw [own, running]; rfl)
  · refine (State.evalFloor_pool_of fun j playing => ?_).trans (set ▸ rfl)
    rw [counted j (by simp [LayerState.counted, playing]), own]
    simp [Layer.ownsCue, resident]

/-- Settles O28: one handling is taken cue by cue, and the Arbiter's part follows from its flow. -/
theorem tickAdvancesCue : Obligations.TickAdvancesCue := by
  refine ⟨fun order s i awake running others begun time => ?_, fun order s i alone inPool begun sweep time hold => ?_,
    fun order s i stack overflow next alone inPool begun kind takes hold => ?_,
    fun order s i alone noFallback begun sweep kind ready ends => ?_,
    fun order s i alone inPool begun kind scene latch goes hold => ?_,
    fun order s i alone inPool begun index kind wraps => ?_⟩
  · obtain ⟨pool, layer⟩ := State.tick_goesOn awake running others begun time order
    exact ⟨_, exec_tick order s, pool, layer⟩
  · obtain ⟨pool, -, begins, layer, notices⟩ := State.tick_leads (l := (s.layer i).swept) alone inPool hold rfl rfl rfl
      (Play.handle_sweepEnds begun sweep time inPool.1) order
    refine ⟨_, exec_tick order s, pool, begins, ?_, ?_, ?_, ?_, notices⟩ <;> rw [layer] <;> rfl
  · have taken := Play.takeCue_loop (e := ⟨(s.layer i).fresh, s.pool, s.ticked.link⟩) (i := i) kind (by exact inPool.1)
    rw [Layer.takeLoop_of_loopTakes (l := (s.layer i).fresh) kind takes] at taken
    obtain ⟨pool, -, begins, layer, notices⟩ := State.tick_leads alone inPool hold (by rfl) (by rfl) (by rfl)
      (Play.handle_again (e := ⟨s.layer i, s.pool, s.ticked.link⟩) inPool begun taken) order
    refine ⟨_, exec_tick order s, pool, begins, ?_, ?_, ?_, ?_, notices⟩ <;> rw [layer] <;> rfl
  · have restarts : (s.layer i).restarts i = false := by
      rcases ends with scene | latch | finishing
      · have low : ¬(i.val = 10 ∨ i.val = 11) := by simp [isScene] at scene; omega
        simp only [Layer.restarts, Bool.and_eq_false_iff, Bool.or_eq_false_iff, decide_eq_false_iff_not]
        tauto
      · simp [Layer.restarts, latch]
      · simp [Layer.restarts, finishing]
    have tick := State.tick_ends alone noFallback begun rfl kind ready restarts order
    obtain ⟨layer, others, floor, pool, link⟩ := State.alone_ended alone (by rfl) tick
    refine ⟨_, exec_tick order s, floor, others, ⟨pool, ?_⟩, ?_⟩
    · exact State.notices_of_tick link
    · rw [layer]
      simp [Layer.toIdle, Layer.fresh, Layer.beginCue, sweep, alertSlot, Fin.ext_iff]
  · have restarts : (s.layer i).restarts i = true := by
      have high : i.val = 10 ∨ i.val = 11 := by simp [isScene] at scene; omega
      simpa [Layer.restarts, latch, goes] using high
    have taken := Play.takeCue_restart (e := ⟨(s.layer i).fresh, s.pool, s.ticked.link⟩) (i := i) kind (by exact restarts)
      (by exact inPool.1)
    obtain ⟨pool, floor, begins, layer, notices⟩ := State.tick_leads alone inPool hold (by rfl) (by rfl) (by rfl)
      (Play.handle_again (e := ⟨s.layer i, s.pool, s.ticked.link⟩) inPool begun taken) order
    refine ⟨_, exec_tick order s, pool, floor, begins, ?_, ?_, ?_, ?_, ?_, notices⟩ <;> rw [layer]
    exacts [rfl, rfl, latch, rfl, rfl]
  · obtain ⟨d, loops, steps, tick⟩ := State.tick_runsAway alone inPool begun index rfl kind wraps order
    obtain ⟨-, -, -, -, -, -, -, latch⟩ := Layer.fields_of_setup loops.setup
    obtain ⟨colour, opacity, captured, capturedOpacity⟩ := loops.shown (by rw [steps]; decide)
    have raised : (s.tick order).link.flag .layerRunaway ≠ .clear := by
      rw [tick]
      exact Link.flag_startNext (State.flag_evalFloor (Link.flag_raise_same _ _))
    by_cases restarts : i = egressSlot ∧ (s.layer i).latch = true
    · have relit : d.layer.ranAway i = d.layer.relit := if_pos (by rw [latch]; exact restarts)
      rw [relit] at tick
      obtain ⟨rfl, latched⟩ := restarts
      obtain ⟨layer, others, floor, pool⟩ := State.alone_relit alone (by rfl) (by rfl) (by rfl) (by rfl) tick
      refine ⟨_, exec_tick order s, pool.trans loops.pool, raised, others, by rw [layer]; rfl,
        fun none => absurd ⟨rfl, latched⟩ none, fun _ _ => ?_⟩
      rw [layer]
      exact ⟨rfl, rfl, rfl, rfl, rfl, rfl, rfl, latch.trans latched, floor⟩
    · have idle : d.layer.ranAway i = d.layer.toIdle i .runaway := if_neg (by rw [latch]; exact restarts)
      rw [idle] at tick
      obtain ⟨layer, others, floor, pool, -⟩ := State.alone_ended alone (by rfl) tick
      refine ⟨_, exec_tick order s, pool.trans loops.pool, raised, others, by rw [layer]; rfl, fun _ => ?_,
        fun egress latched => absurd ⟨egress, latched⟩ restarts⟩
      rw [layer]
      refine ⟨rfl, floor, loops.index, ?_, ?_, ?_⟩
      · simp [Layer.toIdle, colour, captured]
      · simp [Layer.toIdle, opacity, capturedOpacity]
      · simp [Layer.toIdle, latch, alertSlot, Fin.ext_iff]

end Sys2Proof.Machine

namespace Sys2Proof.Machine

/-! ### What rings overlap (R42) -/

theorem State.overlaps_iff {s : State} {among : Slot → Bool} {base length : Nat} {mode : RingMode} :
    s.overlaps among base length mode = true ↔
      ∃ j, among j = true ∧ (s.layer j).conflicts base length mode = true := by
  simp [State.overlaps, State.layer]

/-- The part of the link that sleep and restart hold (R182). -/
def Link.sameHold (l k : Link) : Prop := l.hold = k.hold ∧ l.txStopped = k.txStopped ∧ l.replySent = k.replySent

section
variable {l k : Link}

@[simp] theorem Link.sameHold_raise {f : Flag} : (l.raise f).sameHold k ↔ l.sameHold k := Iff.rfl

@[simp] theorem Link.sameHold_queue {n : Notice} : (l.queue n).sameHold k ↔ l.sameHold k := by
  unfold Link.queue; split <;> exact Iff.rfl

@[simp] theorem Link.sameHold_queueAll {ns : List Notice} : (l.queueAll ns).sameHold k ↔ l.sameHold k := by
  unfold Link.queueAll
  induction ns generalizing l with
  | nil => exact Iff.rfl
  | cons n ns ih => rw [List.foldl_cons, ih, Link.sameHold_queue]

@[simp] theorem Link.sameHold_startNext : l.startNext.sameHold k ↔ l.sameHold k := by
  rcases l.startNext_cases with e | ⟨-, r, rs, -, e⟩ | ⟨-, -, n, ns, -, e⟩ | ⟨-, -, -, -, e⟩ <;>
    rw [e] <;> simp [Link.sameHold, Link.reportFlags]

end

theorem State.queueOpen_sameHold {s : State} {k : Link} (ns : List Notice) (h : s.link.sameHold k) :
    (s.queueOpen ns).link.sameHold k := by
  unfold State.queueOpen
  split <;> exact Link.sameHold_queueAll.mpr h

theorem State.evalFloor_sameHold {s : State} {k : Link} (h : s.link.sameHold k) : s.evalFloor.link.sameHold k := by
  cases policy : s.arb.policy with
  | resume => simpa only [State.evalFloor, policy] using h
  | cancel =>
    rw [State.evalFloor_cancel policy]
    exact State.queueOpen_sameHold _ h

/-! ### A debounced assertion (R25) -/

/-- The state as the assertion is taken: the level and the latch are set, and the flag raised. -/
def State.asserted (s : State) : State := s.takeEgressLevel.latchEgress

section
variable {s : State}

theorem State.asserted_layer_egress (s : State) :
    s.asserted.layer egressSlot = { s.layer egressSlot with latch := true } :=
  State.setLayer_layer_same _ _ _

theorem State.asserted_layer_other (s : State) {i : Slot} (h : i ≠ egressSlot) : s.asserted.layer i = s.layer i :=
  s.takeEgressLevel.setLayer_layer_other _ h.symm

theorem execDebouncedAssertion_of_due (running : s.running = true) (due : s.debounceOver) :
    exec .debouncedAssertion s =
      .next (if s.awake then s.asserted.lightEgress.cancelSleep else s.asserted).settle := by
  obtain ⟨line, level, timer⟩ := due
  show execDebouncedAssertion s = _
  unfold execDebouncedAssertion
  rw [if_pos (by simp [State.debounceDue, running, line, level, timerDue, timer])]
  rfl

theorem State.cancelSleep_of_none (h : s.power.sleepPending = false) : s.cancelSleep = s := by
  simp [State.cancelSleep, h]

/-- The assertion in AWAKE with no sleep pending. -/
theorem exec_debouncedAssertion_awake (awake : s.power.part = .awake) (noSleep : s.power.sleepPending = false)
    (due : s.debounceOver) : exec .debouncedAssertion s = .next s.asserted.lightEgress.settle := by
  rw [execDebouncedAssertion_of_due (by simp [State.running, awake]) due, if_pos (by simp [State.awake, awake]),
    State.cancelSleep_of_none (by simpa [State.asserted] using noSleep)]

theorem State.asserted_egressLevel (due : s.debounceOver) : s.asserted.arb.egressLevel = true := due.1

theorem State.asserted_flag (s : State) : s.asserted.link.flag .egress ≠ .clear := Link.flag_raise_same _ _

/-- The assertion does not change which rings conflict. -/
theorem State.asserted_conflicts (s : State) (j : Slot) (base length : Nat) (mode : RingMode) :
    (s.asserted.layer j).conflicts base length mode = (s.layer j).conflicts base length mode := by
  by_cases hj : j = egressSlot
  · subst hj
    rw [s.asserted_layer_egress]
    rfl
  · rw [s.asserted_layer_other hj]

/-- The record of slot 11 as `startEgress` writes it. -/
theorem State.startRing_egress (s : State) (r : RingStart) :
    (s.startRing egressSlot r).layer egressSlot = (s.layer egressSlot).started r .running := by
  unfold State.startRing
  rw [State.evalFloor_layer_nonScene _ isScene_egressSlot, State.setLayer_layer_same]
  simp [State.startState]

/-- The ring that slot 11 starts: level 15 and exclusive (R25). -/
theorem State.startEgress_eq (s : State) :
    ∃ r, s.startEgress = s.startRing egressSlot r ∧ r.level = 15 ∧ r.exclusive = true ∧
      ((s.store.egressScene = 0 ∨ findScene s.library s.store.egressScene = none ∨
          (∃ c, findScene s.library s.store.egressScene = some c ∧
            s.overlaps (fun _ => true) c.base c.length .resident = true)) → r = fallbackRing) ∧
      ∀ c, s.store.egressScene ≠ 0 → findScene s.library s.store.egressScene = some c →
        s.overlaps (fun _ => true) c.base c.length .resident = false → r = c.ring 15 true := by
  unfold State.startEgress
  refine ⟨_, rfl, ?_⟩
  by_cases none : s.store.egressScene = 0
  · simp [none, fallbackRing]
  · cases found : findScene s.library s.store.egressScene with
    | none => simp [none, fallbackRing]
    | some c =>
      cases taken : s.overlaps (fun _ => true) c.base c.length .resident
      · simp [none, taken, Scene.ring]
      · simp [none, taken, fallbackRing]

/-- A start of slot 11 at level 15, exclusive, over levels of their slots' kinds: floor 15, and no scene layer in play
(R6). -/
theorem LevelsHold.startRing_egress (levels : ∀ i : Slot, levelInRange i (s.layer i).level) {r : RingStart}
    (level : r.level = 15) (exclusive : r.exclusive = true) :
    (s.startRing egressSlot r).arb.floor = 15 ∧
      ∀ i : Slot, isScene i = true → ((s.startRing egressSlot r).layer i).state.playing = false := by
  have own := s.startRing_egress r
  unfold State.startRing at own ⊢
  generalize set : s.setLayer egressSlot ((s.layer egressSlot).started r (s.startState egressSlot r.level)) = u at own ⊢
  have others : ∀ j, j ≠ egressSlot → u.layer j = s.layer j := fun j hj => set ▸ s.setLayer_layer_other _ hj.symm
  rw [State.evalFloor_layer_nonScene _ isScene_egressSlot] at own
  have high : ∀ j, (u.layer j).level ≤ 15 := fun j => by
    by_cases hj : j = egressSlot
    · subst hj; rw [own]; exact Nat.le_of_eq level
    · rw [others j hj]
      have := levels j
      unfold levelInRange at this
      split_ifs at this <;> omega
  have floor : u.evalFloor.arb.floor = 15 := by
    rw [u.evalFloor_floor]
    refine Nat.le_antisymm (highestLevel_le_iff.mpr fun j _ _ => high j) ?_
    have attained := le_highestLevel (s := u) (i := egressSlot)
      (counts := fun _ l => l.state.counted u.arb.policy) (by rw [own]; exact exclusive) (by rw [own]; rfl)
    rwa [own, show ((s.layer egressSlot).started r .running).level = 15 from level] at attained
  refine ⟨floor, fun i scene => ?_⟩
  by_contra playing
  rw [Bool.not_eq_false, u.evalFloor_layer, floor] at playing
  have above := Layer.floor_le_of_underFloor_playing scene playing
  have low := levels i
  have hi : i ≠ egressSlot := by rintro rfl; cases scene
  rw [levelInRange, if_pos scene, ← others i hi] at low
  omega

end

end Sys2Proof.Machine

namespace Sys2Proof.Machine

section
variable {s : State}

/-- A start of slot 11 touches ports, Ambient Unit, power and the holds of the link no more than a re-arm does. -/
theorem State.lightEgress_frame (s : State) :
    s.lightEgress.power = s.power ∧ s.lightEgress.amb = s.amb ∧ s.lightEgress.portA = s.portA ∧
      s.lightEgress.portB = s.portB ∧ s.lightEgress.link.sameHold s.link := by
  unfold State.lightEgress
  split
  · obtain ⟨r, e, -⟩ := s.startEgress_eq
    obtain ⟨portA, portB, -, amb, -⟩ := s.startRing_frame egressSlot r
    rw [e]
    exact ⟨s.startRing_power _ _, amb, portA, portB, State.evalFloor_sameHold ⟨rfl, rfl, rfl⟩⟩
  · exact ⟨rfl, rfl, rfl, rfl, rfl, rfl, rfl⟩

/-- A lit slot 11 is not IDLE and keeps its latch. -/
theorem State.lightEgress_layer (s : State) :
    (s.lightEgress.layer egressSlot).latch = (s.layer egressSlot).latch ∧
      (s.lightEgress.layer egressSlot).state ≠ .idle := by
  unfold State.lightEgress
  split
  · obtain ⟨r, e, -⟩ := s.startEgress_eq
    rw [e, s.startRing_egress]
    exact ⟨rfl, by simp [Layer.started]⟩
  · rename_i playing
    rw [State.setLayer_layer_same]
    exact ⟨rfl, playing⟩

/-- A marked port whose closing dark frame has ended enters RUNNING when its sleep is cancelled (R207). -/
theorem Port.resumeIf_dark {p : Port} (mark : p.wakeMark = true) (off : p.state = .off) (transfer : p.transfer = none)
    (waiting : p.waiting = []) :
    p.resumeIf false = { p with wakeMark := false, state := .running, periodTimer := 1, latchedSince := false } := by
  simp [Port.resumeIf, Port.darkDone, Port.run, mark, off, transfer, waiting]

theorem Port.resumeIf_unmarked {p : Port} (h : p.wakeMark = false ∨ p.transfer ≠ none) : p.resumeIf false = p := by
  rcases h with h | h
  · simp [Port.resumeIf, h]
  · simp [Port.resumeIf, Port.darkDone, h]

/-- What the cancelling of a pending sleep leaves (R207, R155). -/
theorem State.cancelSleep_of_pending (pending : s.power.sleepPending = true) :
    s.cancelSleep.power = { s.power with sleepPending := false } ∧ s.cancelSleep.amb = s.amb.restart ∧
      (∀ c, s.cancelSleep.port c = (s.port c).resumeIf false) ∧
      s.cancelSleep.link =
        (if s.link.replySent then { s.link with hold := .none, txStopped := false, replySent := false } else s.link) := by
  unfold State.cancelSleep
  rw [if_pos pending]
  exact ⟨rfl, rfl, fun c => by cases c <;> rfl, rfl⟩

/-- A slot 11 that an assertion starts (R25). -/
theorem egressTakesCabin_starts (levels : LevelsHold s) (awake : s.power.part = .awake)
    (noSleep : s.power.sleepPending = false) (due : s.debounceOver) (idle : (s.layer egressSlot).state = .idle) :
    ∃ t, exec .debouncedAssertion s = .next t ∧ t.arb.egressLevel = true ∧ t.link.flag .egress ≠ .clear ∧
      t.arb.floor = 15 ∧ (∀ i : Slot, isScene i = true → (t.layer i).state.playing = false) ∧
      (s.store.egressScene = 0 ∨ findScene s.library s.store.egressScene = none ∨
          (∃ c j, findScene s.library s.store.egressScene = some c ∧
            (s.layer j).conflicts c.base c.length .resident = true) →
        t.layer egressSlot = { (s.layer egressSlot).started fallbackRing .running with latch := true }) ∧
      (∀ c, s.store.egressScene ≠ 0 → findScene s.library s.store.egressScene = some c →
        (∀ j : Slot, (s.layer j).conflicts c.base c.length .resident = false) →
        t.layer egressSlot =
          { (s.layer egressSlot).started (c.ring 15 true) .running with latch := true }) := by
  obtain ⟨r, start, level, exclusive, fallback, scene⟩ := s.asserted.startEgress_eq
  have lit : s.asserted.lightEgress = s.asserted.startRing egressSlot r := by
    unfold State.lightEgress
    rw [if_pos (by rw [s.asserted_layer_egress]; exact idle), start]
  have lawful : ∀ i : Slot, levelInRange i (s.asserted.layer i).level := fun i => by
    by_cases hi : i = egressSlot
    · subst hi; rw [s.asserted_layer_egress]; exact levels.1 egressSlot
    · rw [s.asserted_layer_other hi]; exact levels.1 i
  obtain ⟨floor, quiet⟩ := LevelsHold.startRing_egress lawful level exclusive
  have record : (s.asserted.startRing egressSlot r).layer egressSlot =
      { (s.layer egressSlot).started r .running with latch := true } := by
    rw [State.startRing_egress, s.asserted_layer_egress]
    rfl
  have overlap : ∀ c : Scene, s.asserted.overlaps (fun _ => true) c.base c.length .resident = true ↔
      ∃ j, (s.layer j).conflicts c.base c.length .resident = true := fun c => by
    simp [State.overlaps_iff, s.asserted_conflicts]
  rw [exec_debouncedAssertion_awake awake noSleep due, lit]
  refine ⟨_, rfl, ?_, Link.flag_startNext (State.flag_startRing _ _ s.asserted_flag), floor, quiet, fun none => ?_,
    fun c id found free => ?_⟩
  · simpa [State.startRing] using State.asserted_egressLevel due
  · refine record.trans ?_
    rw [fallback]
    exact none.imp id (Or.imp id fun ⟨c, j, found, taken⟩ => ⟨c, found, (overlap c).mpr ⟨j, taken⟩⟩)
  · refine record.trans ?_
    rw [scene c id found]
    rw [← Bool.not_eq_true, overlap]
    exact fun ⟨j, taken⟩ => by rw [free j] at taken; cases taken

/-- Settles O31: the assertion sets level, latch and flag, and then starts, re-arms, waits or cancels by the part state. -/
theorem egressTakesCabin : Obligations.EgressTakesCabin := by
  refine ⟨fun s levels awake noSleep due idle => egressTakesCabin_starts levels awake noSleep due idle,
    fun s awake noSleep due playing => ?_, fun s starting due => ?_, fun s awake pending due => ?_⟩
  · have lit : s.asserted.lightEgress =
        s.asserted.setLayer egressSlot { s.asserted.layer egressSlot with finishing := false } := by
      unfold State.lightEgress
      rw [if_neg (by rw [s.asserted_layer_egress]; exact playing)]
    rw [exec_debouncedAssertion_awake awake noSleep due, lit]
    refine ⟨_, rfl, State.asserted_egressLevel due, Link.flag_startNext s.asserted_flag, ?_, fun i hi => ?_, rfl, rfl⟩
    · refine (State.setLayer_layer_same _ _ _).trans ?_
      rw [s.asserted_layer_egress]
    · exact (s.asserted.setLayer_layer_other _ hi.symm).trans (s.asserted_layer_other hi)
  · rw [execDebouncedAssertion_of_due (by simp [State.running, starting]) due, if_neg (by simp [State.awake, starting])]
    exact ⟨_, rfl, State.asserted_egressLevel due, Link.flag_startNext s.asserted_flag, s.asserted_layer_egress,
      fun i hi => s.asserted_layer_other hi, rfl, rfl⟩
  · rw [execDebouncedAssertion_of_due (by simp [State.running, awake]) due, if_pos (by simp [State.awake, awake])]
    obtain ⟨power, amb, portA, portB, hold⟩ := s.asserted.lightEgress_frame
    obtain ⟨latch, playing⟩ := s.asserted.lightEgress_layer
    obtain ⟨power', amb', ports, link⟩ := State.cancelSleep_of_pending (s := s.asserted.lightEgress)
      (by rw [power]; exact pending)
    have port : ∀ c, s.asserted.lightEgress.cancelSleep.settle.port c = (s.port c).resumeIf false := fun c => by
      refine Eq.trans (by cases c <;> rfl) (ports c) |>.trans ?_
      cases c
      · exact congrArg (Port.resumeIf · false) portA
      · exact congrArg (Port.resumeIf · false) portB
    have layer : s.asserted.lightEgress.cancelSleep.settle.layer egressSlot = s.asserted.lightEgress.layer egressSlot :=
      State.layer_congr s.asserted.lightEgress.cancelSleep_arb egressSlot
    obtain ⟨held, stopped, sent⟩ := hold
    obtain ⟨held', stopped', sent'⟩ : s.asserted.lightEgress.cancelSleep.settle.link.sameHold
      s.asserted.lightEgress.cancelSleep.link := Link.sameHold_startNext.mpr ⟨rfl, rfl, rfl⟩
    refine ⟨_, rfl, ?_, ?_, ?_, ?_, fun replied => ?_, fun silent => ?_, fun c => ⟨fun mark off transfer waiting => ?_,
      fun stays => ?_⟩⟩
    · exact power'.trans (by rw [power]; rfl)
    · rw [layer, latch, s.asserted_layer_egress]
    · rw [layer]; exact playing
    · exact amb'.trans (by rw [amb]; rfl)
    · rw [held', stopped', sent', link, if_pos (by rw [sent]; exact replied)]
      exact ⟨rfl, rfl, rfl⟩
    · rw [held', stopped', link, if_neg (by rw [sent]; exact Bool.eq_false_iff.mp silent), held, stopped]
      exact ⟨rfl, rfl⟩
    · rw [port c, Port.resumeIf_dark mark off transfer waiting]
    · rw [port c, Port.resumeIf_unmarked stays]

end

end Sys2Proof.Machine

namespace Sys2Proof.Machine

/-! ### PERIOD_START (R75, R81, R129) -/

/-- A transfer that falls due on a quiet port begins at once, or is dropped for want of a frame (R125). -/
theorem Port.fallDue_quiet {p : Port} (transfer : p.transfer = none) (waiting : p.waiting = []) (n : Nat) (w : Waiting) :
    p.fallDue n w = { p with transfer := p.transferFor n w, waiting := [] } := by
  have first : ∀ q : Port, q.firstOf n [w] = (q.transferFor n w, []) := fun q => by
    simp only [Port.firstOf]
    cases q.transferFor n w <;> rfl
  unfold Port.fallDue Port.beginNext
  simp only [transfer, waiting, List.nil_append, first]
  rcases w with (_ | _) | _ | _ <;> rfl

/-- A snapshot reads the Arbiter, the Ambient Unit, the Directory and the chain's budget. -/
theorem State.snapshot_congr {s t : State} {c : Chain} (arb : t.arb = s.arb) (amb : t.amb = s.amb) (dir : t.dir = s.dir)
    (budget : (t.port c).budget = (s.port c).budget) : t.snapshot c = s.snapshot c := by
  simp only [State.snapshot, arb, amb, dir, budget]

theorem Port.fallDue_budget (p : Port) (n : Nat) (w : Waiting) : (p.fallDue n w).budget = p.budget :=
  congrArg PortSettings.budget (p.fallDue_settings n w)

/-- The port whose period has started: its timer is an effective period ahead. -/
def Port.nextPeriod (p : Port) (n : Nat) : Port := { p with periodTimer := timerAgain p.periodTimer (p.effectivePeriod n) }

section
variable {s : State} {c : Chain}

theorem exec_periodStart_of_due (awake : s.power.part = .awake) (running : (s.port c).state = .running)
    (timer : (s.port c).periodTimer ≤ 1) :
    exec (.periodStart c) s = .next ((s.nextPeriod c).periodStart c).settle := by
  show execPeriodStart c s = _
  unfold execPeriodStart
  rw [if_pos (by simp [State.periodDue, State.awake, awake, running, timerDue, timer])]

theorem State.nextPeriod_port (s : State) (c : Chain) : (s.nextPeriod c).port c = (s.port c).nextPeriod (s.count c) :=
  State.onPort_port_same _ _ _

theorem State.nextPeriod_frame (s : State) (c : Chain) :
    (s.nextPeriod c).arb = s.arb ∧ (s.nextPeriod c).dir = s.dir ∧ (s.nextPeriod c).pool = s.pool ∧
      (s.nextPeriod c).amb = s.amb ∧ (s.nextPeriod c).comp c = s.comp c ∧ (s.nextPeriod c).count c = s.count c ∧
      (s.nextPeriod c).link = s.link := by
  simp [State.nextPeriod, State.count]

/-- A period start that finds no render in flight, on a chain with records: its port and Compositor (R75). -/
theorem State.periodStart_prompt (records : s.count c ≠ 0) (free : (s.comp c).render = none) :
    s.periodStart c = s.promptPeriod c := by
  simp [State.periodStart, records, free]

theorem State.periodStart_late (records : s.count c ≠ 0) (busy : (s.comp c).render ≠ none) :
    s.periodStart c = s.latePeriod c := by
  simp [State.periodStart, records, Option.isSome_iff_ne_none.mpr busy]

theorem State.promptPeriod_comp (s : State) (c : Chain) :
    (s.promptPeriod c).comp c = { s.comp c with render := some (s.snapshot c), lateMark := false } := by
  unfold State.promptPeriod
  rw [State.setComp_comp_same, State.onPort_comp, State.snapshot_congr (s := s) (by simp) (by simp) (by simp)]
  rw [State.onPort_port_same]
  split
  · exact Port.fallDue_budget _ _ _
  · rfl

theorem State.promptPeriod_port (transfer : (s.port c).transfer = none) (waiting : (s.port c).waiting = []) :
    (s.promptPeriod c).port c =
      { s.port c with transfer := (s.port c).pendingFrame.map fun f => .duty f .pending false } := by
  unfold State.promptPeriod
  rw [State.setComp_port, State.onPort_port_same]
  generalize s.port c = p at transfer waiting ⊢
  cases pending : p.pendingFrame with
  | none =>
    rw [Option.map_none, ← transfer, ← pending, pending]
    rfl
  | some f =>
    rw [if_pos (by rfl), Port.fallDue_quiet transfer waiting]
    simp [Port.transferFor, pending, waiting]

theorem State.latePeriod_comp (s : State) (c : Chain) :
    (s.latePeriod c).comp c = { s.comp c with lateMark := true } := by
  have same : ∀ (t : State) (b : Bool) (f : Flag), (t.raiseIf b f).comp c = t.comp c := fun t b f => by cases c <;> rfl
  unfold State.latePeriod
  rw [same, State.setComp_comp_same, State.onPort_comp]

theorem State.latePeriod_port (transfer : (s.port c).transfer = none) (waiting : (s.port c).waiting = []) :
    (s.latePeriod c).port c =
      if (s.port c).latchedSince then
        { s.port c with repeatedFrames := countUp (s.port c).repeatedFrames
                        transfer := (s.port c).lastLatched.map fun f => .duty f .repeated false }
      else s.port c := by
  have same : ∀ (t : State) (b : Bool) (f : Flag), (t.raiseIf b f).port c = t.port c := fun t b f => by cases c <;> rfl
  unfold State.latePeriod
  rw [same, State.setComp_port, State.onPort_port_same]
  split
  · rw [Port.fallDue_quiet (by exact transfer) (by exact waiting)]
    simp [Port.transferFor, waiting]
  · rfl

theorem State.periodStart_frame (s : State) (c : Chain) :
    (s.periodStart c).arb = s.arb ∧ (s.periodStart c).dir = s.dir ∧ (s.periodStart c).pool = s.pool ∧
      (s.periodStart c).amb = s.amb := by
  unfold State.periodStart State.latePeriod State.promptPeriod
  split
  · exact ⟨rfl, rfl, rfl, rfl⟩
  · split <;> simp

end

/-- Which layers a render sees, and what it takes of them (R17, R49). -/
theorem State.mem_snapshot_layers {s : State} {c : Chain} {l : SnapLayer} :
    l ∈ (s.snapshot c).layers ↔
      s.arb.visible l.slot = true ∧ l.level = (s.layer l.slot).level ∧ l.selector = (s.layer l.slot).selector ∧
        l.presentation = (s.layer l.slot).presentation := by
  simp only [State.snapshot, List.mem_filterMap, List.mem_finRange, true_and]
  constructor
  · rintro ⟨i, h⟩
    split at h
    · cases h
      exact ⟨‹_›, rfl, rfl, rfl⟩
    · cases h
  · rintro ⟨visible, level, selector, presentation⟩
    refine ⟨l.slot, ?_⟩
    rw [if_pos visible]
    cases l
    simp_all [State.layer]

theorem Arbiter.visible_iff {s : State} {i : Slot} :
    s.arb.visible i = true ↔
      ((s.layer i).state = .running ∨ (s.layer i).state = .starved) ∧
        (isScene i = true → s.arb.floor ≤ (s.layer i).level ∧ s.arb.master = true ∧
          (s.arb.hush = 0 ∨ (s.layer i).level = 7)) := by
  show ((s.layer i).state.playing && (!isScene i || (decide (s.arb.floor ≤ (s.layer i).level) && s.arb.master &&
    (decide (s.arb.hush = 0) || decide ((s.layer i).level = 7))))) = true ↔ _
  rw [Bool.and_eq_true, LayerState.playing_iff]
  cases isScene i <;> simp [and_assoc]

/-- The layers of a snapshot stand in the order of their slots. -/
theorem State.snapshot_layers_sorted (s : State) (c : Chain) :
    ((s.snapshot c).layers.map (fun l => l.slot)).Pairwise (· < ·) := by
  simp only [State.snapshot, List.pairwise_map, List.pairwise_filterMap]
  refine (List.pairwise_lt_finRange 12).imp fun {i j} before l hl m hm => ?_
  split at hl <;> split at hm <;> simp_all
  rw [← hl, ← hm]
  exact before

/-- Settles O33: a period start is prompt or late by the render in flight, and a snapshot and an effective period are read
off their definitions. -/
theorem periodStartActs : Obligations.PeriodStartActs := by
  refine ⟨fun c s awake running timer transfer waiting records => ?_, fun c s => ?_, fun p n => ?_⟩
  · obtain ⟨arb, dir, pool, amb⟩ := (s.nextPeriod c).periodStart_frame c
    obtain ⟨arb', dir', pool', amb', comp', count', link'⟩ := s.nextPeriod_frame c
    have port' := s.nextPeriod_port c
    have transfer' : ((s.nextPeriod c).port c).transfer = none := by rw [port']; exact transfer
    have waiting' : ((s.nextPeriod c).port c).waiting = [] := by rw [port']; exact waiting
    have records' : (s.nextPeriod c).count c ≠ 0 := by rw [count']; exact records
    have settled : ∀ u : State, u.settle.port c = u.port c ∧ u.settle.comp c = u.comp c := fun u => by cases c <;> exact ⟨rfl, rfl⟩
    have snapshot : (s.nextPeriod c).snapshot c = s.snapshot c :=
      State.snapshot_congr arb' amb' dir' (by rw [port']; rfl)
    rw [exec_periodStart_of_due awake running timer]
    by_cases free : (s.comp c).render = none
    · have prompt := State.periodStart_prompt (s := s.nextPeriod c) records' (by rw [comp']; exact free)
      have port : (((s.nextPeriod c).periodStart c).settle).port c = _ :=
        (settled _).1.trans (by rw [prompt, State.promptPeriod_port transfer' waiting', port'])
      have comp : (((s.nextPeriod c).periodStart c).settle).comp c = _ :=
        (settled _).2.trans (by rw [prompt, State.promptPeriod_comp, comp', snapshot])
      refine ⟨_, rfl, ?_, arb.trans arb', dir.trans dir', pool.trans pool', amb.trans amb', ?_, ?_, fun _ => ?_,
        fun busy => absurd free busy⟩
      · rw [port]; rfl
      · rw [port]; rfl
      · rw [port]; rfl
      · rw [port, comp]; exact ⟨rfl, rfl, rfl, rfl⟩
    · have late := State.periodStart_late (s := s.nextPeriod c) records' (by rw [comp']; exact free)
      have port : (((s.nextPeriod c).periodStart c).settle).port c = _ :=
        (settled _).1.trans (by rw [late, State.latePeriod_port transfer' waiting', port'])
      have comp : (((s.nextPeriod c).periodStart c).settle).comp c = _ :=
        (settled _).2.trans (by rw [late, State.latePeriod_comp, comp'])
      have lateFlag : (s.comp c).lateMark = false →
          ((s.nextPeriod c).periodStart c).settle.link.flag .renderLate ≠ .clear := fun clear => by
        refine Link.flag_startNext ?_
        rw [late]
        unfold State.latePeriod State.raiseIf
        simp only [State.onPort_comp, comp', clear]
        exact Link.flag_raise_same _ _
      refine ⟨_, rfl, ?_, arb.trans arb', dir.trans dir', pool.trans pool', amb.trans amb', ?_, ?_,
        fun none => absurd none free, fun _ => ⟨?_, ?_, lateFlag, fun since => ?_, fun since => ?_⟩⟩
      · rw [port]; split <;> rfl
      · rw [port]; split <;> rfl
      · rw [port]; split <;> rfl
      · rw [comp]
      · rw [comp]
      · rw [port, if_pos (by exact since)]; exact ⟨rfl, rfl⟩
      · rw [port, if_neg (by exact Bool.eq_false_iff.mp since)]; exact ⟨transfer, rfl⟩
  · refine ⟨rfl, rfl, rfl, rfl, ?_, ?_, s.snapshot_layers_sorted c, fun l => ?_⟩
    · simp [State.snapshot, State.count]
    · intro k n held
      simp only [State.snapshot, List.getElem?_mapIdx, held, Option.map_some]
      cases c <;> rfl
    · rw [State.mem_snapshot_layers, Arbiter.visible_iff, and_assoc]
      rfl
  · refine ⟨(frameBits n * p.divisor + 47999) / 48000, ⟨?_, fun k hk => ?_⟩, rfl⟩
    · show frameBits n * p.divisor ≤ _
      omega
    · replace hk : frameBits n * p.divisor ≤ k * 48000 := hk
      omega

end Sys2Proof.Machine

namespace Sys2Proof.Machine

/-! ### Refusals change nothing -/

/-- An answer other than OK or ACCEPTED leaves the state as it was and carries no data. -/
def Answer.Harmless (a : Answer) (s : State) : Prop :=
  a.status ≠ .ok → a.status ≠ .accepted → a.state = s ∧ a.data = []

theorem Answer.Refuses.harmless {a : Answer} {s : State} (h : a.Refuses s) : a.Harmless s :=
  fun _ _ => ⟨h.2.2.1, h.2.2.2⟩

@[simp] theorem Answer.harmless_plain_same (s : State) (k : Status) : (Answer.plain s k).Harmless s :=
  fun _ _ => ⟨rfl, rfl⟩

@[simp] theorem Answer.harmless_plain_ok (s t : State) : (Answer.plain t .ok).Harmless s := fun h => absurd rfl h

@[simp] theorem Answer.harmless_plain_accepted (s t : State) : (Answer.plain t .accepted).Harmless s :=
  fun _ h => absurd rfl h

@[simp] theorem Answer.harmless_ok (s t : State) (d : List Byte) : (Answer.mk t .ok d).Harmless s :=
  fun h => absurd rfl h

section
variable (p : List Byte) (s : State)

theorem startLayer_harmless : (startLayer p s).Harmless s := by
  rcases startLayer_cases p s with refuses | ⟨_, _, _, -, -, -, -, -, -, -, -, e⟩
  · exact refuses.harmless
  · rw [e]; simp

theorem startScene_harmless : (startScene p s).Harmless s := by
  rcases startScene_cases p s with refuses | ⟨_, _, -, -, -, -, -, -, -, e⟩
  · exact refuses.harmless
  · rw [e]; simp

theorem stopLayer_harmless : (stopLayer p s).Harmless s := by
  rcases stopLayer_cases p s with refuses | ⟨_, -, -, -, ⟨-, -, e⟩ | ⟨-, e⟩⟩
  · exact refuses.harmless
  · rw [e]; simp
  · rw [e]; simp

theorem setLevel_harmless : (setLevel p s).Harmless s := by
  rcases setLevel_cases p s with refuses | ⟨_, -, -, -, ⟨-, e⟩ | ⟨-, -, e⟩⟩
  · exact refuses.harmless
  · rw [e]; simp
  · rw [e]; simp

theorem setMaster_harmless : (setMaster p s).Harmless s := by
  rcases setMaster_cases p s with refuses | ⟨_, -, e⟩
  · exact refuses.harmless
  · rw [e]; simp

theorem hush_harmless : (hush p s).Harmless s := by
  rcases hush_cases p s with refuses | ⟨-, e⟩
  · exact refuses.harmless
  · rw [e]; simp

theorem setPolicy_harmless : (setPolicy p s).Harmless s := by
  rcases setPolicy_cases p s with refuses | ⟨_, -, e⟩
  · exact refuses.harmless
  · rw [e]; simp

theorem clearAlert_harmless : (clearAlert p s).Harmless s := by
  rcases clearAlert_cases p s with refuses | ⟨i, atEnd, -, -, -, e⟩
  · exact refuses.harmless
  · rw [e]
    rcases s.clearAlert_cases i atEnd with refuses | ⟨-, ⟨-, -, e⟩ | ⟨-, -, e⟩ | ⟨-, -, e⟩⟩
    · exact refuses.harmless
    all_goals rw [e]; simp

theorem loadCues_harmless : (loadCues p s).Harmless s := by
  rcases loadCues_cases p s with refuses | ⟨_, _, -, -, -, -, e⟩
  · exact refuses.harmless
  · rw [e]; simp

theorem putScene_harmless : (putScene p s).Harmless s := by
  rcases putScene_cases p s with refuses | ⟨-, -, e⟩ | ⟨_, -, -, -, -, e⟩
  · exact refuses.harmless
  · rw [e]; simp
  · rw [e]; simp

theorem vehicleEvent_harmless : (vehicleEvent p s).Harmless s := by
  rcases vehicleEvent_cases p s with refuses | ⟨_, _, -, e⟩
  · exact refuses.harmless
  · rw [e]; simp

theorem putTrigger_harmless : (putTrigger p s).Harmless s := by
  rcases putTrigger_cases p s with refuses | ⟨_, _, -, e⟩
  · exact refuses.harmless
  · rw [e]; simp

theorem sleep_harmless : (sleep s).Harmless s := by
  rcases sleep_cases s with refuses | ⟨-, -, -, e⟩
  · exact refuses.harmless
  · rw [e]; simp

/-! Requests that read -/

theorem getLayer_harmless : (getLayer p s).Harmless s := by unfold getLayer; split <;> simp

theorem readCues_harmless : (readCues p s).Harmless s := by unfold readCues; dsimp only; split <;> simp

theorem getScene_harmless : (getScene p s).Harmless s := by
  unfold getScene
  split
  · simp
  · split <;> simp

theorem getNode_harmless : (getNode p s).Harmless s := by
  unfold getNode
  split
  · simp
  · dsimp only
    split
    · simp
    · split <;> simp

theorem getCatalog_harmless : (getCatalog p s).Harmless s := by unfold getCatalog; split <;> simp

theorem getTrigger_harmless : (getTrigger p s).Harmless s := by unfold getTrigger; split <;> simp

theorem getCounters_harmless : (getCounters p s).Harmless s := by unfold getCounters; split <;> simp

/-! Requests of the Directory, the Ambient Unit, the store and the part -/

theorem putCatalog_harmless : (putCatalog p s).Harmless s := by
  unfold putCatalog
  split
  · split
    · simp
    · split <;> simp
  · simp

theorem putZoneSpan_harmless : (putZoneSpan p s).Harmless s := by
  unfold putZoneSpan
  split
  · split
    · simp
    · split <;> simp
  · simp

theorem lockCatalog_harmless : (lockCatalog s).Harmless s := by unfold lockCatalog; split <;> simp

theorem setCurve_harmless : (setCurve p s).Harmless s := by unfold setCurve; dsimp only; split <;> simp

theorem setAmbientOverride_harmless : (setAmbientOverride p s).Harmless s := by
  unfold setAmbientOverride
  dsimp only
  split
  · simp
  · split <;> simp
  · simp

theorem storeSettings_harmless : (storeSettings p s).Harmless s := by
  unfold storeSettings
  split
  · simp
  · split <;> simp

theorem storeLibrary_harmless : (storeLibrary s).Harmless s := by
  unfold storeLibrary
  split
  · simp
  · split <;> simp

theorem restart_harmless : (restart s).Harmless s := by unfold restart; split <;> simp

/-! Requests of a chain's port -/

theorem onChain_harmless {owner : Chain → State → Answer} (h : ∀ c, (owner c s).Harmless s) :
    (onChain p s owner).Harmless s := by
  unfold onChain
  split
  · exact h _
  · simp

theorem State.enumerate_harmless (c : Chain) : (State.enumerate c s).Harmless s := by
  unfold State.enumerate; split <;> simp

theorem State.setTiming_harmless (pre sel period : Nat) (c : Chain) :
    (State.setTiming pre sel period c s).Harmless s := by
  unfold State.setTiming; split <;> simp

theorem State.setBudget_harmless (budget : Nat) (c : Chain) : (State.setBudget budget c s).Harmless s := by
  simp [State.setBudget]

theorem State.setChainState_harmless (code : Nat) (c : Chain) : (State.setChainState code c s).Harmless s := by
  unfold State.setChainState State.switchOn State.switchOff
  split
  · split <;> simp
  · split <;> simp
  · simp

theorem State.reclaim_harmless (c : Chain) : (State.reclaim c s).Harmless s := by
  unfold State.reclaim
  dsimp only
  split
  · simp
  · split <;> simp

end

/-- What RAISE ALERT answers but OK: refused with one of five statuses, or ALREADY with the alert re-armed (R21). -/
theorem raiseAlert_unless_ok (p : List Byte) (s : State) (h : (raiseAlert p s).status ≠ .ok) :
    (raiseAlert p s).data = [] ∧
      (raiseAlert p s).status ∈ [Status.invalid, .notFound, .already, .busy, .overlap] ∧
      ((raiseAlert p s).status ≠ .already → (raiseAlert p s).state = s) ∧
      ((raiseAlert p s).status = .already →
        (raiseAlert p s).state = s.setLayer alertSlot { s.layer alertSlot with latch := true, finishing := false }) := by
  revert h
  unfold raiseAlert
  split
  · split
    · simp
    · unfold State.raiseAlert
      dsimp only
      split
      · simp
      · split
        · split <;> simp
        · split <;> simp
  · simp

/-- Settles O43: each owner changes the state only in the branch that answers OK or ACCEPTED. -/
theorem refusalsChangeNothing : Obligations.RefusalsChangeNothing := by
  refine ⟨fun p s => ?_, fun p s h => raiseAlert_unless_ok p s h⟩
  simp only [List.forall_mem_cons, List.not_mem_nil, false_implies, implies_true, and_true]
  exact ⟨startLayer_harmless p s, startScene_harmless p s, stopLayer_harmless p s, setLevel_harmless p s,
    getLayer_harmless p s, setMaster_harmless p s, hush_harmless p s, setPolicy_harmless p s, clearAlert_harmless p s,
    loadCues_harmless p s, readCues_harmless p s, putScene_harmless p s, getScene_harmless p s,
    onChain_harmless p s s.enumerate_harmless, getNode_harmless p s, putCatalog_harmless p s, getCatalog_harmless p s,
    putZoneSpan_harmless p s, lockCatalog_harmless s, onChain_harmless p s (s.setTiming_harmless _ _ _),
    onChain_harmless p s (s.setBudget_harmless _), onChain_harmless p s (s.setChainState_harmless _),
    onChain_harmless p s s.reclaim_harmless, setCurve_harmless p s, setAmbientOverride_harmless p s,
    vehicleEvent_harmless p s, putTrigger_harmless p s, getTrigger_harmless p s, getCounters_harmless p s,
    storeSettings_harmless p s, storeLibrary_harmless s, restart_harmless s, sleep_harmless s⟩

end Sys2Proof.Machine

namespace Sys2Proof.Machine

/-! ### Requests that read a record (R16, R120, R158) -/

section
variable {s : State} {f : LinkFrame} {owner : State → Answer}

/-- A ready request that its owner answers without effect. -/
theorem State.serve_read {status : Status} {d : List Byte} (ready : s.ready f = true)
    (length : lengthAllowed f.kind f.payload.length = true) (h : owner s.takeFrame = ⟨s.takeFrame, status, d⟩) :
    s.serve f true owner = s.answered f status d id :=
  State.serve_answered ready rfl length h

end

/-- The yes/no code as a conditional. -/
theorem ofBool_eq (b : Bool) : ofBool b = if b = true then 1 else 0 := rfl

@[simp] theorem length_be8 (n : Nat) : (be8 n).length = 1 := rfl
@[simp] theorem length_be16 (n : Nat) : (be16 n).length = 2 := rfl
@[simp] theorem length_be32 (n : Nat) : (be32 n).length = 4 := rfl

theorem slotOf_eq_none {n : Nat} : slotOf n = none ↔ 11 < n := by
  unfold slotOf
  split
  · simp; omega
  · simp; omega

section
variable (s : State)

theorem getLayer_of_slot {p : List Byte} {i : Slot} (h : slotOf (byteAt p 0) = some i) :
    getLayer p s = ⟨s, .ok, layerData i (s.layer i)⟩ := by
  simp [getLayer, h]

theorem getNode_of_node {p : List Byte} {c : Chain} {n : Node} (chain : chainCode? (byteAt p 0) = some c)
    (h : byteAt p 1 ≤ 127) (held : (s.dir.nodes c)[byteAt p 1]? = some n) :
    getNode p s = ⟨s, .ok, nodeData c (byteAt p 1) (s.dir.packed c (byteAt p 1)) n (s.port c).loopBroken⟩ := by
  simp only [getNode, chain, Nat.not_lt.mpr h, if_false, held]

theorem getNode_of_none {p : List Byte} {c : Chain} (chain : chainCode? (byteAt p 0) = some c) (h : byteAt p 1 ≤ 127)
    (none : (s.dir.nodes c)[byteAt p 1]? = Option.none) : getNode p s = .plain s .notFound := by
  simp only [getNode, chain, Nat.not_lt.mpr h, if_false, none]

/-- The status byte of GET NODE, bit by bit (R117, R120). -/
theorem statusBits_eq (k : NodeStatus) (held : Bool) :
    statusBits k held =
      (if k.overtemp then 1 else 0) + (if k.openR then 2 else 0) + (if k.openG then 4 else 0) +
        (if k.openB then 8 else 0) + if held then 16 else 0 := by
  simp only [statusBits, ofBool_eq, mul_ite, Nat.mul_one, Nat.mul_zero]

theorem chainCode_eq (c : Chain) : chainCode c = if c = .a then 0 else 1 := by cases c <;> rfl

theorem getNode_of_range {p : List Byte} (h : chainCode? (byteAt p 0) = none ∨ 127 < byteAt p 1) :
    getNode p s = .plain s .invalid := by
  unfold getNode
  split
  · rfl
  · rename_i c chain
    rcases h with h | h
    · rw [h] at chain; cases chain
    · simp [h]

theorem Directory.packed_eq (d : Directory) (c : Chain) (k : Nat) :
    d.packed c k = k + if c = .b then d.nodesA.length else 0 := by
  cases c
  · rfl
  · exact Nat.add_comm _ _

end

/-- Settles O51: each read answers its record's fields at their offsets over the dispatched state. -/
theorem recordsAreReported : Obligations.RecordsAreReported := by
  refine ⟨fun tag p s ready length => ⟨fun beyond => ?_, fun i hi => ⟨?_, ?_⟩⟩,
    fun tag p s ready length => ⟨fun out => ?_, fun c hc position => ⟨fun n hn => ⟨?_, ?_⟩, fun none => ?_⟩⟩,
    fun tag s ready => ⟨?_, ?_⟩⟩
  · refine congrArg Host.Outcome.next (State.serve_read ready (by rw [length]; rfl) ?_)
    simp [getLayer, slotOf_eq_none.mpr beyond, Answer.plain]
  · simp
  · refine congrArg Host.Outcome.next (State.serve_read ready (by rw [length]; rfl) ?_)
    rw [getLayer_of_slot _ hi]
    refine congrArg (Answer.mk s.takeFrame .ok) ?_
    show layerData i (s.layer i) = _
    generalize s.layer i = l
    have latch : ofBool (l.latch && !isScene i) = if l.latch = true ∧ isScene i = false then 1 else 0 := by
      simp [ofBool_eq]
    unfold layerData
    rw [latch]
    cases l.sweepActive <;> rfl
  · exact congrArg Host.Outcome.next (State.serve_read ready (by rw [length]; rfl) (getNode_of_range _ out))
  · simp
  · refine congrArg Host.Outcome.next (State.serve_read ready (by rw [length]; rfl) ?_)
    rw [getNode_of_node _ hc position (by exact hn), State.takeFrame_dir]
    refine congrArg (Answer.mk s.takeFrame .ok) ?_
    have held : (s.takeFrame.port c).loopBroken = (s.port c).loopBroken := by cases c <;> rfl
    rw [held, Directory.packed_eq]
    simp only [nodeData, chainCode_eq, statusBits_eq, rgb16, ofBool_eq, orNone, List.append_assoc]
  · refine congrArg Host.Outcome.next (State.serve_read ready (by rw [length]; rfl) ?_)
    exact getNode_of_none _ hc position (List.getElem?_eq_none none)
  · simp
  · exact congrArg Host.Outcome.next (State.serve_read ready rfl rfl)

end Sys2Proof.Machine

namespace Sys2Proof.Machine

/-! ### Requests of the link -/

/-- The `k`-th bit of a number built from bits, the first of the list the lowest, is the `k`-th bit of the list. -/
theorem testBit_foldr {α : Type} (q : α → Bool) (l : List α) (k : Nat) :
    (l.foldr (fun i acc => acc * 2 + ofBool (q i)) 0).testBit k = ((l[k]?).map q).getD false := by
  induction l generalizing k with
  | nil => simp
  | cons a l ih =>
    cases k with
    | zero => cases h : q a <;> simp [ofBool, h, Nat.testBit_zero]
    | succ k =>
      have half : (l.foldr (fun i acc => acc * 2 + ofBool (q i)) 0 * 2 + ofBool (q a)) / 2 =
          l.foldr (fun i acc => acc * 2 + ofBool (q i)) 0 := by
        cases q a <;> simp [ofBool]
        omega
      rw [List.foldr_cons, Nat.testBit_succ, half, ih k, List.getElem?_cons_succ]

/-- A flag's bit in a two-byte flag field. -/
theorem flagBits_getLsbD (q : FlagState → Bool) (l : Link) (g : Flag) :
    (flagBits q l.flags).getLsbD g.bit.val = q (l.flag g) := by
  have bit : (List.finRange 16)[g.bit.val]? = some g.bit := by simp
  rw [flagBits, BitVec.getLsbD_ofNat, testBit_foldr (fun i => q l.flags[i]), bit]
  simp [Link.flag, g.bit.isLt]

/-- What clearing named flags leaves. -/
theorem Link.flag_clearFlags (l : Link) (named : BitVec 16) (g : Flag) :
    (l.clearFlags named).flag g = if named.getLsbD g.bit.val = true then .clear else l.flag g := by
  simp [Link.clearFlags, Link.flag]

/-- A request served while STARTING is answered like one in AWAKE (R181, check 4). -/
theorem State.serve_starting {s : State} {f : LinkFrame} {owner : State → Answer} {status : Status} {d : List Byte}
    (dispatched : s.atDispatch f = true) (length : lengthAllowed f.kind f.payload.length = true)
    (starting : servedInStarting f.kind = true) (h : owner s.takeFrame = ⟨s.takeFrame, status, d⟩) :
    s.serve f true owner = s.answered f status d id := by
  have checked : linkChecked f owner s.takeFrame = owner s.takeFrame := by simp [linkChecked, length, starting]
  simp only [State.serve, dispatched, Bool.and_self, if_true, checked, h]
  rfl

/-- The bytes of a slot in the status block: its layer's state and level. -/
def slotStatus (l : Layer) : List Byte := be8 (layerStateCode l.state) ++ be8 l.level

/-- The slots' bytes of a status block: the bytes of slot `i` stand at `2 * i`. -/
theorem slotStatuses_getElem? (layers : Slot → Layer) (i : Slot) :
    ((List.finRange 12).flatMap fun j => slotStatus (layers j))[2 * i.val]? =
        some (BitVec.ofNat 8 (layerStateCode (layers i).state)) ∧
      ((List.finRange 12).flatMap fun j => slotStatus (layers j))[2 * i.val + 1]? =
        some (BitVec.ofNat 8 (layers i).level) := by
  fin_cases i <;> exact ⟨rfl, rfl⟩

theorem length_slotStatuses (layers : Slot → Layer) :
    ((List.finRange 12).flatMap fun j => slotStatus (layers j)).length = 24 := rfl

/-- The status block cut before and behind the slots' bytes; the floor's byte follows them. -/
theorem statusData_slots (s : State) :
    ∃ front rest, front.length = 20 ∧ rest.length = 57 ∧
      statusData s =
        front ++ (((List.finRange 12).flatMap fun j => slotStatus (s.layer j)) ++ (BitVec.ofNat 8 s.arb.floor :: rest)) :=
  ⟨partStatus s ++ linkStatus s.link,
    be8 (ofBool s.arb.master) ++ be16 s.arb.u ++ be8 (policyCode s.arb.policy) ++ be16 (hushSeconds s.arb) ++
      be8 (ofBool (s.layer alertSlot).latch) ++ be8 (ofBool (s.layer egressSlot).latch) ++
      be8 (ofBool s.arb.egressLevel) ++ be16 s.amb.applied ++ be8 (ofBool s.amb.stale) ++ be8 (s.count .a) ++
      be8 (s.count .b) ++ be8 (ofBool s.dir.locked) ++ portStatus s.portA (s.count .a) ++
      portStatus s.portB (s.count .b) ++ compStatus s.compA ++ compStatus s.compB,
    by simp [partStatus, linkStatus], by simp [portStatus, compStatus], by
      simp only [statusData, arbiterStatus, be8, slotStatus, State.layer, List.append_assoc, List.cons_append,
        List.nil_append]⟩

/-- The length of the status block, the floor's byte, and the bytes of every slot. -/
theorem statusData_bytes (s : State) :
    (statusData s).length = 102 ∧ (statusData s)[44]? = some (BitVec.ofNat 8 s.arb.floor) ∧
      ∀ i : Slot, (statusData s)[20 + 2 * i.val]? = some (BitVec.ofNat 8 (layerStateCode (s.layer i).state)) ∧
        (statusData s)[21 + 2 * i.val]? = some (BitVec.ofNat 8 (s.layer i).level) := by
  obtain ⟨front, rest, hfront, hrest, h⟩ := statusData_slots s
  have slots := length_slotStatuses s.layer
  rw [h]
  refine ⟨by simp only [List.length_append, List.length_cons, hfront, hrest, slots], ?_, fun i => ?_⟩
  · rw [List.getElem?_append_right (by omega), List.getElem?_append_right (by omega), hfront, slots]
    rfl
  · have state : 20 + 2 * i.val - front.length = 2 * i.val := by omega
    have level : 21 + 2 * i.val - front.length = 2 * i.val + 1 := by omega
    rw [List.getElem?_append_right (by omega), state, List.getElem?_append_left (by omega),
      List.getElem?_append_right (by omega), level, List.getElem?_append_left (by omega)]
    exact slotStatuses_getElem? s.layer i

theorem slotStatuses_eq (layers : Slot → Layer) :
    ((List.finRange 12).flatMap fun j => slotStatus (layers j)) =
      slotStatus (layers 0) ++ slotStatus (layers 1) ++ slotStatus (layers 2) ++ slotStatus (layers 3) ++
        slotStatus (layers 4) ++ slotStatus (layers 5) ++ slotStatus (layers 6) ++ slotStatus (layers 7) ++
        slotStatus (layers 8) ++ slotStatus (layers 9) ++ slotStatus (layers 10) ++ slotStatus (layers 11) := rfl

theorem partCode_eq (p : PartState) : partCode p = if decide (p = .awake) = true then 1 else 0 := by cases p <;> rfl

theorem policyCode_eq (p : Policy) : policyCode p = if p = .cancel then 1 else 0 := by cases p <;> rfl

/-- The byte that says whether a region is being written (R191). -/
theorem storeRegionCode_busy (op : StoreOp) :
    (if storeRegionCode op = 0 then 0 else 1) = if decide (op ≠ .idle) = true then 1 else 0 := by cases op <;> rfl

/-- Settles O45: the byte lists field by field, and each request's answer by its owner's equation. -/
theorem linkRequestsAct : Obligations.LinkRequestsAct := by
  unfold Obligations.LinkRequestsAct
  refine ⟨fun tag s h => congrArg Host.Outcome.next (State.serve_starting h rfl rfl rfl), statusData_bytes,
    fun s => ⟨?_, fun g => ⟨flagBits_getLsbD _ s.link g, flagBits_getLsbD _ s.link g, flagBits_getLsbD _ s.link g⟩⟩,
    fun tag p s ready length out => ?_, fun tag p s clear ready length h => ?_, fun tag p s ready length => ?_,
    fun tag p s ready length => ?_⟩
  · have slots : ((List.finRange 12).flatMap fun i =>
        be8 (layerStateCode s.arb.layers[i].state) ++ be8 s.arb.layers[i].level) = _ := slotStatuses_eq s.layer
    rw [statusData, partStatus, arbiterStatus, slots, partCode_eq, storeRegionCode_busy, policyCode_eq]
    simp only [linkStatus, Link.unsent, slotStatus, portStatus, compStatus, ofBool_eq, Ambient.applied, hushSeconds,
      Port.divisor, divisorOf, State.port, State.comp, List.append_assoc]
    cases s.store.op <;> rfl
  · refine congrArg Host.Outcome.next (State.serve_read ready (by rw [length]; rfl) ?_)
    have noCode : boolCode? (byteAt p 0) = none := by
      rw [boolCode?, if_neg (by omega), if_neg (by omega)]
    simp only [getCounters, noCode, Answer.plain]
  · refine congrArg Host.Outcome.next (State.serve_answered ready rfl (by rw [length]; rfl) ?_)
    simp only [getCounters, h]
    cases clear <;> rfl
  · exact congrArg Host.Outcome.next (State.serve_answered ready rfl (by rw [length]; rfl) rfl)
  · exact ⟨s.link.clearFlags (BitVec.ofNat 16 (wordAt p 0)), Link.flag_clearFlags s.link _,
      congrArg Host.Outcome.next (State.serve_answered ready rfl (by rw [length]; rfl) rfl)⟩

end Sys2Proof.Machine

namespace Sys2Proof.Machine

/-! ### Cues given back by ends (R5) -/

/-- The pool is written only where a layer of `s` that `ended` names has its begun STREAM cue given back CUT. -/
def State.yieldsTo (s t : State) (ended : Slot → Prop) : Prop :=
  ∀ k, t.pool.read k = s.pool.read k ∨
    (t.pool.read k = { s.pool.read k with ready := false, status := .cut } ∧
      ∃ i : Slot, (s.layer i).ownsCue = true ∧ (s.layer i).cueIndex = k ∧ (s.layer i).state ≠ .idle ∧ ended i)

/-- Every begun STREAM cue that a layer of `u` in play owns, the same layer of `s` in play owns. -/
def State.ownsNoMore (u s : State) : Prop :=
  ∀ i : Slot, (u.layer i).state ≠ .idle → (u.layer i).ownsCue = true →
    (s.layer i).ownsCue = true ∧ (s.layer i).cueIndex = (u.layer i).cueIndex ∧ (s.layer i).state ≠ .idle

section
variable {s t u : State} {A B : Slot → Prop}

theorem State.poolYields_iff : s.poolYields t ↔ s.yieldsTo t fun i => (t.layer i).state = .idle := Iff.rfl

theorem State.yieldsTo_of_pool (h : t.pool = s.pool) : s.yieldsTo t A := fun k => .inl (by rw [h])

theorem State.yieldsTo.mono (h : s.yieldsTo t A) (le : ∀ i, A i → B i) : s.yieldsTo t B := fun k =>
  (h k).imp_right fun ⟨given, i, owns, index, busy, ended⟩ => ⟨given, i, owns, index, busy, le i ended⟩

theorem State.yieldsTo.congr (h : s.yieldsTo t A) (pool : u.pool = t.pool) : s.yieldsTo u A := by
  unfold State.yieldsTo
  rw [pool]
  exact h

theorem State.yieldsTo.trans (h : s.yieldsTo t A) (k : t.yieldsTo u B) (owns : t.ownsNoMore s) :
    s.yieldsTo u fun i => A i ∨ B i := by
  intro n
  rcases k n with stays | ⟨given, i, owner, index, busy, ended⟩
  · rw [stays]
    exact (h.mono fun i => Or.inl) n
  · obtain ⟨owner', index', busy'⟩ := owns i busy owner
    refine .inr ⟨?_, i, owner', index'.trans index, busy', .inr ended⟩
    rcases h n with e | ⟨e, -⟩ <;> rw [given, e]

/-- What a fold of give-backs leaves at index `k`. -/
theorem Pool.read_foldl_giveBack (ends : Slot → Bool) (index : Slot → Nat) (k : Nat) (slots : List Slot) {p : Pool}
    (canon : p.wf = true) :
    ((∃ i ∈ slots, ends i = true ∧ index i = k) →
      (slots.foldl (fun q i => if ends i then q.giveBack (index i) .cut else q) p).read k =
        { p.read k with ready := false, status := .cut }) ∧
    ((∀ i ∈ slots, ends i = true → index i ≠ k) →
      (slots.foldl (fun q i => if ends i then q.giveBack (index i) .cut else q) p).read k = p.read k) := by
  induction slots generalizing p with
  | nil => simp
  | cons i slots ih =>
    rw [List.foldl_cons]
    cases h : ends i with
    | false =>
      simpa [h] using ih canon
    | true =>
      have ih := ih (Pool.giveBack_wf (index i) .cut canon)
      simp only [if_true]
      by_cases here : index i = k
      · have given := Pool.read_giveBack_same (index i) .cut canon
        rw [here] at given ih ⊢
        refine ⟨fun _ => ?_, fun others => absurd here (others i (by simp) h)⟩
        by_cases again : ∃ j ∈ slots, ends j = true ∧ index j = k
        · rw [ih.1 again, given]
        · push Not at again
          rw [ih.2 again, given]
      · rw [Pool.read_giveBack_other .cut (Ne.symm here)] at ih
        refine ⟨fun ⟨j, hj, ended, found⟩ => ih.1 ⟨j, ?_, ended, found⟩,
          fun others => ih.2 fun j hj => others j (List.mem_cons_of_mem _ hj)⟩
        rcases List.mem_cons.mp hj with rfl | hj
        · exact absurd found here
        · exact hj

/-- Ends give back the begun STREAM cue of every layer they end. -/
theorem State.endLayers_read {p : Slot → Layer → Bool} (r : EndReason) (canon : s.pool.wf = true) (k : Nat) :
    ((∃ i, p i (s.layer i) = true ∧ (s.layer i).ownsCue = true ∧ (s.layer i).cueIndex = k) →
      (s.endLayers p r).1.pool.read k = { s.pool.read k with ready := false, status := .cut }) ∧
    ((∀ i, p i (s.layer i) = true → (s.layer i).ownsCue = true → (s.layer i).cueIndex ≠ k) →
      (s.endLayers p r).1.pool.read k = s.pool.read k) := by
  have fold := Pool.read_foldl_giveBack (fun i => p i (s.layer i) && (s.layer i).ownsCue) (fun i => (s.layer i).cueIndex) k
    (List.finRange 12) canon
  obtain ⟨given, stays⟩ := fold
  refine ⟨fun ⟨i, ends, owns, index⟩ => given ⟨i, List.mem_finRange i, by simp [ends, owns], index⟩,
    fun none => stays fun i _ ends => ?_⟩
  rw [Bool.and_eq_true] at ends
  exact none i ends.1 ends.2

/-- Ends of layers in play write no other record of the pool. -/
theorem State.endLayers_yields {p : Slot → Layer → Bool} (r : EndReason) (canon : s.pool.wf = true)
    (busy : ∀ i, p i (s.layer i) = true → (s.layer i).state ≠ .idle) :
    s.yieldsTo (s.endLayers p r).1 fun i => p i (s.layer i) = true := by
  intro k
  obtain ⟨given, stays⟩ := State.endLayers_read (p := p) r canon k
  by_cases found : ∃ i, p i (s.layer i) = true ∧ (s.layer i).ownsCue = true ∧ (s.layer i).cueIndex = k
  · obtain ⟨i, ends, owns, index⟩ := found
    exact .inr ⟨given ⟨i, ends, owns, index⟩, i, owns, index, busy i ends, ends⟩
  · push Not at found
    exact .inl (stays found)

/-- Ended layers own nothing. -/
theorem State.endLayers_ownsNoMore (p : Slot → Layer → Bool) (r : EndReason) : (s.endLayers p r).1.ownsNoMore s := by
  intro i busy owns
  rw [State.endLayers_layer] at busy owns ⊢
  split at busy
  · exact absurd rfl busy
  · rename_i h
    rw [if_neg h] at owns ⊢
    exact ⟨owns, rfl, busy⟩

/-- A floor evaluation gives back only cues of layers that it cuts. -/
theorem State.evalFloor_yields (canon : s.pool.wf = true) : s.yieldsTo s.evalFloor fun i => (s.evalFloor.layer i).state = .idle := by
  cases policy : s.arb.policy with
  | resume => exact State.yieldsTo_of_pool (by simp only [State.evalFloor, policy])
  | cancel =>
    have cuts := State.endLayers_yields (s := s) (p := s.belowFloorOf) .cut canon fun i below => by
      simp only [State.belowFloorOf, Bool.and_eq_true] at below
      exact (LayerState.ne_of_playing below.1.2).1
    have pool : s.evalFloor.pool = (s.endLayers s.belowFloorOf .cut).1.pool := by
      rw [State.evalFloor_cancel policy, State.queueOpen_pool]
    refine (cuts.congr pool).mono fun i below => ?_
    have layer : s.evalFloor.layer i = (s.endLayers s.belowFloorOf .cut).1.layer i := by
      rw [State.evalFloor_cancel policy, State.layer_congr (State.queueOpen_arb _ _)]
      rfl
    rw [layer, State.endLayers_layer, if_pos below]
    rfl

end

/-! ### The transmitter and the reply (R181, R183) -/

/-- The part of the link that decides what is sent next of the replies. -/
def Link.sameSend (l k : Link) : Prop := l.replies = k.replies ∧ l.tx = k.tx ∧ l.txStopped = k.txStopped

section
variable {l k : Link}

theorem Link.sameSend_refl : l.sameSend l := ⟨rfl, rfl, rfl⟩

@[simp] theorem Link.sameSend_raise {f : Flag} : (l.raise f).sameSend k ↔ l.sameSend k := Iff.rfl

@[simp] theorem Link.sameSend_queue {n : Notice} : (l.queue n).sameSend k ↔ l.sameSend k := by
  unfold Link.queue; split <;> exact Iff.rfl

@[simp] theorem Link.sameSend_queueAll {ns : List Notice} : (l.queueAll ns).sameSend k ↔ l.sameSend k := by
  unfold Link.queueAll
  induction ns generalizing l with
  | nil => exact Iff.rfl
  | cons n ns ih => rw [List.foldl_cons, ih, Link.sameSend_queue]

end

theorem State.queueOpen_sameSend {s : State} {k : Link} (ns : List Notice) (h : s.link.sameSend k) :
    (s.queueOpen ns).link.sameSend k := by
  unfold State.queueOpen
  split <;> exact Link.sameSend_queueAll.mpr h

theorem State.evalFloor_sameSend {s : State} {k : Link} (h : s.link.sameSend k) : s.evalFloor.link.sameSend k := by
  cases policy : s.arb.policy with
  | resume => simpa only [State.evalFloor, policy] using h
  | cancel =>
    rw [State.evalFloor_cancel policy]
    exact State.queueOpen_sameSend _ h

/-- A transmitter with a reply to send takes it before any notice, and leaves the notices. -/
theorem Link.startNext_reply {l : Link} (h : l.replies ≠ []) : l.startNext.notices = l.notices := by
  rcases l.startNext_cases with e | ⟨-, r, rs, -, e⟩ | ⟨-, none, -⟩ | ⟨-, none, -⟩
  · rw [e]
  · rw [e]
  · exact absurd none h
  · exact absurd none h

section
variable {s t : State} {f : LinkFrame} {status : Status}

/-- A reply without data joins the unsent replies of a state that has sent nothing more. -/
theorem State.replied_reply (send : t.link.sameSend s.link) : s.replied (t.reply f status []).settle f status [] := by
  obtain ⟨replies, tx, stopped⟩ := send
  have payload : (if status.carriesData then ([] : List Byte) else []) = [] := ite_self _
  unfold State.replied
  dsimp only
  refine ⟨fun busy => ?_, fun free running waiting => ?_⟩
  · have still : (t.reply f status []).settle.link = (t.reply f status []).link :=
      Link.startNext_of_busy (by rw [← tx] at busy; exact busy)
    rw [still]
    exact ⟨by simp only [State.reply, replies, payload]; rfl, tx⟩
  · rw [← tx] at free
    rw [← replies] at waiting
    rw [← stopped] at running
    simp [State.settle, Link.startNext, State.reply, free, running, waiting, replyKind]

theorem State.settle_reply_notices (data : List Byte) : ((t.reply f status data).settle).link.notices = t.link.notices :=
  Link.startNext_reply (l := (t.reply f status data).link) (by simp [State.reply])

end

/-! ### Requests that end with a floor evaluation -/

theorem State.sameButLayers_policy {s t : State} (h : s.sameButLayers t) : t.arb.policy = s.arb.policy := by
  obtain ⟨-, -, -, -, -, -, -, -, -, -, -, policy, -⟩ := h
  exact policy

/-- From `s` the floor has been evaluated over the layers `before`, with no effect but on layers, floor, pool and
notices. -/
structure State.Settles (s t : State) (before : Slot → Layer) : Prop where
  same : s.sameButLayers t
  settled : t.settledFrom s.arb.policy before
  yields : s.poolYields t
  send : t.link.sameSend s.link

section
variable {s t u : State} {before : Slot → Layer}

/-- A floor evaluation over layers set up from `s`. -/
theorem State.settles_evalFloor (canon : u.pool.wf = true) (upper : UpperFits u) (same : s.sameButLayers u)
    (yields : s.poolYields u) (owns : u.ownsNoMore s) (send : u.link.sameSend s.link) : s.Settles u.evalFloor u.layer where
  same := sameButLayers_evalFloor.mpr same
  settled := by
    rw [← State.sameButLayers_policy same]
    exact State.evalFloor_settled upper
  yields := by
    refine (State.yieldsTo.trans yields (State.evalFloor_yields canon) owns).mono fun i ended => ?_
    rcases ended with idle | idle
    · rw [State.evalFloor_layer_resting (.inl idle)]
      exact idle
    · exact idle
  send := State.evalFloor_sameSend send

/-- The answer OK of a request that ends with a floor evaluation. -/
theorem State.Settles.answered {f : LinkFrame} {mine : Bool} {owner : State → Answer} (ready : s.ready f = true)
    (own : mine = true) (length : lengthAllowed f.kind f.payload.length = true) (answer : owner s.takeFrame = .plain t .ok)
    (h : s.takeFrame.Settles t before) {r : Result} (run : r = .next (s.serve f mine owner)) :
    r = .next (t.reply f .ok []).settle ∧ s.replied (t.reply f .ok []).settle f .ok [] ∧
      s.sameButLayers (t.reply f .ok []).settle ∧ (t.reply f .ok []).settle.settledFrom s.arb.policy before ∧
      s.poolYields (t.reply f .ok []).settle := by
  have same : s.sameButLayers t := h.same
  refine ⟨?_, State.replied_reply h.send, by simpa using same, h.settled, h.yields⟩
  rw [run, State.serve_ready ready own length, answer]
  rfl

end

end Sys2Proof.Machine

namespace Sys2Proof.Machine

/-! ### Starts and their floor evaluation (R11, R6) -/

/-- A floor that suspends a RUNNING layer leaves a SUSPENDED one, and the other way round. -/
theorem Layer.underFloor_suspended (l : Layer) (floor : Nat) {i : Slot} (scene : isScene i = true) :
    ({ l with state := .suspended } : Layer).underFloor .resume floor i =
      ({ l with state := .running } : Layer).underFloor .resume floor i := by
  by_cases low : l.level < floor
  · simp [Layer.underFloor, scene, LayerState.playing, low]
  · simp [Layer.underFloor, scene, LayerState.playing, low, Nat.not_lt.mp low]

/-- The state of the record that a START writes before the floor: PARKED at level 0 of a scene slot, else RUNNING. -/
def startedState (i : Slot) (level : Nat) : LayerState := if isScene i = true ∧ level = 0 then .parked else .running

/-- A START's record settles as if it had been written RUNNING. -/
theorem State.started_underFloor (s : State) (l : Layer) (i : Slot) (r : RingStart) (floor : Nat) :
    (l.started r (s.startState i r.level)).underFloor s.arb.policy floor i =
      (l.started r (startedState i r.level)).underFloor s.arb.policy floor i := by
  unfold State.startState startedState
  by_cases park : isScene i = true ∧ r.level = 0
  · simp [park]
  · rw [if_neg (by simpa using park), if_neg park]
    split
    · rename_i suspends
      simp only [Bool.and_eq_true, decide_eq_true_eq] at suspends
      rw [suspends.1.2]
      exact (l.started r .running).underFloor_suspended floor suspends.1.1
    · rfl

theorem Layer.started_ownsCue (l : Layer) (r : RingStart) (k : LayerState) : (l.started r k).ownsCue = false := by
  simp [Layer.ownsCue, Layer.started]

section
variable {s t : State}

theorem State.settledFrom_congr {policy : Policy} {before after : Slot → Layer} (h : t.settledFrom policy before)
    (e : ∀ floor i, (before i).underFloor policy floor i = (after i).underFloor policy floor i) :
    t.settledFrom policy after :=
  ⟨h.1, fun i => (h.2 i).trans (e _ i)⟩

theorem State.ready_awake {f : LinkFrame} (h : s.ready f = true) : s.power.part = .awake := by
  simp only [State.ready, State.awake, Bool.and_eq_true, decide_eq_true_eq] at h
  exact h.1

/-- A layer record in which no cue has begun takes the place of an IDLE one. -/
theorem State.setLayer_ownsNoMore {i : Slot} {l : Layer} (h : l.ownsCue = false) : (s.setLayer i l).ownsNoMore s := by
  intro j busy owns
  rw [State.setLayer_layer] at busy owns ⊢
  split
  · rename_i e
    rw [if_pos e, h] at owns
    cases owns
  · rename_i e
    rw [if_neg e] at busy
    exact ⟨by rwa [if_neg e] at owns, rfl, busy⟩

/-- A START on the record `l` in slot `i`: the record of R11, and a floor evaluation over it. -/
theorem State.settles_started (canon : PoolCanonical s) (upper : UpperFits s) (i : Slot) (l : Layer) (r : RingStart) :
    s.Settles (s.setLayer i (l.started r (s.startState i r.level))).evalFloor
      (s.layersWith i (l.started r (startedState i r.level))) := by
  have h : s.Settles (s.setLayer i (l.started r (s.startState i r.level))).evalFloor
      (s.setLayer i (l.started r (s.startState i r.level))).layer := by
    refine State.settles_evalFloor canon (fun j nonScene => ?_) ?_ ?_
      (State.setLayer_ownsNoMore (l.started_ownsCue r _)) Link.sameSend_refl
    · rw [State.setLayer_layer]
      split
      · rename_i e
        rw [e] at nonScene
        simp [Layer.started, State.startState, nonScene]
      · exact upper j nonScene
    · rw [sameButLayers_setLayer]; exact s.sameButLayers_refl
    · exact State.yieldsTo_of_pool rfl
  refine ⟨h.same, State.settledFrom_congr h.settled fun floor j => ?_, h.yields, h.send⟩
  unfold State.layersWith
  rw [State.setLayer_layer]
  split
  · rename_i e; rw [e]; exact s.started_underFloor l i r floor
  · rfl

/-- The start of a ring in a slot. -/
theorem State.settles_startRing (canon : PoolCanonical s) (upper : UpperFits s) (i : Slot) (r : RingStart) : s.Settles (s.startRing i r) (s.layersWith i (s.startedIn i r)) :=
  State.settles_started canon upper i (s.layer i) r

end

/-! ### The checks of a start, in the words of the obligations -/

theorem slotOf_of_lt {n : Nat} (h : n < 12) : slotOf n = some ⟨n, h⟩ := dif_pos h

theorem slotOf_eq_some {n : Nat} {i : Slot} : slotOf n = some i ↔ i.val = n := by
  unfold slotOf
  split
  · simp [Fin.ext_iff, eq_comm]
  · rename_i h
    simp only [reduceCtorEq, false_iff]
    omega

theorem isScene_iff {i : Slot} : isScene i = true ↔ i.val ≤ 9 := by
  simp only [isScene, decide_eq_true_eq]
  omega

theorem eq_egressSlot_iff {i : Slot} : i = egressSlot ↔ i.val = 11 := Fin.ext_iff

theorem boolCode?_eq_none {n : Nat} : boolCode? n = none ↔ 1 < n := by
  unfold boolCode?
  split
  · simp; omega
  · split
    · simp; omega
    · simp; omega

theorem ringMode?_eq (n : Nat) : ringMode? n = if 1 < n then none else some (if n = 0 then .stream else .resident) := by
  unfold ringMode?
  by_cases stream : n = 0
  · simp [stream]
  · by_cases resident : n = 1
    · simp [resident]
    · rw [if_neg stream, if_neg resident, if_pos (by omega)]

section
variable {s : State}

theorem State.slotBusy_slot (i : Slot) : s.slotBusy i.val = decide ((s.layer i).state ≠ .idle) := by
  unfold State.slotBusy
  congr 1
  refine propext ⟨fun ⟨j, hj, busy⟩ => ?_, fun busy => ⟨i, rfl, busy⟩⟩
  rwa [← Fin.ext hj]

theorem State.overlaps_all (base length : Nat) (mode : RingMode) :
    s.overlaps (fun _ => true) base length mode = s.ringTaken base length mode := by
  rw [Bool.eq_iff_iff, State.overlaps_iff]
  simp [State.ringTaken]

/-- The level check of R10 and R15 for the slots below 11. -/
theorem levelFits_eq_false {i : Slot} (below : i.val < 11) (level : Nat) :
    levelFits i level = false ↔ (i.val ≤ 9 ∧ 7 < level) ∨ (i.val = 10 ∧ (level < 8 ∨ 14 < level)) := by
  unfold levelFits
  by_cases scene : isScene i = true
  · have := isScene_iff.mp scene
    simp [scene]; omega
  · have := isScene_iff.not.mp scene
    simp [scene]; omega

theorem State.belowFloor_iff {i : Slot} {level bound : Nat} :
    s.belowFloor i level bound = true ↔ s.arb.policy = .cancel ∧ i.val ≤ 9 ∧ level ≠ 0 ∧ level < bound := by
  simp [State.belowFloor, isScene_iff, and_assoc]

theorem startFields_eq (p : List Byte) (exclusive : Bool) :
    startFields p exclusive =
      if wordAt p 5 = 0 ∨ 256 < wordAt p 5 ∨ 2048 < wordAt p 3 + wordAt p 5 ∨ 1 < byteAt p 7 ∨ wordAt p 5 ≤ byteAt p 8 then
        none
      else
        some { level := byteAt p 1, exclusive := exclusive, sceneId := 0, base := wordAt p 3, length := wordAt p 5,
               mode := if byteAt p 7 = 0 then .stream else .resident, offset := byteAt p 8, fallback := false } := by
  unfold startFields
  rw [ringMode?_eq]
  by_cases mode : 1 < byteAt p 7
  · simp [mode]
  · simp only [mode, Config.maxRing, Config.poolSize, if_false, Option.bind_some, false_or]
    exact if_congr Iff.rfl rfl rfl

/-- The status of START LAYER is that of the first failing check (R210, R10). -/
theorem startLayer_status (p : List Byte) : (startLayer p s).status = s.startLayerStatus p := by
  unfold startLayer State.startLayerStatus
  dsimp only
  cases exclusive : boolCode? (byteAt p 2) with
  | none => rw [if_pos (boolCode?_eq_none.mp exclusive)]; rfl
  | some e =>
    rw [if_neg (by rw [← boolCode?_eq_none, exclusive]; simp)]
    cases slot : slotOf (byteAt p 0) with
    | none => rw [if_pos (by have := slotOf_eq_none.mp slot; omega)]; rfl
    | some i =>
      have hi := slotOf_eq_some.mp slot
      dsimp only
      rw [← hi]
      by_cases egress : i = egressSlot
      · rw [if_pos egress, if_pos (by rw [egress]; decide)]; rfl
      · have below : i.val < 11 := by have := eq_egressSlot_iff.not.mp egress; omega
        rw [if_neg egress, if_neg (Nat.not_le.mpr below)]
        by_cases level : levelFits i (byteAt p 1) = false
        · rw [if_pos level, if_pos ((levelFits_eq_false below _).mp level)]; rfl
        · rw [if_neg level, if_neg ((levelFits_eq_false below _).not.mp level), startFields_eq]
          by_cases ring : wordAt p 5 = 0 ∨ 256 < wordAt p 5 ∨ 2048 < wordAt p 3 + wordAt p 5 ∨ 1 < byteAt p 7 ∨
              wordAt p 5 ≤ byteAt p 8
          · rw [if_pos ring, if_pos ring]; rfl
          · rw [if_neg ring, if_neg ring]
            dsimp only
            rw [State.slotBusy_slot, State.overlaps_all]
            simp only [decide_eq_true_eq, State.belowFloor_iff]
            split_ifs <;> rfl

/-- The level a START SCENE asks for, DEFAULT being the scene's own (R12). -/
theorem Scene.resolve_eq (c : Scene) (level : Nat) : c.resolve level = if level = 0xFF then c.level else level := rfl

/-- The status of START SCENE is that of the first failing check (R12). -/
theorem startScene_status (p : List Byte) : (startScene p s).status = s.startSceneStatus p := by
  unfold startScene State.startSceneStatus
  dsimp only
  cases slot : slotOf (byteAt p 0) with
  | none => rw [if_pos (by have := slotOf_eq_none.mp slot; omega)]; rfl
  | some i =>
    have hi := slotOf_eq_some.mp slot
    dsimp only
    rw [← hi]
    by_cases scene : isScene i = false
    · have beyond : 9 < i.val := by
        have := isScene_iff.not.mp (by rw [scene]; exact Bool.false_ne_true)
        omega
      rw [if_pos scene, if_pos beyond]; rfl
    · have within : i.val ≤ 9 := isScene_iff.mp (by simpa using scene)
      rw [if_neg scene, if_neg (Nat.not_lt.mpr within)]
      by_cases id : byteAt p 1 = 0
      · rw [if_pos id, if_pos id]; rfl
      · rw [if_neg id, if_neg id]
        by_cases level : 7 < byteAt p 2 ∧ byteAt p 2 ≠ 0xFF
        · rw [if_pos (by exact level), if_pos level]; rfl
        · rw [if_neg (by exact level), if_neg level]
          cases findScene s.library (byteAt p 1) with
          | none => rfl
          | some c =>
            dsimp only
            rw [State.slotBusy_slot, State.overlaps_all]
            simp only [decide_eq_true_eq, State.belowFloor_iff, within, true_and, c.resolve_eq]
            generalize (if byteAt p 2 = 255 then c.level else byteAt p 2) = asked
            split_ifs <;> rfl

/-- The status of RAISE ALERT is that of the case of R21 that holds. -/
theorem raiseAlert_status (p : List Byte) : (raiseAlert p s).status = s.raiseAlertStatus p := by
  unfold raiseAlert State.raiseAlertStatus
  cases exclusive : boolCode? (byteAt p 1) with
  | none => rw [if_pos (.inr (boolCode?_eq_none.mp exclusive))]; rfl
  | some e =>
    have known : ¬1 < byteAt p 1 := by rw [← boolCode?_eq_none, exclusive]; simp
    dsimp only
    by_cases id : byteAt p 0 = 0
    · rw [if_pos id, if_pos (.inl id)]; rfl
    · rw [if_neg id, if_neg (by tauto)]
      unfold State.raiseAlert
      dsimp only
      cases findScene s.library (byteAt p 0) with
      | none => rfl
      | some c =>
        dsimp only
        rw [State.overlaps_all]
        split_ifs <;> rfl

/-- A level lies below the floor that the other layers hold (R15). -/
theorem State.lt_floorWithout {i : Slot} {level : Nat} :
    level < s.floorWithout i ↔
      ∃ j : Slot, j.val ≠ i.val ∧ (s.layer j).exclusive = true ∧ (s.layer j).state.playing = true ∧
        level < (s.layer j).level := by
  unfold State.floorWithout
  rw [← not_iff_not, Nat.not_lt, highestLevel_le_iff]
  push Not
  simp only [Bool.and_eq_true, decide_eq_true_eq, and_imp, ne_eq, Fin.ext_iff]
  exact forall_congr' fun j => ⟨fun h other exclusive => h exclusive other, fun h exclusive other => h other exclusive⟩

/-- The status of SET LEVEL is that of the first failing check (R15). -/
theorem setLevel_status (p : List Byte) : (setLevel p s).status = s.setLevelStatus p := by
  unfold setLevel State.setLevelStatus
  dsimp only
  cases slot : slotOf (byteAt p 0) with
  | none => rw [if_pos (by have := slotOf_eq_none.mp slot; omega)]; rfl
  | some i =>
    have hi := slotOf_eq_some.mp slot
    dsimp only
    rw [← hi]
    by_cases egress : i = egressSlot
    · rw [if_pos egress, if_pos (by rw [egress]; decide)]; rfl
    · have below : i.val < 11 := by have := eq_egressSlot_iff.not.mp egress; omega
      rw [if_neg egress, if_neg (Nat.not_le.mpr below)]
      by_cases level : levelFits i (byteAt p 1) = false
      · rw [if_pos level, if_pos ((levelFits_eq_false below _).mp level)]; rfl
      · rw [if_neg level, if_neg ((levelFits_eq_false below _).not.mp level), State.slotBusy_slot]
        simp only [decide_eq_true_eq, State.belowFloor_iff, State.lt_floorWithout]
        by_cases idle : (s.layer i).state = .idle
        · rw [if_pos idle, if_neg (by tauto)]; rfl
        · rw [if_neg idle]
          simp only [ne_eq, idle, not_false_eq_true, true_and]
          split_ifs <;> rfl

end

end Sys2Proof.Machine

namespace Sys2Proof.Machine

/-! ### Answers of the starts -/

section
variable {s : State} {f : LinkFrame} {mine : Bool} {owner : State → Answer}

/-- A refused request has its status and no effect. -/
theorem State.serve_refused {k : Status} (ready : s.ready f = true) (own : mine = true)
    (length : lengthAllowed f.kind f.payload.length = true) (state : (owner s.takeFrame).state = s.takeFrame)
    (status : (owner s.takeFrame).status = k) (data : (owner s.takeFrame).data = []) :
    s.serve f mine owner = s.answered f k [] id := by
  rw [State.serve_ready ready own length, state, status, data]
  rfl

theorem State.ringTaken_eq_false {base length : Nat} {mode : RingMode}
    (free : ∀ j : Slot, (s.layer j).conflicts base length mode = false) :
    s.overlaps (fun _ => true) base length mode = false := by
  rw [State.overlaps_all]
  simp [State.ringTaken, free]

theorem State.belowFloor_eq_false {i : Slot} {level bound : Nat}
    (h : s.arb.policy = .cancel → isScene i = true → level ≠ 0 → bound ≤ level) : s.belowFloor i level bound = false := by
  rw [← Bool.not_eq_true, State.belowFloor_iff, ← isScene_iff]
  rintro ⟨policy, scene, nonzero, low⟩
  exact Nat.not_lt.mpr (h policy scene nonzero) low

theorem levelFits_of {i : Slot} {level : Nat} (h : if isScene i = true then level ≤ 7 else 8 ≤ level ∧ level ≤ 14) :
    levelFits i level = true := by
  unfold levelFits
  split at h <;> simp_all

theorem startFields_of {p : List Byte} {exclusive : Bool} {mode : RingMode} (hmode : ringMode? (byteAt p 7) = some mode)
    (nonempty : 1 ≤ wordAt p 5) (short : wordAt p 5 ≤ 256) (within : wordAt p 3 + wordAt p 5 ≤ 2048)
    (offset : byteAt p 8 < wordAt p 5) :
    startFields p exclusive =
      some { level := byteAt p 1, exclusive := exclusive, sceneId := 0, base := wordAt p 3, length := wordAt p 5,
             mode := mode, offset := byteAt p 8, fallback := false } := by
  unfold startFields
  rw [hmode, Option.bind_some, if_neg (by simp only [Config.maxRing, Config.poolSize]; omega)]

/-- A START LAYER that passes every check starts the ring it names (R10, R11). -/
theorem startLayer_ok {p : List Byte} {i : Slot} {exclusive : Bool} {r : RingStart} (slot : slotOf (byteAt p 0) = some i)
    (notEgress : i ≠ egressSlot) (level : levelFits i (byteAt p 1) = true) (he : boolCode? (byteAt p 2) = some exclusive)
    (fields : startFields p exclusive = some r) (idle : (s.layer i).state = .idle)
    (free : s.overlaps (fun _ => true) r.base r.length r.mode = false)
    (floor : s.belowFloor i r.level s.arb.floor = false) : startLayer p s = .plain (s.startRing i r) .ok := by
  unfold startLayer
  simp only [he, slot]
  rw [if_neg notEgress, if_neg (by rw [level]; exact Bool.noConfusion)]
  simp only [fields]
  rw [if_neg (by simpa using idle), if_neg (by rw [free]; exact Bool.noConfusion),
    if_neg (by rw [floor]; exact Bool.noConfusion)]

/-- A START SCENE that passes every check starts the scene (R12). -/
theorem startScene_ok {p : List Byte} {i : Slot} {c : Scene} (slot : slotOf (byteAt p 0) = some i)
    (scene : isScene i = true) (id : byteAt p 1 ≠ 0) (level : byteAt p 2 ≤ 7 ∨ byteAt p 2 = 0xFF)
    (found : findScene s.library (byteAt p 1) = some c) (idle : (s.layer i).state = .idle)
    (free : s.overlaps (fun _ => true) c.base c.length .resident = false)
    (floor : s.belowFloor i (c.resolve (byteAt p 2)) s.arb.floor = false) :
    startScene p s = .plain (s.startRing i (c.ring (c.resolve (byteAt p 2)) c.exclusive)) .ok := by
  unfold startScene
  simp only [slot]
  rw [if_neg (by simp [scene]), if_neg id, if_neg (by simp only [levelDefault]; omega)]
  simp only [found]
  rw [if_neg (by simpa using idle), if_neg (by rw [free]; exact Bool.noConfusion),
    if_neg (by rw [floor]; exact Bool.noConfusion)]

/-- RAISE ALERT of a known scene enters R21. -/
theorem raiseAlert_of {p : List Byte} {exclusive : Bool} (id : byteAt p 0 ≠ 0)
    (he : boolCode? (byteAt p 1) = some exclusive) : raiseAlert p s = s.raiseAlert (byteAt p 0) exclusive := by
  unfold raiseAlert
  simp only [he, if_neg id]

/-- RAISE ALERT over an IDLE slot 10 (R21). -/
theorem State.raiseAlert_idle {id : Nat} {exclusive : Bool} {c : Scene} (found : findScene s.library id = some c)
    (idle : (s.layer alertSlot).state = .idle) (free : s.overlaps (fun _ => true) c.base c.length .resident = false) :
    s.raiseAlert id exclusive =
      .plain ((s.setLayer alertSlot { s.layer alertSlot with latch := true }).startRing alertSlot
        (c.ring (s.layer alertSlot).level exclusive)) .ok := by
  unfold State.raiseAlert
  simp only [found]
  rw [if_neg (by simpa using idle), if_neg (by rw [free]; exact Bool.noConfusion)]

/-- RAISE ALERT of the scene in play (R21). -/
theorem State.raiseAlert_again {id : Nat} {exclusive : Bool} {c : Scene} (found : findScene s.library id = some c)
    (busy : (s.layer alertSlot).state ≠ .idle) (same : (s.layer alertSlot).sceneId = id) :
    s.raiseAlert id exclusive =
      .plain (s.setLayer alertSlot { s.layer alertSlot with latch := true, finishing := false }) .already := by
  unfold State.raiseAlert
  simp only [found]
  rw [if_pos busy, if_pos same]

/-- The start of a ring in a slot whose record differs from the slot's in marks alone. -/
theorem State.startRing_setLayer (i : Slot) (l : Layer) (r : RingStart) :
    (s.setLayer i l).startRing i r = (s.setLayer i (l.started r (s.startState i r.level))).evalFloor := by
  unfold State.startRing
  rw [State.setLayer_layer_same, State.setLayer_setLayer]
  rfl

end

/-- Settles O46: each start writes the record of R11 and evaluates the floor over it; the statuses follow the checks. -/
theorem startsBeginLayers : Obligations.StartsBeginLayers := by
  refine ⟨fun tag p s i exclusive mode canon floor ready length slot notEgress level he hmode nonempty short within offset
      idle free notBelow => ?_,
    fun tag p s i c canon floor ready length slot scene id level found idle free notBelow => ?_,
    fun tag p s exclusive c canon floor ready length id he found idle free => ?_,
    fun tag p s exclusive c ready length id he found busy same => ?_,
    fun tag p s ready length refused => ?_, fun tag p s ready length refused => ?_,
    fun tag p s ready length refused notAgain => ?_⟩
  · have answer := startLayer_ok (s := s.takeFrame) slot notEgress (levelFits_of level) he
      (startFields_of hmode nonempty short within offset) idle (State.ringTaken_eq_false (s := s.takeFrame) free)
      (State.belowFloor_eq_false (s := s.takeFrame) notBelow)
    exact ⟨_, State.Settles.answered ready rfl (by rw [length]; rfl) answer
      (State.settles_startRing (s := s.takeFrame) canon floor.statesFit.upper i _) rfl⟩
  · have answer := startScene_ok (s := s.takeFrame) slot scene id level found idle
      (State.ringTaken_eq_false (s := s.takeFrame) free)
      (State.belowFloor_eq_false (s := s.takeFrame) fun cancel _ nonzero => notBelow cancel nonzero)
    exact ⟨_, State.Settles.answered ready rfl (by rw [length]; rfl) answer
      (State.settles_startRing (s := s.takeFrame) canon floor.statesFit.upper i _) rfl⟩
  · have answer := (raiseAlert_of id he).trans (State.raiseAlert_idle (s := s.takeFrame) (exclusive := exclusive) found idle
      (State.ringTaken_eq_false (s := s.takeFrame) free))
    rw [State.startRing_setLayer] at answer
    exact ⟨_, State.Settles.answered ready rfl (by rw [length]; rfl) answer
      (State.settles_started (s := s.takeFrame) canon floor.statesFit.upper alertSlot _ _) rfl⟩
  · have answer := (raiseAlert_of id he).trans (State.raiseAlert_again (s := s.takeFrame) (exclusive := exclusive) found busy same)
    exact congrArg Host.Outcome.next (State.serve_answered ready rfl (by rw [length]; rfl) answer)
  · have status : (startLayer p s.takeFrame).status = s.startLayerStatus p := startLayer_status p
    rcases startLayer_cases p s.takeFrame with ⟨-, -, state, data⟩ | ⟨_, _, _, -, -, -, -, -, -, -, -, e⟩
    · exact congrArg Host.Outcome.next (State.serve_refused ready rfl (by rw [length]; rfl) state status data)
    · rw [e] at status; exact absurd status.symm refused
  · have status : (startScene p s.takeFrame).status = s.startSceneStatus p := startScene_status p
    rcases startScene_cases p s.takeFrame with ⟨-, -, state, data⟩ | ⟨_, _, -, -, -, -, -, -, -, e⟩
    · exact congrArg Host.Outcome.next (State.serve_refused ready rfl (by rw [length]; rfl) state status data)
    · rw [e] at status; exact absurd status.symm refused
  · have status : (raiseAlert p s.takeFrame).status = s.raiseAlertStatus p := raiseAlert_status p
    rw [← status] at refused notAgain
    obtain ⟨data, -, state, -⟩ := raiseAlert_unless_ok p s.takeFrame refused
    exact congrArg Host.Outcome.next (State.serve_refused ready rfl (by rw [length]; rfl) (state notAgain) status data)

end Sys2Proof.Machine

namespace Sys2Proof.Machine

/-! ### Ends of one layer (R4, R5, R13) -/

section
variable {s t : State} {i : Slot}

/-- A filter that lets one slot through gives at most one entry. -/
theorem filterMap_slot {α : Type} (f : Slot → Option α) (i : Slot) (slots : List Slot) (once : slots.Nodup) :
    (slots.filterMap fun j => if j = i then f j else none) =
      if i ∈ slots then (f i).toList else [] := by
  induction slots with
  | nil => rfl
  | cons j slots ih =>
    obtain ⟨fresh, once⟩ := List.nodup_cons.mp once
    by_cases e : j = i
    · subst e
      have rest := ih once
      rw [if_neg fresh] at rest
      cases h : f j <;> simp only [List.filterMap_cons, if_true, h, rest] <;> simp
    · have other : i ≠ j := Ne.symm e
      rw [List.filterMap_cons, if_neg e]
      simp only [ih once, List.mem_cons, other, false_or]

/-- The notices of one layer's end. -/
theorem State.endLayers_slot_notices (r : EndReason) :
    (s.endLayers (fun j _ => decide (j = i)) r).2 = ((s.layer i).cutNotice i).toList := by
  have only := filterMap_slot (fun j => (s.layer j).cutNotice j) i (List.finRange 12) (List.nodup_finRange 12)
  rw [if_pos (List.mem_finRange i)] at only
  simp only [State.endLayers, decide_eq_true_eq]
  exact only

/-- Slot `i` ended at once: its layer is IDLE, its cue given back, its notice queued (R4, R5). -/
def State.ended (s : State) (i : Slot) (r : EndReason) : State :=
  (s.endLayers (fun j _ => decide (j = i)) r).1.queueAll (s.endLayers (fun j _ => decide (j = i)) r).2

theorem State.stopSlot_ended (r : EndReason) : s.stopSlot i r = (s.ended i r).evalFloor := rfl

theorem State.ended_layer (r : EndReason) (j : Slot) :
    (s.ended i r).layer j = s.layersWith i ((s.layer i).toIdle i r) j := by
  show (s.endLayers (fun j _ => decide (j = i)) r).1.layer j = _
  rw [State.endLayers_layer]
  unfold State.layersWith
  by_cases e : j = i
  · rw [if_pos (by simpa using e), if_pos e, e]
  · rw [if_neg (by simpa using e), if_neg e]

theorem State.ended_link (r : EndReason) : (s.ended i r).link = s.link.queueAll ((s.layer i).cutNotice i).toList := by
  rw [← State.endLayers_slot_notices (i := i) r]
  rfl

theorem State.ended_pool (r : EndReason) :
    (s.ended i r).pool = (s.endLayers (fun j _ => decide (j = i)) r).1.pool := rfl

theorem State.ended_wf (r : EndReason) (canon : s.pool.wf = true) : (s.ended i r).pool.wf = true := by
  rw [State.ended_pool]
  exact State.endLayers_pool_wf s _ r canon

theorem State.ended_fits (r : EndReason) (h : StatesFit s) : StatesFit (s.ended i r) :=
  (h.endLayers _ r).congr (State.queueAll_arb _ _) (by simp [State.ended])

theorem State.ended_same (r : EndReason) : s.sameButLayers (s.ended i r) := by
  unfold State.ended
  rw [sameButLayers_queueAll, sameButLayers_endLayers]
  exact s.sameButLayers_refl

theorem State.ended_ownsNoMore (r : EndReason) : (s.ended i r).ownsNoMore s :=
  State.endLayers_ownsNoMore (s := s) (fun j _ => decide (j = i)) r

theorem State.ended_yields (r : EndReason) (canon : s.pool.wf = true) (busy : (s.layer i).state ≠ .idle) :
    s.yieldsTo (s.ended i r) fun j => j = i :=
  (State.endLayers_yields (s := s) (p := fun j _ => decide (j = i)) r canon fun j e => by
    rw [of_decide_eq_true e]; exact busy).mono fun j e => of_decide_eq_true e

theorem State.ended_send (r : EndReason) : (s.ended i r).link.sameSend s.link := by
  rw [State.ended_link, Link.sameSend_queueAll]
  exact Link.sameSend_refl

theorem State.ended_read (r : EndReason) (canon : s.pool.wf = true) (owns : (s.layer i).ownsCue = true) :
    (s.ended i r).pool.read (s.layer i).cueIndex =
      { s.pool.read (s.layer i).cueIndex with ready := false, status := .cut } :=
  (State.endLayers_read (s := s) (p := fun j _ => decide (j = i)) r canon _).1 ⟨i, decide_eq_true rfl, owns, rfl⟩

/-- A record given back stays so through a floor evaluation. -/
theorem State.evalFloor_read_given {k : Nat} {c : Cue} (canon : s.pool.wf = true)
    (given : s.pool.read k = { c with ready := false, status := .cut }) :
    s.evalFloor.pool.read k = { c with ready := false, status := .cut } := by
  rcases State.evalFloor_yields canon k with e | ⟨e, -⟩ <;> rw [e, given]

/-- One layer's end over `s`, with the floor evaluation. -/
theorem State.settles_stopSlot (canon : PoolCanonical s) (fits : StatesFit s) (busy : (s.layer i).state ≠ .idle)
    (r : EndReason) : s.Settles (s.stopSlot i r) (s.layersWith i ((s.layer i).toIdle i r)) := by
  have layers : (s.ended i r).layer = s.layersWith i ((s.layer i).toIdle i r) := funext (State.ended_layer r)
  rw [State.stopSlot_ended, ← layers]
  refine State.settles_evalFloor (State.ended_wf r canon) (State.ended_fits r fits).upper (State.ended_same r) ?_
    (State.ended_ownsNoMore r) (State.ended_send r)
  refine (State.ended_yields r canon busy).mono fun j e => ?_
  rw [State.ended_layer, e, State.layersWith, if_pos rfl]
  rfl

/-- What settles from a state whose record of slot `i` differs in marks settles from the state itself. -/
theorem State.Settles.of_setLayer {l : Layer} {before : Slot → Layer} (h : (s.setLayer i l).Settles t before)
    (owns : l.ownsCue = (s.layer i).ownsCue) (index : l.cueIndex = (s.layer i).cueIndex)
    (state : l.state = (s.layer i).state) : s.Settles t before := by
  refine ⟨h.same, h.settled, fun k => (h.yields k).imp_right ?_, h.send⟩
  rintro ⟨given, j, owner, cue, busy, idle⟩
  refine ⟨given, j, ?_⟩
  rw [State.setLayer_layer] at owner cue busy
  by_cases e : j = i
  · rw [if_pos e] at owner cue busy
    rw [e] at idle ⊢
    exact ⟨owns ▸ owner, index ▸ cue, state ▸ busy, idle⟩
  · rw [if_neg e] at owner cue busy
    exact ⟨owner, cue, busy, idle⟩

/-- A floor evaluation that finds no scene layer in play below the floor queues nothing. -/
theorem State.evalFloor_quiet (h : ∀ j, s.belowFloorOf j (s.layer j) = false) : s.evalFloor.link = s.link := by
  cases policy : s.arb.policy with
  | resume => simp only [State.evalFloor, policy]
  | cancel => rw [State.evalFloor_cancel policy, State.endLayers_notices_of _ h]; rfl

/-- One layer's end lowers the floor at most: nothing is cut, and the one notice is the layer's own. -/
theorem FloorHolds.stopSlot_link (h : FloorHolds s) (r : EndReason) :
    (s.stopSlot i r).link = s.link.queueAll ((s.layer i).cutNotice i).toList := by
  obtain ⟨floor, above, -⟩ := h
  rw [State.stopSlot_ended, ← State.ended_link r]
  have stays : ∀ j, ((s.ended i r).layer j).state.playing = true → (s.ended i r).layer j = s.layer j := fun j playing => by
    rw [State.ended_layer, State.layersWith] at playing ⊢
    split at playing
    · cases playing
    · rename_i e; exact if_neg e
  have lower : highestLevel (s.ended i r).arb.layers (fun _ l => l.state.playing) ≤ s.arb.floor := by
    rw [highestLevel_le_iff]
    intro j exclusive playing
    have same := stays j playing
    rw [same] at exclusive playing ⊢
    rw [floor]
    exact le_highestLevel exclusive playing
  refine State.evalFloor_quiet fun j => Bool.eq_false_iff.mpr fun below => ?_
  simp only [State.belowFloorOf, Bool.and_eq_true, decide_eq_true_eq] at below
  obtain ⟨⟨scene, playing⟩, low⟩ := below
  have same := stays j playing
  rw [same] at playing low
  exact absurd low (Nat.not_lt.mpr (lower.trans (above j scene playing)))

end

/-! ### Answers of STOP LAYER and CLEAR ALERT -/

section
variable {s : State} {p : List Byte} {i : Slot} {atEnd : Bool}

theorem stopLayer_of (slot : slotOf (byteAt p 0) = some i) (scene : isScene i = true)
    (mode : endMode? (byteAt p 1) = some atEnd) :
    stopLayer p s = if atEnd then s.stopAtEnd i else s.stopNow i := by
  unfold stopLayer
  simp only [slot, mode]
  rw [if_neg (by simp [scene])]

theorem stopLayer_invalid (out : 9 < byteAt p 0 ∨ 1 < byteAt p 1) : stopLayer p s = .plain s .invalid := by
  unfold stopLayer
  split
  · rename_i i atEnd slot mode
    have known : ¬1 < byteAt p 1 := by rw [← boolCode?_eq_none]; rw [endMode?] at mode; simp [mode]
    rw [if_pos]
    rw [Bool.eq_false_iff, Ne, isScene_iff, slotOf_eq_some.mp slot]
    omega
  · rfl

theorem clearAlert_of (slot : slotOf (byteAt p 0) = some i) (scene : isScene i = false)
    (mode : endMode? (byteAt p 1) = some atEnd) : clearAlert p s = s.clearAlert i atEnd := by
  unfold clearAlert
  simp only [slot, mode]
  rw [if_neg (by simp [scene])]

theorem clearAlert_invalid (out : (byteAt p 0 ≠ 10 ∧ byteAt p 0 ≠ 11) ∨ 1 < byteAt p 1) :
    clearAlert p s = .plain s .invalid := by
  unfold clearAlert
  split
  · rename_i i atEnd slot mode
    have known : ¬1 < byteAt p 1 := by rw [← boolCode?_eq_none]; rw [endMode?] at mode; simp [mode]
    rw [if_pos]
    rw [isScene_iff]
    have := slotOf_eq_some.mp slot
    omega
  · rfl

theorem State.stopNow_busy (busy : (s.layer i).state ≠ .idle) : s.stopNow i = .plain (s.stopSlot i .stopped) .ok :=
  if_neg busy

theorem State.stopNow_idle (idle : (s.layer i).state = .idle) : s.stopNow i = .plain s .already := if_pos idle

theorem State.stopAtEnd_busy (busy : (s.layer i).state ≠ .idle) (on : (s.layer i).finishing = false) :
    s.stopAtEnd i = .plain (s.finish i) .ok := if_neg (by simp [busy, on])

theorem State.stopAtEnd_already (h : (s.layer i).state = .idle ∨ (s.layer i).finishing = true) :
    s.stopAtEnd i = .plain s .already := if_pos h

theorem State.clearAlert_line (egress : i = egressSlot) (line : s.arb.egressLevel = true) :
    s.clearAlert i atEnd = .plain s .lineActive := if_pos ⟨egress, line⟩

/-- The answers of CLEAR ALERT where no asserted line holds slot 11 (R22). -/
theorem State.clearAlert_free (free : ¬(i = egressSlot ∧ s.arb.egressLevel = true)) :
    ((s.layer i).state = .idle → (s.layer i).latch = false → s.clearAlert i atEnd = .plain s .already) ∧
    ((s.layer i).state = .idle → (s.layer i).latch = true →
      s.clearAlert i atEnd = .plain (s.setLayer i { s.layer i with latch := false }) .ok) ∧
    ((s.layer i).state ≠ .idle →
      s.clearAlert i true = .plain (s.setLayer i { s.layer i with latch := false, finishing := true }) .ok) ∧
    ((s.layer i).state ≠ .idle →
      s.clearAlert i false = .plain ((s.setLayer i { s.layer i with latch := false }).stopSlot i .stopped) .ok) := by
  unfold State.clearAlert
  dsimp only
  simp only [if_neg free]
  refine ⟨fun idle clear => if_pos ⟨clear, idle⟩, fun idle set => ?_, fun busy => ?_, fun busy => ?_⟩
  · rw [if_neg (by simp [set]), if_pos idle]
  · rw [if_neg (by simp [busy]), if_neg busy, if_pos trivial]
    simp [State.finish]
  · rw [if_neg (by simp [busy]), if_neg busy, if_neg (by simp)]

theorem State.layersWith_setLayer (l k : Layer) : (s.setLayer i l).layersWith i k = s.layersWith i k := by
  funext j
  unfold State.layersWith
  split
  · rfl
  · rename_i other
    rw [State.setLayer_layer, if_neg other]

/-- The end of slot `i` behind a latch write `b`: its record, its cue, its notice, and the floor over it. -/
theorem State.settles_stopped (canon : PoolCanonical s) (floor : FloorHolds s) (busy : (s.layer i).state ≠ .idle) (b : Bool) :
    s.Settles ((s.setLayer i { s.layer i with latch := b }).stopSlot i .stopped)
        (s.layersWith i { (s.layer i).toIdle i .stopped with latch := if i.val = 10 then false else b }) ∧
      ((s.layer i).ownsCue = true →
        ((s.setLayer i { s.layer i with latch := b }).stopSlot i .stopped).pool.read (s.layer i).cueIndex =
          { s.pool.read (s.layer i).cueIndex with ready := false, status := .cut }) ∧
      ((s.setLayer i { s.layer i with latch := b }).stopSlot i .stopped).link.notices =
        if (s.layer i).cueBegun && (s.layer i).captured.notify then
          (s.link.queue (.cue i (s.layer i).cueIndex .cut)).notices
        else s.link.notices := by
  have marked : FloorHolds (s.setLayer i { s.layer i with latch := b }) := floor.setLayer_marks rfl rfl rfl
  have own : (s.setLayer i { s.layer i with latch := b }).layer i = { s.layer i with latch := b } :=
    State.setLayer_layer_same _ _ _
  have same : (s.setLayer i { s.layer i with latch := b }).layersWith i = s.layersWith i :=
    funext (State.layersWith_setLayer _)
  have canon' : PoolCanonical (s.setLayer i { s.layer i with latch := b }) := canon
  have pool : (s.setLayer i { s.layer i with latch := b }).pool = s.pool := rfl
  have link : (s.setLayer i { s.layer i with latch := b }).link = s.link := rfl
  generalize hu : s.setLayer i { s.layer i with latch := b } = u at *
  refine ⟨?_, fun owns => ?_, ?_⟩
  · have settles := State.settles_stopSlot (i := i) canon' marked.statesFit (by rw [own]; exact busy) .stopped
    rw [same, own] at settles
    exact State.Settles.of_setLayer (l := { s.layer i with latch := b }) (hu ▸ settles) rfl rfl rfl
  · have given := State.ended_read (s := u) (i := i) .stopped canon' (by rw [own]; exact owns)
    rw [own, pool] at given
    exact State.evalFloor_read_given (State.ended_wf .stopped canon') given
  · have notice : ({ s.layer i with latch := b } : Layer).cutNotice i = (s.layer i).cutNotice i := rfl
    rw [marked.stopSlot_link, own, link, notice, Layer.cutNotice]
    split_ifs <;> rfl

/-- Writing a slot's own latch changes nothing. -/
theorem State.setLayer_latch (s : State) (i : Slot) :
    s.setLayer i { s.layer i with latch := (s.layer i).latch } = s := s.setLayer_self i

theorem variant_two {field : List Byte → Bool} (h : field p = true) : variant p 2 field = true := by
  simp [variant, h]

end

section
variable {s : State} {f : LinkFrame} {mine : Bool} {owner : State → Answer} {i : Slot} {r : Result}

/-- The answer OK of a request that ends slot `i` behind a latch write `b`. -/
theorem State.stopped_answered (canon : PoolCanonical s) (floor : FloorHolds s) (busy : (s.layer i).state ≠ .idle)
    (ready : s.ready f = true) (own : mine = true) (length : lengthAllowed f.kind f.payload.length = true) (b : Bool)
    (answer : owner s.takeFrame =
      .plain ((s.takeFrame.setLayer i { s.takeFrame.layer i with latch := b }).stopSlot i .stopped) .ok)
    (run : r = .next (s.serve f mine owner)) :
    ∃ t, r = .next t ∧ s.replied t f .ok [] ∧ s.sameButLayers t ∧
      t.settledFrom s.arb.policy (s.layersWith i
        { (s.layer i).toIdle i .stopped with latch := if i.val = 10 then false else b }) ∧
      s.poolYields t ∧
      ((s.layer i).ownsCue = true → t.pool.read (s.layer i).cueIndex =
        { s.pool.read (s.layer i).cueIndex with ready := false, status := .cut }) ∧
      t.link.notices =
        (if (s.layer i).cueBegun && (s.layer i).captured.notify then
          (s.link.queue (.cue i (s.layer i).cueIndex .cut)).notices
         else s.link.notices) := by
  have stopped := State.settles_stopped (s := s.takeFrame) canon floor busy b
  generalize (s.takeFrame.setLayer i { s.takeFrame.layer i with latch := b }).stopSlot i .stopped = u at stopped answer
  obtain ⟨settles, given, notices⟩ := stopped
  have taken : (s.takeFrame.link.queue (.cue i (s.layer i).cueIndex .cut)).notices =
      (s.link.queue (.cue i (s.layer i).cueIndex .cut)).notices := by
    rw [Link.queue_notices, Link.queue_notices]; rfl
  obtain ⟨next, replied, same, settled, yields⟩ := State.Settles.answered ready own length answer settles run
  refine ⟨_, next, replied, same, settled, yields, given, ?_⟩
  rw [State.settle_reply_notices, ← taken]
  exact notices

end

/-- CLEAR ALERT under the command of its mode, answered with `effect` on the state (R22). -/
theorem exec_clearAlert {s : State} {c : Instr} {tag : Byte} {p : List Byte} {status : Status} {effect : State → State}
    (run : (c = .clearAlertImmediate tag p ∧ byteAt p 1 ≠ 1) ∨ (c = .clearAlertAtEnd tag p ∧ byteAt p 1 ≠ 0))
    (ready : s.ready ⟨0x19, tag, p⟩ = true) (length : p.length = 2)
    (answer : clearAlert p s.takeFrame = .plain (effect s.takeFrame) status) :
    exec c s = .next (s.answered ⟨0x19, tag, p⟩ status [] effect) := by
  rcases run with ⟨rfl, mode⟩ | ⟨rfl, mode⟩ <;>
    exact congrArg Host.Outcome.next
      (State.serve_answered ready (variant_two (decide_eq_true mode)) (by rw [length]; rfl) answer)

/-- Settles O47: an immediate end by `State.settles_stopped`, every other case by its owner's equation. -/
theorem stopsEndLayers : Obligations.StopsEndLayers := by
  refine ⟨?_, fun tag p s i ready length slot scene => ⟨fun mode idle => ?_, fun mode busy on => ?_, fun mode h => ?_⟩,
    fun c tag p s ready length run out => ?_, fun c tag p s ready length run out => ?_,
    fun tag p s i c ready length slot scene run => ?_⟩
  · rintro tag p s i c kind (⟨rfl, rfl, scene⟩ | ⟨rfl, rfl, scene, free⟩) canon floor ready length slot mode busy
    · have answer : stopLayer p s.takeFrame = _ :=
        ((stopLayer_of slot scene (atEnd := false) (by rw [mode]; rfl)).trans (State.stopNow_busy (s := s.takeFrame) busy)).trans
          (congrArg (fun u : State => Answer.plain (u.stopSlot i .stopped) .ok) (s.takeFrame.setLayer_latch i).symm)
      have own := variant_two (p := p) (field := fun p => byteAt p 1 ≠ 1) (by rw [mode]; rfl)
      have within := isScene_iff.mp scene
      have stopped := State.stopped_answered canon floor busy ready own (by rw [length]; rfl)
        (s.takeFrame.layer i).latch answer rfl
      rw [if_neg (by omega)] at stopped
      rw [if_pos scene]
      exact stopped
    · obtain ⟨-, -, -, ends⟩ := State.clearAlert_free (s := s.takeFrame) (atEnd := false) free
      have answer : clearAlert p s.takeFrame = _ :=
        (clearAlert_of slot scene (atEnd := false) (by rw [mode]; rfl)).trans (ends busy)
      have own := variant_two (p := p) (field := fun p => byteAt p 1 ≠ 1) (by rw [mode]; rfl)
      have stopped := State.stopped_answered canon floor busy ready own (by rw [length]; rfl) false answer rfl
      rw [ite_self] at stopped
      rw [if_neg (by simp [scene])]
      exact stopped
  · have answer := (stopLayer_of (s := s.takeFrame) slot scene (atEnd := false) (by rw [mode]; rfl)).trans
      (State.stopNow_idle (s := s.takeFrame) idle)
    have own := variant_two (p := p) (field := fun p => byteAt p 1 ≠ 1) (by rw [mode]; rfl)
    exact congrArg Host.Outcome.next (State.serve_answered ready own (by rw [length]; rfl) answer)
  · have answer := (stopLayer_of (s := s.takeFrame) slot scene (atEnd := true) (by rw [mode]; rfl)).trans
      (State.stopAtEnd_busy (s := s.takeFrame) busy on)
    have own := variant_two (p := p) (field := fun p => byteAt p 1 ≠ 0) (by rw [mode]; rfl)
    exact congrArg Host.Outcome.next (State.serve_answered ready own (by rw [length]; rfl) answer)
  · have answer := (stopLayer_of (s := s.takeFrame) slot scene (atEnd := true) (by rw [mode]; rfl)).trans
      (State.stopAtEnd_already (s := s.takeFrame) h)
    have own := variant_two (p := p) (field := fun p => byteAt p 1 ≠ 0) (by rw [mode]; rfl)
    exact congrArg Host.Outcome.next (State.serve_answered ready own (by rw [length]; rfl) answer)
  · have answer := stopLayer_invalid (s := s.takeFrame) out
    rcases run with ⟨rfl, mode⟩ | ⟨rfl, mode⟩ <;>
      exact congrArg Host.Outcome.next
        (State.serve_answered ready (variant_two (decide_eq_true mode)) (by rw [length]; rfl) answer)
  · exact exec_clearAlert (effect := id) run ready length (clearAlert_invalid out)
  · obtain ⟨atEnd, mode⟩ : ∃ atEnd, endMode? (byteAt p 1) = some atEnd := by
      rcases run with ⟨-, mode⟩ | ⟨-, mode⟩ <;> rw [mode]
      · exact ⟨true, rfl⟩
      · exact ⟨false, rfl⟩
    have run : (c = .clearAlertImmediate tag p ∧ byteAt p 1 ≠ 1) ∨ (c = .clearAlertAtEnd tag p ∧ byteAt p 1 ≠ 0) := by
      rcases run with ⟨e, mode⟩ | ⟨e, mode⟩
      · exact .inr ⟨e, by omega⟩
      · exact .inl ⟨e, by omega⟩
    have enters := clearAlert_of (s := s.takeFrame) slot scene mode
    refine ⟨fun egress line => ?_, fun free => ?_⟩
    · exact exec_clearAlert (effect := id) run ready length (enters.trans (State.clearAlert_line egress line))
    · obtain ⟨already, unlatched, finishing, -⟩ := State.clearAlert_free (s := s.takeFrame) (atEnd := atEnd) free
      refine ⟨fun idle clear => ?_, fun idle set => ?_, fun busy last => ?_⟩
      · exact exec_clearAlert (effect := id) run ready length (enters.trans (already idle clear))
      · exact exec_clearAlert run ready length (enters.trans (unlatched idle set))
      · obtain rfl : atEnd = true := by rw [last] at mode; exact (Option.some.inj mode).symm
        exact exec_clearAlert run ready length (enters.trans (finishing busy))

end Sys2Proof.Machine

namespace Sys2Proof.Machine

/-! ### Levels, factors and the policy (R9, R15, R18, R19) -/

section
variable {s t : State} {p : List Byte} {i : Slot}

/-- SET LEVEL that passes its checks on the slot and its level (R15). -/
theorem setLevel_of (slot : slotOf (byteAt p 0) = some i) (notEgress : i ≠ egressSlot)
    (level : levelFits i (byteAt p 1) = true) :
    setLevel p s =
      if (s.layer i).state = .idle then .plain (s.setLayer i ((s.layer i).withLevel i (byteAt p 1))) .ok
      else if s.belowFloor i (byteAt p 1) (s.floorWithout i) then .plain s .belowFloor
      else .plain (s.setLayer i ((s.layer i).withLevel i (byteAt p 1))).evalFloor .ok := by
  unfold setLevel
  simp only [slot]
  rw [if_neg notEgress, if_neg (by rw [level]; exact Bool.noConfusion)]

/-- A level given to an IDLE slot is stored alone. -/
theorem Layer.withLevel_idle {l : Layer} (idle : l.state = .idle) (level : Nat) :
    l.withLevel i level = { l with level := level } := by
  simp only [Layer.withLevel, idle, if_true]

/-- A level given to a layer in play parks, unparks, or leaves its state. -/
theorem Layer.withLevel_busy {l : Layer} (busy : l.state ≠ .idle) {level : Nat} (fits : levelFits i level = true) :
    l.withLevel i level =
      { l with
        level := level
        state := if level = 0 then .parked else if l.state = .parked then .running else l.state } := by
  have park : (isScene i && decide (level = 0)) = decide (level = 0) := by
    unfold levelFits at fits
    split at fits
    · simp [*]
    · simp only [Bool.and_eq_true, decide_eq_true_eq] at fits
      simp; omega
  simp only [Layer.withLevel, if_neg busy, park, decide_eq_true_eq]

/-- A record that owns what the slot's own record owns adds no owned cue. -/
theorem State.setLayer_ownsNoMore_of {l : Layer} (owns : l.ownsCue = (s.layer i).ownsCue)
    (index : l.cueIndex = (s.layer i).cueIndex) (busy : (s.layer i).state ≠ .idle) :
    (s.setLayer i l).ownsNoMore s := by
  intro j plays owner
  rw [State.setLayer_layer] at plays owner ⊢
  by_cases e : j = i
  · rw [if_pos e] at owner plays ⊢
    rw [e]
    exact ⟨owns ▸ owner, index.symm, busy⟩
  · rw [if_neg e] at owner plays ⊢
    exact ⟨owner, rfl, plays⟩

/-- A level given to a layer in play, with the floor evaluation. -/
theorem State.settles_withLevel (canon : PoolCanonical s) (fits : StatesFit s) (awake : s.power.part = .awake)
    (busy : (s.layer i).state ≠ .idle) (level : Nat) :
    s.Settles (s.setLayer i ((s.layer i).withLevel i level)).evalFloor (s.layersWith i ((s.layer i).withLevel i level)) := by
  have layers : (s.setLayer i ((s.layer i).withLevel i level)).layer = s.layersWith i ((s.layer i).withLevel i level) :=
    funext fun j => State.setLayer_layer s i j _
  rw [← layers]
  refine State.settles_evalFloor canon (fits.setLayer ?_).upper ?_ (State.yieldsTo_of_pool rfl)
    (State.setLayer_ownsNoMore_of rfl rfl busy) Link.sameSend_refl
  · have own := fits i
    rw [awake] at own ⊢
    exact Layer.withLevel_fits busy own level
  · rw [sameButLayers_setLayer]; exact s.sameButLayers_refl

theorem State.ownsNoMore_of_arb {u : State} (arb : u.arb = t.arb) (h : t.ownsNoMore s) : u.ownsNoMore s := by
  intro j
  rw [State.layer_congr arb]
  exact h j

theorem State.ownsNoMore_refl : s.ownsNoMore s := fun _ busy owns => ⟨owns, rfl, busy⟩

/-- The scene layers that a change to CANCEL cuts (R9). -/
theorem State.settles_cutSuspended (canon : PoolCanonical s) (fits : StatesFit s.cutSuspended) :
    s.Settles s.cutSuspended.evalFloor s.cutSuspended.layer := by
  have yields := State.endLayers_yields (s := s) (p := fun i l => isScene i && decide (l.state = .suspended)) .cut canon
    fun i cut => by
      simp only [Bool.and_eq_true, decide_eq_true_eq] at cut
      simp [cut.2]
  have owns := State.endLayers_ownsNoMore (s := s) (fun i l => isScene i && decide (l.state = .suspended)) .cut
  have wf := State.endLayers_pool_wf s (fun i l => isScene i && decide (l.state = .suspended)) .cut canon
  refine State.settles_evalFloor ?_ fits.upper ?_ ?_ ?_ ?_
  · rw [State.cutSuspended_eq, State.queueOpen_pool]; exact wf
  · rw [State.cutSuspended_eq, sameButLayers_queueOpen, sameButLayers_endLayers]; exact s.sameButLayers_refl
  · refine (yields.congr (u := s.cutSuspended) (by rw [State.cutSuspended_eq, State.queueOpen_pool])).mono fun i cut => ?_
    rw [State.cutSuspended_layer, if_pos (by simpa using cut)]
    rfl
  · rw [State.cutSuspended_eq]; exact State.ownsNoMore_of_arb (State.queueOpen_arb _ _) owns
  · rw [State.cutSuspended_eq]; exact State.queueOpen_sameSend _ Link.sameSend_refl

/-- SET POLICY of a policy it knows (R9). -/
theorem setPolicy_of {k : Policy} (h : policy? (byteAt p 0) = some k) :
    setPolicy p s = .plain (if k = .cancel then (s.withPolicy k).cutSuspended else s.withPolicy k).evalFloor .ok := by
  unfold setPolicy
  rw [h]
  rfl

/-- A change of policy over `s`: what it cuts, and the floor evaluation (R9, R6). -/
theorem State.settles_policy (canon : PoolCanonical s) (floor : FloorHolds s) (k : Policy) :
    (s.withPolicy k).Settles (if k = .cancel then (s.withPolicy k).cutSuspended else s.withPolicy k).evalFloor
      fun j => if k = .cancel ∧ (s.layer j).state = .suspended then (s.layer j).toIdle j .cut else s.layer j := by
  have fits := floor.statesFit_withPolicy k
  have canon' : PoolCanonical (s.withPolicy k) := canon
  by_cases cancel : k = .cancel
  · simp only [cancel, if_true, true_and] at fits canon' ⊢
    have layers : (s.withPolicy .cancel).cutSuspended.layer =
        fun j => if (s.layer j).state = .suspended then (s.layer j).toIdle j .cut else s.layer j := by
      funext j
      rw [State.cutSuspended_layer]
      refine if_congr ⟨fun h => h.2, fun suspended => ⟨?_, suspended⟩⟩ rfl rfl
      by_contra other
      exact floor.statesFit.upper j (by simpa using other) suspended
    rw [← layers]
    exact State.settles_cutSuspended canon' fits
  · simp only [cancel, if_false, false_and] at fits ⊢
    exact State.settles_evalFloor canon' fits.upper (State.sameButLayers_refl _) (State.yieldsTo_of_pool rfl)
      State.ownsNoMore_refl Link.sameSend_refl

/-- What differs from `s` with another policy in nothing but layers differs from `s` in the policy besides. -/
theorem State.sameButLayers_withPolicy {k : Policy} (h : (s.withPolicy k).sameButLayers t) :
    t.arb.policy = k ∧ s.sameButLayers { t with arb := { t.arb with policy := s.arb.policy } } := by
  simp only [State.sameButLayers, State.withPolicy] at h ⊢
  tauto

end

/-- Settles O48: SET LEVEL and SET POLICY by the floor evaluation they end with, the factors by their owners. -/
theorem levelsAndFactorsSet : Obligations.LevelsAndFactorsSet := by
  refine ⟨fun tag p s i ready length slot notEgress level => ⟨fun idle => ?_, fun canon floor busy above => ?_⟩,
    fun tag p s on ready length he => ?_, fun tag p s ready length => ⟨fun h => ?_, fun zero off => ?_⟩,
    fun tag p s ready length refused => ?_, fun tag p s ready length out => ?_, fun tag p s ready length out => ?_,
    fun tag p s k canon floor ready length h => ?_⟩
  · have answer := (setLevel_of (s := s.takeFrame) slot notEgress (levelFits_of level)).trans (if_pos idle)
    rw [Layer.withLevel_idle (by exact idle)] at answer
    exact congrArg Host.Outcome.next (State.serve_answered ready rfl (by rw [length]; rfl) answer)
  · have fits := levelFits_of level
    have awake : s.power.part = .awake := State.ready_awake ready
    have free : s.takeFrame.belowFloor i (byteAt p 1) (s.takeFrame.floorWithout i) = false := by
      refine State.belowFloor_eq_false fun cancel scene nonzero => highestLevel_le_iff.mpr fun j exclusive counts => ?_
      simp only [Bool.and_eq_true, decide_eq_true_eq] at counts
      exact above cancel scene nonzero j counts.1 exclusive counts.2
    have answer := (setLevel_of (s := s.takeFrame) slot notEgress fits).trans (if_neg busy)
    rw [free, if_neg Bool.false_ne_true] at answer
    have settles := State.settles_withLevel (s := s.takeFrame) canon floor.statesFit awake busy (byteAt p 1)
    rw [Layer.withLevel_busy (by exact busy) fits] at answer settles
    exact ⟨_, State.Settles.answered ready rfl (by rw [length]; rfl) answer settles rfl⟩
  · refine congrArg Host.Outcome.next (State.serve_answered ready rfl (by rw [length]; rfl) ?_)
    unfold setMaster
    rw [he]
    rfl
  · refine congrArg Host.Outcome.next (State.serve_answered ready rfl (by rw [length]; rfl) ?_)
    unfold hush
    exact if_neg (by simp only [Config.maxHush, State.takeFrame_arb]; omega)
  · refine congrArg Host.Outcome.next (State.serve_read ready (by rw [length]; rfl) ?_)
    unfold hush
    exact if_pos ⟨by rw [zero]; rfl, off⟩
  · have status : (setLevel p s.takeFrame).status = s.setLevelStatus p := setLevel_status p
    rcases setLevel_cases p s.takeFrame with ⟨-, -, state, data⟩ | ⟨_, -, -, -, ⟨-, e⟩ | ⟨-, -, e⟩⟩
    · exact congrArg Host.Outcome.next (State.serve_refused ready rfl (by rw [length]; rfl) state status data)
    · rw [e] at status; exact absurd status.symm refused
    · rw [e] at status; exact absurd status.symm refused
  · refine congrArg Host.Outcome.next (State.serve_read ready (by rw [length]; rfl) ?_)
    unfold setMaster
    rw [boolCode?_eq_none.mpr out]
    rfl
  · refine congrArg Host.Outcome.next (State.serve_read ready (by rw [length]; rfl) ?_)
    have unknown : policy? (byteAt p 0) = none := by rw [policy?, if_neg (by omega), if_neg (by omega)]
    unfold setPolicy
    rw [unknown]
    rfl
  · have settles := State.settles_policy (s := s.takeFrame) canon floor k
    have answer := setPolicy_of (s := s.takeFrame) h
    generalize
      (if k = .cancel then (s.takeFrame.withPolicy k).cutSuspended else s.takeFrame.withPolicy k).evalFloor = u at settles answer
    have same : (s.withPolicy k).sameButLayers (u.reply ⟨0x17, tag, p⟩ .ok []).settle := by
      rw [sameButLayers_settle, sameButLayers_reply]
      exact settles.same
    obtain ⟨policy, same⟩ := State.sameButLayers_withPolicy same
    refine ⟨_, ?_, State.replied_reply settles.send, policy, same, settles.settled, settles.yields⟩
    refine congrArg Host.Outcome.next ?_
    rw [State.serve_ready ready rfl (by rw [length]; rfl), answer]
    rfl

end Sys2Proof.Machine

namespace Sys2Proof.Machine

/-! ### A trigger's action and the request it stands for (R163 to R168) -/

theorem byteAt_two {a b : Nat} (ha : a < 256) (hb : b < 256) :
    byteAt (be8 a ++ be8 b) 0 = a ∧ byteAt (be8 a ++ be8 b) 1 = b := by
  simp [byteAt, be8, Nat.mod_eq_of_lt ha, Nat.mod_eq_of_lt hb]

theorem byteAt_three {a b c : Nat} (ha : a < 256) (hb : b < 256) (hc : c < 256) :
    byteAt (be8 a ++ be8 b ++ be8 c) 0 = a ∧ byteAt (be8 a ++ be8 b ++ be8 c) 1 = b ∧
      byteAt (be8 a ++ be8 b ++ be8 c) 2 = c := by
  simp [byteAt, be8, Nat.mod_eq_of_lt ha, Nat.mod_eq_of_lt hb, Nat.mod_eq_of_lt hc]

section
variable {s : State} {x : Trigger} {i : Slot} {c : Scene}

theorem State.act_startScene (action : x.action = .startScene) : s.act x = s.triggerScene x := by
  unfold State.act
  rw [action]

theorem State.triggerScene_of (slot : slotOf x.slot = some i) (found : findScene s.library x.sceneId = some c) :
    s.triggerScene x =
      if x.replace then s.triggerReplace i c (c.resolve x.level) else s.triggerStart i c (c.resolve x.level) := by
  unfold State.triggerScene
  simp only [slot, found]

theorem State.triggerScene_unknown (slot : slotOf x.slot = some i) (none : findScene s.library x.sceneId = none) :
    s.triggerScene x = (s, .notFound) := by
  unfold State.triggerScene
  simp only [slot, none]

/-- START SCENE with fields in range enters the checks that a trigger's start has too (R12, R163). -/
theorem startScene_pair {p : List Byte} (slot : slotOf (byteAt p 0) = some i) (scene : isScene i = true)
    (id : byteAt p 1 ≠ 0) (level : byteAt p 2 ≤ 7 ∨ byteAt p 2 = 0xFF) :
    (findScene s.library (byteAt p 1) = none → (startScene p s).pair = (s, .notFound)) ∧
      ∀ c, findScene s.library (byteAt p 1) = some c →
        (startScene p s).pair = s.triggerStart i c (c.resolve (byteAt p 2)) := by
  unfold startScene
  simp only [slot]
  rw [if_neg (by simp [scene]), if_neg id, if_neg (by simp only [levelDefault]; omega)]
  refine ⟨fun none => by rw [none]; rfl, fun c found => ?_⟩
  rw [found]
  unfold State.triggerStart
  dsimp only
  split_ifs <;> rfl

/-- A trigger's START_SCENE with replace no acts as START SCENE (R163). -/
theorem State.act_start (action : x.action = .startScene) (replace : x.replace = false) (slot : x.slot ≤ 9)
    (id : 1 ≤ x.sceneId) (idMax : x.sceneId ≤ 255) (level : x.level ≤ 7 ∨ x.level = 0xFF) :
    s.act x = (startScene (be8 x.slot ++ be8 x.sceneId ++ be8 x.level) s).pair := by
  obtain ⟨slotByte, idByte, levelByte⟩ :=
    byteAt_three (a := x.slot) (b := x.sceneId) (c := x.level) (by omega) (by omega) (by omega)
  have known : slotOf x.slot = some ⟨x.slot, by omega⟩ := slotOf_of_lt _
  obtain ⟨unknown, starts⟩ := startScene_pair (s := s) (p := be8 x.slot ++ be8 x.sceneId ++ be8 x.level)
    (by rw [slotByte]; exact known) (isScene_iff.mpr slot) (by omega) (by omega)
  rw [idByte, levelByte] at *
  rw [State.act_startScene action]
  cases found : findScene s.library x.sceneId with
  | none => rw [State.triggerScene_unknown known found, unknown found]
  | some c => rw [State.triggerScene_of known found, starts c found, replace, if_neg Bool.false_ne_true]

/-- A trigger's STOP_AT_END acts as STOP LAYER AT_END (R165). -/
theorem State.act_stop (action : x.action = .stopAtEnd) (slot : x.slot ≤ 9) :
    s.act x = (stopLayer (be8 x.slot ++ be8 1) s).pair := by
  obtain ⟨slotByte, modeByte⟩ := byteAt_two (a := x.slot) (b := 1) (by omega) (by omega)
  have known : slotOf x.slot = some ⟨x.slot, by omega⟩ := slotOf_of_lt _
  rw [stopLayer_of (by rw [slotByte]; exact known) (isScene_iff.mpr slot) (atEnd := true) (by rw [modeByte]; rfl)]
  unfold State.act
  simp only [action, known, if_true]

/-- A trigger's RAISE_ALERT acts as RAISE ALERT (R166). -/
theorem State.act_raise (action : x.action = .raiseAlert) (id : 1 ≤ x.sceneId) (idMax : x.sceneId ≤ 255) :
    s.act x = (Machine.raiseAlert (be8 x.sceneId ++ be8 (if x.exclusive then 1 else 0)) s).pair := by
  obtain ⟨idByte, exclusiveByte⟩ :=
    byteAt_two (a := x.sceneId) (b := if x.exclusive then 1 else 0) (by omega) (by split <;> omega)
  rw [raiseAlert_of (exclusive := x.exclusive) (by omega) (by rw [exclusiveByte]; cases x.exclusive <;> rfl), idByte]
  unfold State.act
  simp only [action]

/-- A trigger's CLEAR_ALERT acts as CLEAR ALERT in the mode its replace gives (R167). -/
theorem State.act_clear (action : x.action = .clearAlert) (slot : x.slot = 10 ∨ x.slot = 11) :
    s.act x = (Machine.clearAlert (be8 x.slot ++ be8 (if x.replace then 0 else 1)) s).pair := by
  obtain ⟨slotByte, modeByte⟩ :=
    byteAt_two (a := x.slot) (b := if x.replace then 0 else 1) (by omega) (by split <;> omega)
  have known : slotOf x.slot = some ⟨x.slot, by omega⟩ := slotOf_of_lt _
  have nonScene : isScene ⟨x.slot, by omega⟩ = false := by
    rw [← Bool.not_eq_true, isScene_iff]
    show ¬x.slot ≤ 9
    omega
  rw [clearAlert_of (by rw [slotByte]; exact known) nonScene (atEnd := !x.replace)
    (by rw [modeByte]; cases x.replace <;> rfl)]
  unfold State.act
  simp only [action, known]

end

/-! ### A scene that replaces a layer (R164) -/

theorem Link.queueAll_notices_prefix (l : Link) (ns : List Notice) : l.notices <+: (l.queueAll ns).notices := by
  unfold Link.queueAll
  induction ns generalizing l with
  | nil => exact List.prefix_rfl
  | cons n ns ih =>
    refine List.IsPrefix.trans ?_ (ih (l.queue n))
    rw [Link.queue_notices]
    split
    · exact List.prefix_append _ _
    · exact List.prefix_rfl

section
variable {s : State} {i : Slot}

theorem State.evalFloor_notices_prefix : s.link.notices <+: s.evalFloor.link.notices := by
  cases policy : s.arb.policy with
  | resume => simp only [State.evalFloor, policy]; exact List.prefix_rfl
  | cancel =>
    rw [State.evalFloor_cancel policy]
    unfold State.queueOpen
    split <;> exact Link.queueAll_notices_prefix _ _

/-- What a replace has ended before its scene starts. -/
theorem State.replaced_eq : s.replaced i = if (s.layer i).state = .idle then s else s.ended i .stopped := rfl

theorem State.replaced_started (r : RingStart) (scene : isScene i = true) :
    (s.replaced i).layersWith i ((s.replaced i).startedIn i r) = s.layersWith i (s.startedIn i r) := by
  rw [State.replaced_eq]
  split
  · rfl
  · have notAlert : ¬i.val = 10 := by have := isScene_iff.mp scene; omega
    funext j
    unfold State.layersWith State.startedIn
    rw [State.ended_layer, State.ended_layer, State.layersWith, State.layersWith, if_pos rfl]
    split
    · simp [Layer.started, Layer.toIdle, notAlert]
    · rfl

theorem State.replaced_wf (canon : PoolCanonical s) : PoolCanonical (s.replaced i) := by
  rw [State.replaced_eq]
  split
  · exact canon
  · exact State.ended_wf _ canon

theorem State.replaced_same : s.sameButLayers (s.replaced i) := by
  rw [State.replaced_eq]
  split
  · exact s.sameButLayers_refl
  · exact State.ended_same _

theorem State.replaced_yields (canon : PoolCanonical s) : s.yieldsTo (s.replaced i) fun j => j = i := by
  rw [State.replaced_eq]
  split
  · exact State.yieldsTo_of_pool rfl
  · exact State.ended_yields _ canon ‹_›

theorem State.replaced_ownsNoMore : (s.replaced i).ownsNoMore s := by
  rw [State.replaced_eq]
  split
  · exact State.ownsNoMore_refl
  · exact State.ended_ownsNoMore _

theorem State.replaced_policy : (s.replaced i).arb.policy = s.arb.policy :=
  State.sameButLayers_policy State.replaced_same

theorem State.sameButLayers.trans {s t u : State} (h : s.sameButLayers t) (k : t.sameButLayers u) : s.sameButLayers u := by
  simp only [State.sameButLayers] at h k ⊢
  simp only [h, k, and_self]

/-- START_SCENE with replace yes that passes its checks (R164). -/
theorem State.triggerReplace_ok {c : Scene} {level : Nat}
    (free : s.overlaps (fun j => decide (j ≠ i)) c.base c.length .resident = false)
    (floor : s.belowFloor i level (s.floorWithout i) = false) :
    s.triggerReplace i c level = ((s.replaced i).startRing i (c.ring level c.exclusive), .ok) := by
  unfold State.triggerReplace
  rw [if_neg (by rw [free]; exact Bool.false_ne_true), if_neg (by rw [floor]; exact Bool.false_ne_true)]
  rfl

/-- The scene that replaces a layer: the record of R11 over the ended layer, and one floor evaluation (R164, R6). -/
theorem State.settles_replace (canon : PoolCanonical s) (upper : UpperFits s) (scene : isScene i = true) (r : RingStart) :
    (s.replaced i).Settles ((s.replaced i).startRing i r) (s.layersWith i (s.startedIn i r)) := by
  rw [← State.replaced_started r scene]
  refine State.settles_startRing (State.replaced_wf canon) (fun j nonScene => ?_) i r
  have other : j ≠ i := fun e => by rw [e, scene] at nonScene; cases nonScene
  rw [State.replaced_eq]
  split
  · exact upper j nonScene
  · rw [State.ended_layer, State.layersWith, if_neg other]
    exact upper j nonScene

theorem State.startRing_read_given {k : Nat} {c : Cue} (canon : s.pool.wf = true) (r : RingStart)
    (given : s.pool.read k = { c with ready := false, status := .cut }) :
    (s.startRing i r).pool.read k = { c with ready := false, status := .cut } :=
  State.evalFloor_read_given (s := s.setLayer i _) canon given

theorem State.startRing_notices_prefix (r : RingStart) : s.link.notices <+: (s.startRing i r).link.notices :=
  State.evalFloor_notices_prefix (s := s.setLayer i _)

/-- The cue of the replaced layer is given back CUT, and nothing behind it writes it again (R5). -/
theorem State.replace_read (canon : PoolCanonical s) (r : RingStart) (busy : (s.layer i).state ≠ .idle)
    (owns : (s.layer i).ownsCue = true) :
    ((s.replaced i).startRing i r).pool.read (s.layer i).cueIndex =
      { s.pool.read (s.layer i).cueIndex with ready := false, status := .cut } := by
  have wf := State.ended_wf (i := i) .stopped canon
  have given := State.ended_read (i := i) .stopped canon owns
  rw [State.replaced_eq, if_neg busy]
  generalize s.ended i .stopped = t at wf given ⊢
  exact State.startRing_read_given wf r given

/-- The notice of the replaced cue is queued before those of cuts (R164). -/
theorem State.replace_notices (r : RingStart) (busy : (s.layer i).state ≠ .idle) (begun : (s.layer i).cueBegun = true)
    (notify : (s.layer i).captured.notify = true) :
    (s.link.queue (.cue i (s.layer i).cueIndex .cut)).notices <+: ((s.replaced i).startRing i r).link.notices := by
  have own : (s.replaced i).link = s.link.queue (.cue i (s.layer i).cueIndex .cut) := by
    rw [State.replaced_eq, if_neg busy, State.ended_link, Layer.cutNotice, if_pos (by rw [begun, notify]; rfl)]
    rfl
  rw [← own]
  exact State.startRing_notices_prefix r

end

/-- Settles O58: each action enters where its request enters; a replace is an end and a start over what it leaves. -/
theorem triggersActAsRequests : Obligations.TriggersActAsRequests := by
  refine ⟨fun s x => ⟨fun action => by unfold State.act; rw [action], State.act_start, State.act_stop, State.act_raise,
    State.act_clear⟩, fun s x i c canon floor action replace slot scene found free above => ?_⟩
  have ringFree : s.overlaps (fun j => decide (j ≠ i)) c.base c.length .resident = false := by
    rw [← Bool.not_eq_true, State.overlaps_iff]
    rintro ⟨j, other, conflicts⟩
    rw [free j (of_decide_eq_true other)] at conflicts
    cases conflicts
  have floorFree : s.belowFloor i (c.resolve x.level) (s.floorWithout i) = false := by
    refine State.belowFloor_eq_false fun cancel _ nonzero => highestLevel_le_iff.mpr fun j exclusive counts => ?_
    simp only [Bool.and_eq_true, decide_eq_true_eq] at counts
    exact above cancel nonzero j counts.1 exclusive counts.2
  have acted : s.act x = _ :=
    (State.act_startScene action).trans ((State.triggerScene_of slot found).trans
      ((if_pos replace).trans (State.triggerReplace_ok ringFree floorFree)))
  have settles := State.settles_replace canon floor.statesFit.upper scene (c.ring (c.resolve x.level) c.exclusive)
  have settled := settles.settled
  rw [State.replaced_policy] at settled
  refine ⟨_, acted, State.replaced_same.trans settles.same, settled, State.replace_read canon _,
    (State.replaced_yields canon).trans settles.yields State.replaced_ownsNoMore, State.replace_notices _⟩

end Sys2Proof.Machine

namespace Sys2Proof.Machine

/-! ### A port at SLEEP (R146) -/

/-- The port goes OFF behind a closing dark frame, or at once where the chain has no records (R137). -/
def Port.closed (p : Port) (n : Nat) : Port :=
  if n = 0 then { p with state := .off } else ({ p with state := .off } : Port).fallDue n .dark

/-- The port that SLEEP leaves, of a chain with `n` records. -/
def Port.slept (p : Port) (n : Nat) : Port :=
  match p.state with
  | .off => { p with wakeMark := false, cutAtSleep := false }
  | .released => { p with state := .off, wakeMark := false, cutAtSleep := true }
  | .running => { p.left.closed n with wakeMark := true, cutAtSleep := false }
  | .enumerating => { p.stopPass.closed n with wakeMark := true, cutAtSleep := false }

section
variable {p : Port} {n : Nat}

theorem Port.beginNext_state : (p.beginNext n).state = p.state := by unfold Port.beginNext; split <;> rfl

@[simp] theorem Port.closed_state : (p.closed n).state = .off := by
  unfold Port.closed Port.fallDue
  split
  · rfl
  · exact Port.beginNext_state

theorem Port.slept_state : (p.slept n).state = .off := by
  unfold Port.slept
  split
  · assumption
  · rfl
  · exact Port.closed_state
  · exact Port.closed_state

/-- With nothing shifted and nothing waiting the closing dark frame begins at once. -/
theorem Port.closed_free (free : p.transfer = none) (nothing : p.waiting = []) :
    p.closed n = { p with state := .off, transfer := if n = 0 then none else some (.dark n false) } := by
  unfold Port.closed
  split
  · rw [← free]
  · simp [Port.fallDue, Port.beginNext, Port.firstOf, Port.transferFor, free, nothing]

/-- Behind a transfer in progress the closing dark frame waits. -/
theorem Port.closed_busy {x : Transfer} (busy : p.transfer = some x) (nothing : p.waiting = []) :
    p.closed n = { p with state := .off, waiting := if n = 0 then [] else [.dark] } := by
  unfold Port.closed
  split
  · rw [← nothing]
  · simp [Port.fallDue, Port.beginNext, busy, nothing]

end

section
variable {s : State} {c d : Chain}

theorem State.setPort_setPort (p q : Port) : (s.setPort c p).setPort c q = s.setPort c q := by cases c <;> rfl

theorem State.setPort_count (p : Port) : (s.setPort c p).count d = s.count d := by simp [State.count]

theorem State.setComp_count (k : Comp) : (s.setComp c k).count d = s.count d := by simp [State.count]

/-- The port that a request or SLEEP sends OFF is closed in place. -/
theorem State.closePort_setPort (p : Port) : (s.setPort c p).closePort c = s.setPort c (p.closed (s.count c)) := by
  unfold State.closePort Port.closed
  rw [State.setPort_count, State.setPort_port_same]
  dsimp only
  rw [State.setPort_setPort]

theorem State.onPort_eq (f : Port → Port) : s.onPort c f = s.setPort c (f (s.port c)) := rfl

theorem State.onPort_setPort (p : Port) (f : Port → Port) : (s.setPort c p).onPort c f = s.setPort c (f p) := by
  cases c <;> rfl

theorem State.setComp_self : s.setComp c (s.comp c) = s := by cases c <;> rfl

/-- SLEEP on one port: the port's record, and the Compositor's where a render is abandoned. -/
theorem State.sleepPort_eq :
    (s.sleepPort c).1 =
      (s.setComp c (if (s.port c).state = .running then (s.comp c).abandoned else s.comp c)).setPort c
        ((s.port c).slept (s.count c)) := by
  unfold State.sleepPort State.takeOff Port.slept
  cases h : (s.port c).state with
  | off | released =>
    dsimp only
    rw [if_neg (by simp), State.setComp_self, State.onPort_eq, h]
    rfl
  | running =>
    dsimp only
    rw [if_pos rfl, State.leaveRunning, if_pos h, State.closePort_setPort, State.onPort_setPort, State.setComp_count,
      Port.closed_state]
    rfl
  | enumerating =>
    dsimp only
    rw [if_neg (by simp), State.setComp_self, State.closePort_setPort, State.onPort_setPort, Port.closed_state]
    rfl

theorem State.sleepPort_notices :
    (s.sleepPort c).2 = if (s.port c).state = .enumerating then [s.abandonNotice c] else [] := by
  unfold State.sleepPort State.takeOff
  cases h : (s.port c).state <;> rfl

theorem State.sleepPort_rest :
    (s.sleepPort c).1.arb = s.arb ∧ (s.sleepPort c).1.pool = s.pool ∧ (s.sleepPort c).1.library = s.library ∧
      (s.sleepPort c).1.dir = s.dir ∧ (s.sleepPort c).1.amb = s.amb ∧ (s.sleepPort c).1.triggers = s.triggers ∧
      (s.sleepPort c).1.store = s.store ∧ (s.sleepPort c).1.link = s.link ∧ (s.sleepPort c).1.power = s.power := by
  rw [State.sleepPort_eq]
  simp

theorem State.sleepPort_port : (s.sleepPort c).1.port c = (s.port c).slept (s.count c) := by
  rw [State.sleepPort_eq, State.setPort_port_same]

theorem State.sleepPort_comp :
    (s.sleepPort c).1.comp c = if (s.port c).state = .running then (s.comp c).abandoned else s.comp c := by
  rw [State.sleepPort_eq, State.setPort_comp, State.setComp_comp_same]

theorem State.sleepPort_other (h : c ≠ d) :
    (s.sleepPort c).1.port d = s.port d ∧ (s.sleepPort c).1.comp d = s.comp d := by
  rw [State.sleepPort_eq, State.setPort_port_other _ _ h, State.setComp_port, State.setPort_comp, State.setComp_comp_other _ _ h]
  exact ⟨rfl, rfl⟩

end

/-! ### The notices of a sleep -/

theorem reorder_perm {α : Type} (ks : List Nat) (l : List α) : (reorder ks l).Perm l := by
  induction ks generalizing l with
  | nil => cases l <;> exact List.Perm.refl _
  | cons k ks ih =>
    cases l with
    | nil => exact List.Perm.refl _
    | cons x xs =>
      have place : k % (xs.length + 1) < (x :: xs).length := Nat.mod_lt _ (Nat.succ_pos _)
      unfold reorder
      rw [List.getD_eq_getElem _ _ place]
      exact ((ih _).cons _).trans (List.getElem_cons_eraseIdx_perm place)

/-- The notices of one event join in some order. -/
theorem State.queueOpen_link (s : State) (ns : List Notice) :
    ∃ taken : List Notice, taken.Perm ns ∧ (s.queueOpen ns).link = s.link.queueAll taken := by
  unfold State.queueOpen
  split
  · exact ⟨ns, List.Perm.refl _, rfl⟩
  · exact ⟨_, reorder_perm _ _, rfl⟩

/-- Notices that the queue has room for all join. -/
theorem Link.queueAll_notices_of_room {l : Link} {ns : List Notice} (room : l.notices.length + ns.length ≤ Config.maxNotices) :
    (l.queueAll ns).notices = l.notices ++ ns := by
  unfold Link.queueAll
  induction ns generalizing l with
  | nil => simp
  | cons n ns ih =>
    rw [List.length_cons] at room
    have joined : (l.queue n).notices = l.notices ++ [n] := by rw [Link.queue_notices, if_pos (by omega)]
    rw [List.foldl_cons, ih (by rw [joined, List.length_append]; simp only [List.length_singleton]; omega), joined,
      List.append_assoc]
    rfl

/-- Notices raise no flag but NOTICE_LOST. -/
theorem Link.flag_queueAll_other {f : Flag} (h : f.bit ≠ Flag.noticeLost.bit) (l : Link) (ns : List Notice) :
    (l.queueAll ns).flag f = l.flag f := by
  unfold Link.queueAll
  induction ns generalizing l with
  | nil => rfl
  | cons n ns ih =>
    rw [List.foldl_cons, ih]
    unfold Link.queue
    split
    · rfl
    · simp [Link.flag, Link.raise, Vector.getElem_set_ne _ _ (fun e => h (Fin.ext e).symm)]

/-- A transmitter with a reply to send changes nothing but what it sends. -/
theorem Link.startNext_replies {l : Link} (h : l.replies ≠ []) :
    ∃ tx replies, l.startNext = { l with tx := tx, replies := replies } := by
  rcases l.startNext_cases with e | ⟨-, r, rs, -, e⟩ | ⟨-, none, -⟩ | ⟨-, none, -⟩
  · exact ⟨l.tx, l.replies, e⟩
  · exact ⟨_, _, e⟩
  · exact absurd none h
  · exact absurd none h

end Sys2Proof.Machine

namespace Sys2Proof.Machine

/-! ### SLEEP as one event (R205, R28) -/

section
variable {s : State} {c : Chain}

/-- The ENUM NOTICE of a pass that SLEEP abandons (R143). -/
def State.passNotice (s : State) (c : Chain) : List Notice :=
  if (s.port c).state = .enumerating then [.enumeration c (s.count c) .abandoned] else []

/-- The layers that SLEEP stops (R28). -/
def State.quieted (s : State) : State :=
  { (s.endLayers (fun _ l => decide (l.state ≠ .idle)) .stopped).1 with
    arb := { (s.endLayers (fun _ l => decide (l.state ≠ .idle)) .stopped).1.arb with hush := 0 } }

theorem State.quieted_layer (i : Slot) :
    s.quieted.layer i = if (s.layer i).state = .idle then s.layer i else (s.layer i).toIdle i .stopped := by
  have layer : s.quieted.layer i = (s.endLayers (fun _ l => decide (l.state ≠ .idle)) .stopped).1.layer i := rfl
  rw [layer, State.endLayers_layer]
  by_cases idle : (s.layer i).state = .idle <;> simp [idle]

/-- What stopping every layer leaves: the ended layers, floor 0 and no hush. -/
theorem State.stopLayers_quieted :
    (∀ i, s.stopLayers.1.layer i = s.quieted.layer i) ∧ s.stopLayers.1.arb.floor = 0 ∧
      s.stopLayers.1.pool = s.quieted.pool ∧ s.stopLayers.1.link = s.link := by
  obtain ⟨layers, floor, pool, link⟩ := State.evalFloor_resting (s := s.quieted) fun j => by
    rw [State.quieted_layer]
    split
    · exact .inl ‹_›
    · exact .inl rfl
  exact ⟨layers, floor, pool, link⟩

theorem State.stopLayers_rest :
    s.stopLayers.1.arb.hush = 0 ∧ (∀ c, s.stopLayers.1.port c = s.port c) ∧ (∀ c, s.stopLayers.1.comp c = s.comp c) ∧
      s.stopLayers.1.library = s.library ∧ s.stopLayers.1.dir = s.dir ∧ s.stopLayers.1.amb = s.amb ∧
      s.stopLayers.1.triggers = s.triggers ∧ s.stopLayers.1.store = s.store := by
  have eq : s.stopLayers.1 = s.quieted.evalFloor := rfl
  rw [eq]
  refine ⟨by simp [State.quieted], fun c => ?_, fun c => ?_, ?_⟩
  · cases c <;> simp [State.port, State.quieted, State.endLayers]
  · cases c <;> simp [State.comp, State.quieted, State.endLayers]
  · simp [State.quieted, State.endLayers]

/-- The state in which SLEEP has stopped the layers and sent both ports OFF. -/
def State.portsSlept (s : State) : State := ((s.stopLayers.1.sleepPort .a).1.sleepPort .b).1

theorem State.portsSlept_port : s.portsSlept.port c = (s.port c).slept (s.count c) := by
  obtain ⟨-, ports, -, -, dir, -⟩ := s.stopLayers_rest
  have count : ∀ d, s.stopLayers.1.count d = s.count d := fun d => by rw [State.count, dir, State.count]
  unfold State.portsSlept
  cases c with
  | a => rw [(State.sleepPort_other (by decide)).1, State.sleepPort_port, ports, count]
  | b =>
    obtain ⟨-, -, -, dirA, -⟩ := State.sleepPort_rest (s := s.stopLayers.1) (c := .a)
    rw [State.sleepPort_port, (State.sleepPort_other (by decide)).1, ports, State.count, dirA, dir, State.count]

theorem State.portsSlept_comp :
    s.portsSlept.comp c = if (s.port c).state = .running then (s.comp c).abandoned else s.comp c := by
  obtain ⟨-, ports, comps, -⟩ := s.stopLayers_rest
  unfold State.portsSlept
  cases c with
  | a => rw [(State.sleepPort_other (by decide)).2, State.sleepPort_comp, ports, comps]
  | b =>
    obtain ⟨port, comp⟩ := State.sleepPort_other (s := s.stopLayers.1) (c := .a) (d := .b) (by decide)
    rw [State.sleepPort_comp, port, comp, ports, comps]

theorem State.portsSlept_rest :
    s.portsSlept.arb = s.stopLayers.1.arb ∧ s.portsSlept.pool = s.stopLayers.1.pool ∧ s.portsSlept.library = s.library ∧
      s.portsSlept.dir = s.dir ∧ s.portsSlept.amb = s.amb ∧ s.portsSlept.triggers = s.triggers ∧
      s.portsSlept.store = s.store ∧ s.portsSlept.link = s.link ∧ s.portsSlept.power = s.power := by
  obtain ⟨-, -, -, library, dir, amb, triggers, store⟩ := s.stopLayers_rest
  obtain ⟨-, -, -, link⟩ := s.stopLayers_quieted
  unfold State.portsSlept
  simp only [State.sleepPort_rest, library, dir, amb, triggers, store, link, State.stopLayers_power, and_self]

/-- The notices of a sleep: those of the layers it stops and of the passes it abandons. -/
def State.sleepNotices (s : State) : List Notice :=
  (s.endLayers (fun _ l => decide (l.state ≠ .idle)) .stopped).2 ++ s.passNotice .a ++ s.passNotice .b

theorem State.fallAsleep_eq :
    s.fallAsleep =
      (({ s.portsSlept with
          power := { s.portsSlept.power with sleepPending := true }, amb := s.portsSlept.amb.discard }
            : State).holdFor .sleep).queueOpen s.sleepNotices := by
  obtain ⟨-, ports, -, -, dir, -⟩ := s.stopLayers_rest
  have passA : (s.stopLayers.1.sleepPort .a).2 = s.passNotice .a := by
    rw [State.sleepPort_notices, ports, State.abandonNotice, State.count, dir]
    rfl
  have passB : ((s.stopLayers.1.sleepPort .a).1.sleepPort .b).2 = s.passNotice .b := by
    obtain ⟨-, -, -, dirA, -⟩ := State.sleepPort_rest (s := s.stopLayers.1) (c := .a)
    rw [State.sleepPort_notices, (State.sleepPort_other (by decide)).1, ports, State.abandonNotice, State.count, dirA, dir]
    rfl
  unfold State.sleepNotices
  rw [← passA, ← passB]
  rfl

/-- A sleep leaves the layers, factors, ports and tables of the stopped part. -/
theorem State.fallAsleep_rest :
    s.fallAsleep.arb = s.stopLayers.1.arb ∧ s.fallAsleep.pool = s.stopLayers.1.pool ∧
      s.fallAsleep.library = s.library ∧ s.fallAsleep.dir = s.dir ∧ s.fallAsleep.amb = s.amb.discard ∧
      s.fallAsleep.triggers = s.triggers ∧ s.fallAsleep.store = s.store ∧
      s.fallAsleep.power = { s.power with sleepPending := true } ∧
      (∀ c, s.fallAsleep.port c = (s.port c).slept (s.count c)) ∧
      ∀ c, s.fallAsleep.comp c = if (s.port c).state = .running then (s.comp c).abandoned else s.comp c := by
  obtain ⟨arb, pool, library, dir, amb, triggers, store, -, power⟩ := s.portsSlept_rest
  rw [State.fallAsleep_eq]
  simp only [State.queueOpen_arb, State.queueOpen_pool, State.queueOpen_library, State.queueOpen_dir, State.queueOpen_amb,
    State.queueOpen_triggers, State.queueOpen_store, State.queueOpen_power]
  refine ⟨arb, pool, library, dir, by rw [← amb]; rfl, triggers, store, by rw [← power]; rfl, fun c => ?_, fun c => ?_⟩
  · rw [← State.portsSlept_port]; cases c <;> simp [State.port, State.holdFor]
  · rw [← State.portsSlept_comp]; cases c <;> simp [State.comp, State.holdFor]

/-- The link of a sleep: the hold, and the notices in some order. -/
theorem State.fallAsleep_link :
    ∃ taken : List Notice, taken.Perm s.sleepNotices ∧
      s.fallAsleep.link = ({ s.link with hold := .sleep, replySent := false } : Link).queueAll taken := by
  obtain ⟨-, -, -, -, -, -, -, link, -⟩ := s.portsSlept_rest
  rw [State.fallAsleep_eq]
  obtain ⟨taken, perm, queued⟩ := State.queueOpen_link (({ s.portsSlept with
    power := { s.portsSlept.power with sleepPending := true }, amb := s.portsSlept.amb.discard }
      : State).holdFor .sleep) s.sleepNotices
  refine ⟨taken, perm, queued.trans ?_⟩
  rw [← link]
  rfl

/-- The pool of a sleep: the begun STREAM cues of the stopped layers are given back (R5, R28). -/
theorem State.fallAsleep_yields (canon : PoolCanonical s) : s.poolYields s.fallAsleep := by
  obtain ⟨arb, pool, -⟩ := s.fallAsleep_rest
  obtain ⟨layers, -, stopped, -⟩ := s.stopLayers_quieted
  have ends := State.endLayers_yields (s := s) (p := fun _ l => decide (l.state ≠ .idle)) .stopped canon fun i e =>
    of_decide_eq_true e
  refine (ends.congr (pool.trans stopped)).mono fun i e => ?_
  rw [State.layer_congr arb, layers, State.quieted_layer, if_neg (of_decide_eq_true e)]
  rfl

/-- At most fourteen notices belong to one sleep. -/
theorem State.sleepNotices_length : s.sleepNotices.length ≤ 14 := by
  have cuts : (s.endLayers (fun _ l => decide (l.state ≠ .idle)) .stopped).2.length ≤ 12 := by
    refine (List.length_filterMap_le _ _).trans ?_
    simp
  have pass : ∀ c, (s.passNotice c).length ≤ 1 := fun c => by unfold State.passNotice; split <;> simp
  have a := pass .a
  have b := pass .b
  simp only [State.sleepNotices, List.length_append]
  omega

theorem State.mem_sleepNotices (h : (s.port c).state = .enumerating) :
    Notice.enumeration c (s.count c) .abandoned ∈ s.sleepNotices := by
  have mem : Notice.enumeration c (s.count c) .abandoned ∈ s.passNotice c := by simp [State.passNotice, h]
  simp only [State.sleepNotices, List.mem_append]
  cases c <;> simp [mem]

/-- With every layer IDLE and the other port in no pass the one notice is that of the pass. -/
theorem State.sleepNotices_alone (h : (s.port c).state = .enumerating) (idle : ∀ i, (s.layer i).state = .idle)
    (others : ∀ d, d ≠ c → (s.port d).state ≠ .enumerating) :
    s.sleepNotices = [.enumeration c (s.count c) .abandoned] := by
  have cuts := State.endLayers_notices_of (s := s) (p := fun _ l => decide (l.state ≠ .idle)) .stopped fun j => by
    simp [idle j]
  rw [State.sleepNotices, cuts]
  cases c with
  | a => simp [State.passNotice, h, others .b (by decide)]
  | b => simp [State.passNotice, h, others .a (by decide)]

end

end Sys2Proof.Machine

namespace Sys2Proof.Machine

/-! ### The port that SLEEP leaves, state by state (R146, R137, R143) -/

section
variable {p : Port} {n : Nat}

theorem Port.slept_off (off : p.state = .off) : p.slept n = { p with wakeMark := false, cutAtSleep := false } := by
  unfold Port.slept
  rw [off]

theorem Port.slept_released (released : p.state = .released) :
    p.slept n = { p with state := .off, wakeMark := false, cutAtSleep := true } := by
  unfold Port.slept
  rw [released]

theorem Port.slept_running (running : p.state = .running) (nothing : p.waiting = []) :
    p.slept n =
      { p with
        state := .off, wakeMark := true, cutAtSleep := false, pendingFrame := none, lastLatched := none
        latchedSince := false
        transfer := match p.transfer with
          | none => if n = 0 then none else some (.dark n false)
          | some x => some x.detach
        waiting := if p.transfer = none ∨ n = 0 then [] else [.dark] } := by
  have left : p.left.waiting = [] := by simp [Port.left, nothing]
  unfold Port.slept
  rw [running]
  dsimp only
  cases h : p.transfer with
  | none =>
    rw [Port.closed_free (by simp [Port.left, h]) left]
    simp [Port.left, nothing]
  | some x =>
    rw [Port.closed_busy (x := x.detach) (by simp [Port.left, h]) left]
    simp [Port.left, h]

theorem Port.slept_enumerating (pass : p.state = .enumerating) (nothing : p.waiting = [])
    (own : p.transfer = none ∨ p.transfer = some .request ∨ p.transfer = some .collect) :
    p.slept n =
      { p with
        state := .off, wakeMark := true, cutAtSleep := false, settle := none
        transfer := if n = 0 then none else some (.dark n false) } := by
  have stopped : p.stopPass.transfer = none := by rcases own with h | h | h <;> simp [Port.stopPass, h]
  have empty : p.stopPass.waiting = [] := by simp [Port.stopPass, nothing]
  unfold Port.slept
  rw [pass]
  dsimp only
  rw [Port.closed_free stopped empty]
  simp [Port.stopPass, nothing]

theorem Port.slept_enumerating_behind {f : Frame} {o : Origin} {l : Bool} (pass : p.state = .enumerating)
    (waits : p.waiting = [.identify]) (shift : p.transfer = some (.duty f o l)) :
    p.slept n =
      { p with
        state := .off, wakeMark := true, cutAtSleep := false, settle := none
        waiting := if n = 0 then [] else [.dark] } := by
  have goesOn : p.stopPass.transfer = some (.duty f o l) := by simp [Port.stopPass, shift]
  have empty : p.stopPass.waiting = [] := by simp [Port.stopPass, waits]
  unfold Port.slept
  rw [pass]
  dsimp only
  rw [Port.closed_busy goesOn empty]
  simp [Port.stopPass, shift]

end

/-! ### Answers of SLEEP -/

/-- What joins the queue depends on the queue alone. -/
theorem Link.queueAll_notices_congr {l k : Link} (h : l.notices = k.notices) (ns : List Notice) :
    (l.queueAll ns).notices = (k.queueAll ns).notices := by
  unfold Link.queueAll
  induction ns generalizing l k with
  | nil => exact h
  | cons n ns ih => exact ih (by rw [Link.queue_notices, Link.queue_notices, h])

section
variable {s : State}

/-- DORMANT_ENTRY once both its conditions hold (R206). -/
theorem State.sleepDone_of (awake : s.power.part = .awake) (pending : s.power.sleepPending = true)
    (hold : s.link.hold = .sleep) (sent : s.link.replySent = true)
    (quiet : ∀ c : Chain, (s.port c).transfer = none ∧ (s.port c).waiting = []) : s.sleepDone = true := by
  have a : s.portA.transfer = none ∧ s.portA.waiting = [] := quiet .a
  have b : s.portB.transfer = none ∧ s.portB.waiting = [] := quiet .b
  simp [State.sleepDone, State.awake, Port.quiet, awake, pending, hold, sent, a, b]

theorem sleep_alert (h : (s.layer alertSlot).latch = true ∨ (s.layer egressSlot).latch = true) :
    sleep s = .plain s .alertActive := if_pos h

theorem sleep_free (alert : (s.layer alertSlot).latch = false) (egress : (s.layer egressSlot).latch = false) :
    sleep s = if s.store.op ≠ .idle then .plain s .busy else .plain s.fallAsleep .ok :=
  if_neg (by simp [alert, egress])

/-- The link after a SLEEP and its reply: the notices of the sleep have joined, and no flag but NOTICE_LOST has changed. -/
theorem State.sleep_link (f : LinkFrame) :
    ∃ taken : List Notice, taken.Perm s.sleepNotices ∧
      (s.fallAsleep.reply f .ok []).settle.link.notices = (s.link.queueAll taken).notices ∧
      (s.fallAsleep.reply f .ok []).settle.link.hold = .sleep ∧
      (s.fallAsleep.reply f .ok []).settle.link.replySent = false ∧
      (s.fallAsleep.reply f .ok []).settle.link.flag .hushEnd = s.link.flag .hushEnd ∧
      s.fallAsleep.link.sameSend s.link := by
  obtain ⟨taken, perm, link⟩ := s.fallAsleep_link
  obtain ⟨tx, replies, next⟩ := Link.startNext_replies (l := (s.fallAsleep.reply f .ok []).link) (by simp [State.reply])
  have held : s.fallAsleep.link.sameHold { s.link with hold := .sleep, replySent := false } := by
    rw [link, Link.sameHold_queueAll]
    exact ⟨rfl, rfl, rfl⟩
  have send : s.fallAsleep.link.sameSend s.link := by
    rw [link, Link.sameSend_queueAll]
    exact Link.sameSend_refl
  have notices : s.fallAsleep.link.notices = (s.link.queueAll taken).notices := by
    rw [link]
    exact Link.queueAll_notices_congr (l := { s.link with hold := .sleep, replySent := false }) (k := s.link) rfl taken
  have flag : s.fallAsleep.link.flag .hushEnd = s.link.flag .hushEnd := by
    rw [link, Link.flag_queueAll_other (by decide)]
    rfl
  obtain ⟨hold, -, replySent⟩ := held
  have settled : (s.fallAsleep.reply f .ok []).settle.link = _ := next
  rw [settled]
  exact ⟨taken, perm, notices, hold, replySent, flag, send⟩

end

/-- What an accepted SLEEP makes of `s`, its reply queued and the transmitter served (R205, R28, R146). -/
structure State.Sleeps (s t : State) : Prop where
  power : t.power = { s.power with sleepPending := true }
  hold : t.link.hold = .sleep
  replySent : t.link.replySent = false
  layers : ∀ i : Slot, t.layer i = if (s.layer i).state = .idle then s.layer i else (s.layer i).toIdle i .stopped
  floor : t.arb.floor = 0
  hush : t.arb.hush = 0
  hushEnd : t.link.flag .hushEnd = s.link.flag .hushEnd
  yields : s.poolYields t
  amb : t.amb = s.amb.discard
  ports : ∀ c : Chain, t.port c = (s.port c).slept (s.count c)
  comps : ∀ c : Chain, t.comp c = if (s.port c).state = .running then (s.comp c).abandoned else s.comp c
  tables : t.dir = s.dir ∧ t.library = s.library ∧ t.triggers = s.triggers ∧ t.store = s.store
  notices : ∃ taken : List Notice, taken.Perm s.sleepNotices ∧ t.link.notices = (s.link.queueAll taken).notices

section
variable {s t : State} {c : Chain}

theorem State.Sleeps.of_fallAsleep (canon : PoolCanonical s) (f : LinkFrame) :
    s.Sleeps (s.fallAsleep.reply f .ok []).settle := by
  obtain ⟨taken, perm, notices, hold, sent, flag, -⟩ := s.sleep_link f
  obtain ⟨arb, pool, library, dir, amb, triggers, store, power, ports, comps⟩ := s.fallAsleep_rest
  obtain ⟨layers, floor, -⟩ := s.stopLayers_quieted
  obtain ⟨hush, -⟩ := s.stopLayers_rest
  have yields := State.fallAsleep_yields canon
  rw [← arb] at floor hush
  have layers' : ∀ i, s.fallAsleep.layer i = _ := fun i =>
    (State.layer_congr arb i).trans ((layers i).trans (State.quieted_layer i))
  generalize s.fallAsleep = u at *
  have port : ∀ c, (u.reply f .ok []).settle.port c = u.port c := fun c => by cases c <;> rfl
  have comp : ∀ c, (u.reply f .ok []).settle.comp c = u.comp c := fun c => by cases c <;> rfl
  exact ⟨power, hold, sent, layers', floor, hush, flag, yields, amb, fun c => (port c).trans (ports c),
    fun c => (comp c).trans (comps c), ⟨dir, library, triggers, store⟩, taken, perm, notices⟩

/-- The frame that leaves the receive buffer has no part in a sleep. -/
theorem State.Sleeps.of_takeFrame (h : s.takeFrame.Sleeps t) : s.Sleeps t := by
  obtain ⟨power, hold, sent, layers, floor, hush, flag, yields, amb, ports, comps, tables, taken, perm, notices⟩ := h
  have port : ∀ c, s.takeFrame.port c = s.port c := fun c => by cases c <;> rfl
  have comp : ∀ c, s.takeFrame.comp c = s.comp c := fun c => by cases c <;> rfl
  refine ⟨power, hold, sent, layers, floor, hush, flag, yields, amb, fun c => ?_, fun c => ?_, tables, taken, ?_,
    notices.trans (Link.queueAll_notices_congr (l := s.takeFrame.link) (k := s.link) rfl taken)⟩
  · rw [← port]; exact ports c
  · rw [← port, ← comp]; exact comps c
  · have pass : ∀ c, s.takeFrame.passNotice c = s.passNotice c := fun c => by
      unfold State.passNotice; rw [port]; rfl
    unfold State.sleepNotices at perm ⊢
    rw [pass, pass] at perm
    exact perm

namespace State.Sleeps
variable (h : s.Sleeps t)
include h

theorem comp_kept (other : (s.port c).state ≠ .running) : t.comp c = s.comp c := by rw [h.comps, if_neg other]

theorem lines_released (released : (s.port c).state = .released) : t.chainLines c = .highImpedance := by
  have port := h.ports c
  rw [Port.slept_released released] at port
  unfold State.chainLines
  rw [port, h.power]
  simp

/-- The notice of an abandoned pass finds room in a queue that holds two. -/
theorem mem_notices (pass : (s.port c).state = .enumerating) (room : s.link.notices.length ≤ 2) :
    Notice.enumeration c (s.count c) .abandoned ∈ t.link.notices := by
  obtain ⟨taken, perm, notices⟩ := h.notices
  have few : taken.length ≤ 14 := perm.length_eq ▸ s.sleepNotices_length
  rw [notices, Link.queueAll_notices_of_room (by simp only [Config.maxNotices]; omega)]
  exact List.mem_append_right _ (perm.mem_iff.mpr (State.mem_sleepNotices pass))

theorem notices_alone (pass : (s.port c).state = .enumerating) (idle : ∀ i, (s.layer i).state = .idle)
    (others : ∀ d, d ≠ c → (s.port d).state ≠ .enumerating) :
    t.link.notices = (s.link.queue (.enumeration c (s.count c) .abandoned)).notices := by
  obtain ⟨taken, perm, notices⟩ := h.notices
  rw [State.sleepNotices_alone pass idle others, List.perm_singleton] at perm
  rw [notices, perm]
  rfl

end State.Sleeps

end

/-- Settles O60: SLEEP by `State.Sleeps`, the entry to DORMANT and the wakes by their definitions. -/
theorem sleepsAndWakes : Obligations.SleepsAndWakes := by
  refine ⟨fun tag s ready => ⟨fun alert => ?_, fun alert egress writing => ?_, fun canon alert egress still => ?_⟩,
    fun s awake pending hold sent quiet => ?_, fun c s dormant wakes => ?_⟩
  · exact congrArg Host.Outcome.next (State.serve_read ready rfl (sleep_alert (s := s.takeFrame) alert))
  · exact congrArg Host.Outcome.next
      (State.serve_read ready rfl ((sleep_free (s := s.takeFrame) alert egress).trans (if_pos writing)))
  · have answer := (sleep_free (s := s.takeFrame) alert egress).trans (if_neg (not_not.mpr still))
    have next : exec (.sleep tag []) s = .next ((s.takeFrame.fallAsleep.reply ⟨0x63, tag, []⟩ .ok []).settle) := by
      refine congrArg Host.Outcome.next ?_
      rw [State.serve_ready ready rfl rfl, answer]
      rfl
    have replied : s.replied (s.takeFrame.fallAsleep.reply ⟨0x63, tag, []⟩ .ok []).settle ⟨0x63, tag, []⟩ .ok [] := by
      obtain ⟨-, -, -, -, -, -, send⟩ := s.takeFrame.sleep_link ⟨0x63, tag, []⟩
      exact State.replied_reply send
    have h : s.Sleeps (s.takeFrame.fallAsleep.reply ⟨0x63, tag, []⟩ .ok []).settle :=
      (State.Sleeps.of_fallAsleep (s := s.takeFrame) canon _).of_takeFrame
    generalize (s.takeFrame.fallAsleep.reply ⟨0x63, tag, []⟩ .ok []).settle = t at *
    refine ⟨t, next, replied, h.power, h.hold, h.replySent, h.layers, h.floor, h.hush, h.hushEnd, h.yields, h.amb,
      fun c => ⟨?_, fun off => ⟨?_, h.comp_kept (by simp [off])⟩,
        fun released => ⟨?_, h.comp_kept (by simp [released]), h.lines_released released⟩,
        fun running nothing => ⟨?_, ?_⟩,
        fun pass => ⟨h.comp_kept (by simp [pass]), fun nothing own => ?_, fun f o l waits shift => ?_,
          h.mem_notices pass, h.notices_alone pass⟩⟩, h.tables⟩
    · rw [h.ports]; exact Port.slept_state
    · rw [h.ports]; exact Port.slept_off off
    · rw [h.ports]; exact Port.slept_released released
    · rw [h.comps, if_pos running]; rfl
    · rw [h.ports]; exact Port.slept_running running nothing
    · rw [h.ports]; exact Port.slept_enumerating pass nothing own
    · rw [h.ports]; exact Port.slept_enumerating_behind pass waits shift
  · refine congrArg Host.Outcome.next ?_
    rw [if_pos (State.sleepDone_of awake pending hold sent quiet)]
    rfl
  · have woken : exec c s = .next s.wake := by
      rcases wakes with rfl | ⟨rfl, line⟩
      · exact congrArg Host.Outcome.next (if_pos dormant)
      · exact congrArg Host.Outcome.next (if_pos (by simp [dormant, line]))
    refine ⟨_, woken, rfl, s.wake_layer, rfl, rfl, rfl, rfl, rfl, rfl, rfl, rfl, rfl, fun d => ?_, rfl, rfl, rfl, rfl, rfl,
      rfl, rfl, rfl⟩
    cases d <;> rfl

end Sys2Proof.Machine

/-! # Proofs: the cue pool, the rings and the working library

What leaves rings and cursors where they stand, the starts that may be, and one rule for every law on layers, pool and
library; then the four laws, the load, the STREAM hand-over, and the requests of the pool, the library and the tables. -/

namespace Sys2Proof.Machine

/-! ### What leaves rings and cursors where they stand -/

/-- The record `l` has the ring, the cursor and the step count of `k`, with its loop stack or an empty one, and is IDLE
where `k` is. -/
structure Layer.Follows (l k : Layer) : Prop where
  idle : k.state = .idle → l.state = .idle
  base : l.ringBase = k.ringBase
  length : l.ringLength = k.ringLength
  mode : l.ringMode = k.ringMode
  fallback : l.fallback = k.fallback
  cursor : l.cueIndex = k.cueIndex
  stack : l.loopStack = k.loopStack ∨ l.loopStack = []
  steps : l.stepCount = k.stepCount

/-- A change of marks and drawn values leaves all that `Follows` compares. -/
theorem Layer.Follows.of_marks {l k : Layer} (idle : k.state = .idle → l.state = .idle)
    (base : l.ringBase = k.ringBase := by rfl) (length : l.ringLength = k.ringLength := by rfl)
    (mode : l.ringMode = k.ringMode := by rfl) (fallback : l.fallback = k.fallback := by rfl)
    (cursor : l.cueIndex = k.cueIndex := by rfl) (stack : l.loopStack = k.loopStack := by rfl)
    (steps : l.stepCount = k.stepCount := by rfl) : l.Follows k :=
  ⟨idle, base, length, mode, fallback, cursor, .inl stack, steps⟩

theorem Layer.follows_refl (l : Layer) : l.Follows l := .of_marks id

theorem Layer.Follows.trans {l k m : Layer} (h : l.Follows k) (g : k.Follows m) : l.Follows m where
  idle := h.idle ∘ g.idle
  base := h.base.trans g.base
  length := h.length.trans g.length
  mode := h.mode.trans g.mode
  fallback := h.fallback.trans g.fallback
  cursor := h.cursor.trans g.cursor
  stack := h.stack.elim (fun e => g.stack.imp e.trans e.trans) .inr
  steps := h.steps.trans g.steps

theorem Layer.toIdle_follows (l : Layer) (i : Slot) (r : EndReason) : (l.toIdle i r).Follows l :=
  ⟨fun _ => rfl, rfl, rfl, rfl, rfl, rfl, .inr rfl, rfl⟩

theorem Layer.withLevel_follows (l : Layer) (i : Slot) (level : Nat) : (l.withLevel i level).Follows l :=
  .of_marks fun idle => by simp [Layer.withLevel, idle]

theorem Layer.underFloor_follows (l : Layer) (policy : Policy) (floor : Nat) (i : Slot) :
    (l.underFloor policy floor i).Follows l := by
  by_cases idle : l.state = .idle
  · rw [Layer.underFloor_resting _ _ _ _ (.inl idle)]
    exact l.follows_refl
  · unfold Layer.underFloor
    cases policy <;> dsimp only <;> split_ifs
    exacts [l.follows_refl, .of_marks (absurd · idle), .of_marks (absurd · idle), l.follows_refl, l.follows_refl,
      l.toIdle_follows i _, l.follows_refl]

/-- On the way from `s` to `t` no ring is started, no cursor moves, the library stands, and the pool keeps its canonical
form. -/
structure Calm (s t : State) : Prop where
  layers : ∀ i, (t.layer i).Follows (s.layer i)
  pool : PoolCanonical s → PoolCanonical t
  library : t.library = s.library

theorem Calm.refl (s : State) : Calm s s := ⟨fun _ => Layer.follows_refl _, id, rfl⟩

theorem State.evalFloor_pool_wf {s : State} (h : PoolCanonical s) : PoolCanonical s.evalFloor := by
  cases policy : s.arb.policy with
  | resume => simpa only [PoolCanonical, State.evalFloor, policy] using h
  | cancel =>
    have cut := State.endLayers_pool_wf s s.belowFloorOf .cut h
    rw [State.evalFloor_cancel policy, PoolCanonical, State.queueOpen_pool]
    exact cut

namespace Calm

variable {s t u : State} (h : Calm s t)
include h

theorem trans (k : Calm t u) : Calm s u :=
  ⟨fun i => (k.layers i).trans (h.layers i), k.pool ∘ h.pool, k.library.trans h.library⟩

/-- A change of anything but layers, pool and library. -/
theorem same (layers : u.arb.layers = t.arb.layers := by rfl) (pool : u.pool = t.pool := by rfl)
    (library : u.library = t.library := by rfl) : Calm s u :=
  h.trans ⟨fun i => by simp only [State.layer, layers]; exact Layer.follows_refl _,
    fun k => by rwa [PoolCanonical, pool], library⟩

theorem setLayer {i : Slot} {l : Layer} (hl : l.Follows (t.layer i)) : Calm s (t.setLayer i l) :=
  h.trans ⟨fun j => by
    rw [State.setLayer_layer]
    split
    · subst j; exact hl
    · exact Layer.follows_refl _, id, rfl⟩

theorem endLayers (p : Slot → Layer → Bool) (r : EndReason) : Calm s (t.endLayers p r).1 :=
  h.trans ⟨fun i => by
    rw [State.endLayers_layer]
    split
    · exact Layer.toIdle_follows _ _ _
    · exact Layer.follows_refl _, State.endLayers_pool_wf t p r, rfl⟩

theorem evalFloor : Calm s t.evalFloor :=
  h.trans ⟨fun i => by rw [State.evalFloor_layer]; exact Layer.underFloor_follows _ _ _ _, State.evalFloor_pool_wf,
    t.evalFloor_library⟩

theorem raise (f : Flag) : Calm s (t.raise f) := h.same

theorem settle : Calm s t.settle := h.same

theorem queueAll (ns : List Notice) : Calm s (t.queueAll ns) := h.same

theorem queueOpen (ns : List Notice) : Calm s (t.queueOpen ns) := h.same (by simp) (by simp) (by simp)

theorem stopSlot (i : Slot) (r : EndReason) : Calm s (t.stopSlot i r) := by
  rw [State.stopSlot_eq]
  exact ((h.endLayers _ r).queueAll _).evalFloor

theorem replaced (i : Slot) : Calm s (t.replaced i) := by
  unfold State.replaced
  split
  · exact h
  · exact (h.endLayers _ _).queueAll _

theorem finish (i : Slot) : Calm s (t.finish i) := h.setLayer (.of_marks id)

theorem latchEgress : Calm s t.takeEgressLevel.latchEgress := by
  have taken : Calm s t.takeEgressLevel := h.same
  have latched : Calm s (t.takeEgressLevel.setLayer egressSlot
      { t.takeEgressLevel.layer egressSlot with latch := true }) := taken.setLayer (.of_marks id)
  exact latched.raise _

theorem cancelSleep : Calm s t.cancelSleep := by
  unfold State.cancelSleep
  split
  · exact h.same
  · exact h

theorem wake : Calm s t.wake :=
  h.trans ⟨fun i => by rw [State.wake_layer]; exact .of_marks fun _ => rfl, id, rfl⟩

theorem ticked : Calm s t.ticked :=
  h.same (by rw [State.ticked_arb]) t.ticked_pool t.ticked_frame.2.2.1

theorem clearAlert (i : Slot) (atEnd : Bool) : Calm s (t.clearAlert i atEnd).state := by
  rcases t.clearAlert_cases i atEnd with ⟨-, -, e, -⟩ | ⟨-, ⟨-, -, e⟩ | ⟨-, -, e⟩ | ⟨-, -, e⟩⟩ <;> rw [e]
  · exact h
  · exact h.setLayer (.of_marks id)
  · exact h.setLayer (.of_marks id)
  · have cleared : Calm s (t.setLayer i { t.layer i with latch := false }) := h.setLayer (.of_marks id)
    exact cleared.stopSlot i _

theorem clearAlertRequest (p : List Byte) : Calm s (Machine.clearAlert p t).state := by
  rcases clearAlert_cases p t with ⟨-, -, e, -⟩ | ⟨i, atEnd, -, -, -, e⟩ <;> rw [e]
  · exact h
  · exact h.clearAlert i atEnd

theorem stopLayer (p : List Byte) : Calm s (Machine.stopLayer p t).state := by
  rcases stopLayer_cases p t with ⟨-, -, e, -⟩ | ⟨i, -, -, -, ⟨-, -, e⟩ | ⟨-, e⟩⟩ <;> rw [e]
  · exact h
  · exact h.finish i
  · exact h.stopSlot i _

theorem setLevel (p : List Byte) : Calm s (Machine.setLevel p t).state := by
  rcases setLevel_cases p t with ⟨-, -, e, -⟩ | ⟨i, -, -, -, ⟨-, e⟩ | ⟨-, -, e⟩⟩ <;> rw [e]
  · exact h
  · exact h.setLayer (Layer.withLevel_follows _ _ _)
  · exact (h.setLayer (Layer.withLevel_follows _ _ _)).evalFloor

theorem setMaster (p : List Byte) : Calm s (Machine.setMaster p t).state := by
  rcases setMaster_cases p t with ⟨-, -, e, -⟩ | ⟨on, -, e⟩ <;> rw [e]
  · exact h
  · exact h.same

theorem hush (p : List Byte) : Calm s (Machine.hush p t).state := by
  rcases hush_cases p t with ⟨-, -, e, -⟩ | ⟨-, e⟩ <;> rw [e]
  · exact h
  · exact h.same

theorem setPolicy (p : List Byte) : Calm s (Machine.setPolicy p t).state := by
  rcases setPolicy_cases p t with ⟨-, -, e, -⟩ | ⟨k, -, e⟩ <;> rw [e]
  · exact h
  · have set : Calm s (t.withPolicy k) := h.same
    refine Calm.evalFloor ?_
    split
    · have cut := set.endLayers (fun i l => isScene i && decide (l.state = .suspended)) .cut
      exact cut.queueOpen _
    · exact set

theorem loadCues (p : List Byte) : Calm s (Machine.loadCues p t).state := by
  rcases loadCues_cases p t with ⟨-, -, e, -⟩ | ⟨_, cues, -, -, -, -, e⟩ <;> rw [e]
  · exact h
  · exact h.trans ⟨fun _ => Layer.follows_refl _, Pool.writeAll_wf _ cues, rfl⟩

theorem putTrigger (p : List Byte) : Calm s (Machine.putTrigger p t).state := by
  rcases putTrigger_cases p t with ⟨-, -, e, -⟩ | ⟨_, _, -, e⟩ <;> rw [e]
  · exact h
  · exact h.same

theorem sleep : Calm s (Machine.sleep t).state := by
  rcases sleep_cases t with ⟨-, -, e, -⟩ | ⟨-, -, -, e⟩ <;> rw [e]
  · exact h
  · have stopped : Calm s t.stopLayers.1 := by
      rw [State.stopLayers_eq]
      exact (h.endLayers (fun _ l => decide (l.state ≠ .idle)) .stopped).same.evalFloor
    refine stopped.same (by rw [Answer.plain_state, t.fallAsleep_arb]) ?_ ?_ <;>
      simp [State.fallAsleep, State.sleepPort_frame]

end Calm

end Sys2Proof.Machine

namespace Sys2Proof.Machine

/-! ### What a start may start (R10, R12, R25) -/

/-- A ring that a START may give slot `i`: the fallback ring, or a ring that no other layer's ring forbids and that is a
scene's, or lies in the pool with its offset inside (R10, R12, R26, R42). -/
def State.MayStart (s : State) (i : Slot) (r : RingStart) : Prop :=
  r = fallbackRing ∨
    (r.fallback = false ∧ (∀ j, j ≠ i → (s.layer j).conflicts r.base r.length r.mode = false) ∧
      ((r.offset < r.length ∧ r.base + r.length ≤ Config.poolSize) ∨
        ∃ c ∈ s.library, r.base = c.base ∧ r.length = c.length ∧ r.offset = 0))

theorem State.conflicts_of_overlaps {s : State} {among : Slot → Bool} {base length : Nat} {mode : RingMode}
    (h : s.overlaps among base length mode = false) {j : Slot} (hj : among j = true) :
    (s.layer j).conflicts base length mode = false := by
  by_contra clash
  rw [← Bool.not_eq_true, State.overlaps_iff] at h
  exact h ⟨j, hj, by simpa using clash⟩

/-- A layer that follows another conflicts with no ring that the other does not conflict with. -/
theorem Layer.Follows.conflicts {l k : Layer} (h : l.Follows k) {base length : Nat} {mode : RingMode}
    (free : k.conflicts base length mode = false) : l.conflicts base length mode = false := by
  by_cases idle : k.state = .idle
  · simp [Layer.conflicts, h.idle idle]
  · by_cases still : l.state = .idle
    · simp [Layer.conflicts, still]
    · simpa [Layer.conflicts, idle, still, h.base, h.length, h.mode, h.fallback] using free

theorem State.MayStart.calm {s t : State} {i : Slot} {r : RingStart} (h : s.MayStart i r) (calm : Calm s t) :
    t.MayStart i r := by
  rcases h with fallback | ⟨own, free, place⟩
  · exact .inl fallback
  · exact .inr ⟨own, fun j hj => (calm.layers j).conflicts (free j hj), by rwa [calm.library]⟩

/-- A scene of the library may start where no other ring overlaps (R12). -/
theorem State.MayStart.scene {s : State} {among : Slot → Bool} {id : Nat} {c : Scene}
    (found : findScene s.library id = some c) (free : s.overlaps among c.base c.length .resident = false) {i : Slot}
    (others : ∀ j, j ≠ i → among j = true) (level : Nat) (exclusive : Bool) : s.MayStart i (c.ring level exclusive) :=
  .inr ⟨rfl, fun j hj => State.conflicts_of_overlaps free (others j hj),
    .inr ⟨c, (findScene_mem found).1, rfl, rfl, rfl⟩⟩

/-- The ring of a START LAYER may start where no other ring overlaps (R10). -/
theorem State.MayStart.fields {s : State} {p : List Byte} {exclusive : Bool} {r : RingStart}
    (fields : startFields p exclusive = some r) (free : s.overlaps (fun _ => true) r.base r.length r.mode = false)
    (i : Slot) : s.MayStart i r := by
  obtain ⟨mode, -, -, -, bound, offset, rfl⟩ := startFields_some fields
  exact .inr ⟨rfl, fun j _ => State.conflicts_of_overlaps free rfl, .inl ⟨offset, bound⟩⟩

/-! ### A law on layers, pool and library is kept by every command -/

/-- A law that outlasts what leaves rings and cursors, the starts that may be, the handling of a layer, the load, PUT
SCENE and a reset. -/
structure RingLaw (P : State → Prop) : Prop where
  calm : ∀ {s t}, Calm s t → P s → P t
  started : ∀ {s i r} k, s.MayStart i r → P s → P (s.setLayer i ((s.layer i).started r k))
  played : ∀ {s i}, (s.layer i).state.playing = true → P s → P (s.played i)
  load : ∀ {s}, P s → P s.load
  putScene : ∀ {s} p, P s → P (putScene p s).state
  rebooted : ∀ s hi, P (State.rebooted s hi)

namespace RingLaw

variable {P : State → Prop} (law : RingLaw P) {s : State}
include law

theorem startRing (h : P s) {i : Slot} {r : RingStart} (may : s.MayStart i r) : P (s.startRing i r) :=
  law.calm (Calm.refl _).evalFloor (law.started _ may h)

theorem startEgress (h : P s) : P s.startEgress := by
  rcases s.startEgress_cases with ⟨c, found, -, free, e⟩ | ⟨-, e⟩ <;> rw [e]
  · exact law.startRing h (.scene found free (fun _ _ => rfl) _ _)
  · exact law.startRing h (.inl rfl)

theorem lightEgress (h : P s) : P s.lightEgress := by
  unfold State.lightEgress
  split
  · exact law.startEgress h
  · exact law.calm ((Calm.refl s).setLayer (.of_marks id)) h

theorem handleSlot (h : P s) (i : Slot) : P (s.handleSlot i) := by
  rcases s.handleSlot_cases i with ⟨-, e⟩ | ⟨playing, e⟩
  · rw [e]; exact h
  have played := law.played playing h
  have raised : P ((s.played i).raise .layerRunaway) := law.calm ((Calm.refl _).raise _) played
  rcases e with e | e | e | ⟨rfl, -, e⟩ <;> rw [e]
  · exact played
  · exact law.calm ((Calm.refl _).setLayer (Layer.toIdle_follows _ _ _)).evalFloor played
  · exact law.calm ((Calm.refl _).setLayer (Layer.toIdle_follows _ _ _)).evalFloor raised
  · have relit := law.started .running (i := egressSlot) (r := fallbackRing) (.inl rfl) raised
    refine law.calm ?_ relit
    have restarted := (Calm.refl (((s.played egressSlot).raise .layerRunaway).setLayer egressSlot
      ((((s.played egressSlot).raise .layerRunaway).layer egressSlot).started fallbackRing .running))).setLayer
      (i := egressSlot) (l := ((s.played egressSlot).layer egressSlot).relit)
      (by rw [State.setLayer_layer_same]; exact .of_marks nofun)
    rw [State.setLayer_setLayer] at restarted
    exact restarted.evalFloor

theorem tick (h : P s) (order : List Nat) : P (s.tick order) := by
  by_cases awake : s.power.part = .awake
  · rw [State.tick_awake awake]
    have ticked : P s.ticked := law.calm (Calm.refl s).ticked h
    have handled : P (s.ticked.handleLayers order) :=
      State.handleLayers_keeps (P := P) (fun t i ht => law.handleSlot ht i) ticked order
    exact law.calm (Calm.refl _).settle handled
  · rcases State.tick_asleep awake order with e | e <;> rw [e]
    · exact h
    · refine law.calm (Calm.same (Calm.refl s) ?_) h
      unfold Arbiter.tickEgress
      split <;> rfl

theorem startLayer (h : P s) (p : List Byte) : P (startLayer p s).state := by
  rcases startLayer_cases p s with ⟨-, -, e, -⟩ | ⟨_, i, r, -, -, -, -, fields, -, free, -, e⟩ <;> rw [e]
  · exact h
  · exact law.startRing h (.fields fields free i)

theorem startScene (h : P s) (p : List Byte) : P (startScene p s).state := by
  rcases startScene_cases p s with ⟨-, -, e, -⟩ | ⟨i, c, -, -, -, found, -, free, -, e⟩ <;> rw [e]
  · exact h
  · exact law.startRing h (.scene found free (fun _ _ => rfl) _ _)

theorem raiseAlert (h : P s) (n : Nat) (exclusive : Bool) : P (s.raiseAlert n exclusive).state := by
  rcases s.raiseAlert_cases n exclusive with ⟨-, -, e, -⟩ | ⟨c, -, -, -, e⟩ | ⟨c, found, -, free, e⟩ <;> rw [e]
  · exact h
  · exact law.calm ((Calm.refl s).setLayer (.of_marks id)) h
  · have latched : Calm s (s.setLayer alertSlot { s.layer alertSlot with latch := true }) :=
      (Calm.refl s).setLayer (.of_marks id)
    exact law.startRing (law.calm latched h) (State.MayStart.calm (.scene found free (fun _ _ => rfl) _ _) latched)

theorem raiseAlertRequest (h : P s) (p : List Byte) : P (Machine.raiseAlert p s).state := by
  rcases raiseAlert_cases p s with ⟨-, -, e, -⟩ | ⟨exclusive, -, -, e⟩ <;> rw [e]
  · exact h
  · exact law.raiseAlert h _ _

theorem act (h : P s) (t : Trigger) : P (s.act t).1 := by
  rcases s.act_cases t with e | ⟨i, c, -, -, found, e | e⟩ | ⟨i, -, -, e⟩ | e | ⟨i, atEnd, -, e⟩ <;> rw [e]
  · exact h
  · rcases s.triggerStart_cases i c (c.resolve t.level) with e | ⟨-, free, -, e⟩ <;> rw [e]
    · exact h
    · exact law.startRing h (.scene found free (fun _ _ => rfl) _ _)
  · rcases s.triggerReplace_cases i c (c.resolve t.level) with e | ⟨free, -, e⟩ <;> rw [e]
    · exact h
    · have ended := (Calm.refl s).replaced i
      exact law.startRing (law.calm ended h)
        (State.MayStart.calm (.scene found free (fun j hj => by simpa using hj) _ _) ended)
  · exact law.calm ((Calm.refl s).finish i) h
  · exact law.raiseAlert h _ _
  · exact law.calm ((Calm.refl s).clearAlert i atEnd) h

theorem vehicleEvent (h : P s) (p : List Byte) : P (vehicleEvent p s).state := by
  rcases vehicleEvent_cases p s with ⟨-, -, e, -⟩ | ⟨k, t, -, e⟩ <;> rw [e]
  · exact h
  · rw [Answer.plain_state]
    split
    · exact law.calm ((Calm.refl _).queueAll _) (law.act h t)
    · exact law.act h t

theorem enterAwake (h : P s) : P s.enterAwake := by
  have awake : P s.awakened := law.calm (Calm.same (Calm.refl s)) h
  rw [State.enterAwake_eq]
  refine law.calm (Calm.same (Calm.refl _) (by simp) (by simp [State.beginPass]) (by simp [State.beginPass]))
    (s := if (s.layer egressSlot).latch then s.awakened.startEgress else s.awakened) ?_
  split
  · exact law.startEgress awake
  · exact awake

/-- A request keeps the law when its owner does. -/
theorem serve {f : LinkFrame} {mine : Bool} {owner : State → Answer} (h : P s)
    (answer : ∀ t, P t → P (owner t).state) : P (s.serve f mine owner) :=
  State.serve_keeps (fun t _ => law.calm (Calm.same (Calm.refl t))) (fun t _ ht => answer t ht) h

/-- A request whose owner leaves rings and cursors keeps the law. -/
theorem serveCalm {f : LinkFrame} {mine : Bool} {owner : State → Answer} (h : P s)
    (answer : ∀ t, Calm t (owner t).state) : P (s.serve f mine owner) :=
  law.serve h fun t ht => law.calm (answer t) ht

theorem exec (c : Instr) (h : P s) : Leaves (exec c s) P := by
  have stands := Calm.refl s
  by_cases acts : actsOnLayers c = false
  · intro t e
    obtain ⟨arb, -, pool, library, -⟩ := exec_sameLayers acts s t e
    exact law.calm (stands.same (by rw [arb]) pool library) h
  cases c with
  | powerOn hi => exact leaves_next.mpr (law.rebooted s hi)
  | startupComplete =>
    refine leaves_next.mpr ?_
    split
    · exact law.calm (Calm.same (Calm.refl _)) (law.enterAwake (law.load h))
    · exact h
  | supplyRemoval => exact leaves_next.mpr (law.calm (Calm.same (Calm.refl _)) (law.rebooted s s.power.plantHigh))
  | tick order => exact leaves_next.mpr (law.tick h order)
  | hushExpiry => exact leaves_next.mpr (by split; exacts [law.calm stands.same h, h])
  | egressLineChange asserted => exact leaves_next.mpr (by split; exacts [h, law.calm stands.same h])
  | debouncedAssertion =>
    refine leaves_next.mpr ?_
    have latched : P s.takeEgressLevel.latchEgress := law.calm stands.latchEgress h
    split
    · refine law.calm (Calm.same (Calm.refl _)) ?_
        (s := if s.awake then s.takeEgressLevel.latchEgress.lightEgress.cancelSleep else s.takeEgressLevel.latchEgress)
      split
      · exact law.calm (Calm.refl _).cancelSleep (law.lightEgress latched)
      · exact latched
    · exact h
  | debouncedDeassertion => exact leaves_next.mpr (by split; exacts [law.calm stands.same h, h])
  | startLayer tag p => exact leaves_next.mpr (law.serve h fun t ht => law.startLayer ht p)
  | startScene tag p => exact leaves_next.mpr (law.serve h fun t ht => law.startScene ht p)
  | stopLayerImmediate tag p => exact leaves_next.mpr (law.serveCalm h fun t => (Calm.refl t).stopLayer p)
  | stopLayerAtEnd tag p => exact leaves_next.mpr (law.serveCalm h fun t => (Calm.refl t).stopLayer p)
  | setLevel tag p => exact leaves_next.mpr (law.serveCalm h fun t => (Calm.refl t).setLevel p)
  | setMaster tag p => exact leaves_next.mpr (law.serveCalm h fun t => (Calm.refl t).setMaster p)
  | hush tag p => exact leaves_next.mpr (law.serveCalm h fun t => (Calm.refl t).hush p)
  | setPolicy tag p => exact leaves_next.mpr (law.serveCalm h fun t => (Calm.refl t).setPolicy p)
  | raiseAlert tag p => exact leaves_next.mpr (law.serve h fun t ht => law.raiseAlertRequest ht p)
  | clearAlertAtEnd tag p => exact leaves_next.mpr (law.serveCalm h fun t => (Calm.refl t).clearAlertRequest p)
  | clearAlertImmediate tag p => exact leaves_next.mpr (law.serveCalm h fun t => (Calm.refl t).clearAlertRequest p)
  | loadCues tag p => exact leaves_next.mpr (law.serveCalm h fun t => (Calm.refl t).loadCues p)
  | putScene tag p => exact leaves_next.mpr (law.serve h fun t ht => law.putScene p ht)
  | putSceneRemove tag p => exact leaves_next.mpr (law.serve h fun t ht => law.putScene p ht)
  | vehicleEvent tag p => exact leaves_next.mpr (law.serve h fun t ht => law.vehicleEvent ht p)
  | putTrigger tag p => exact leaves_next.mpr (law.serveCalm h fun t => (Calm.refl t).putTrigger p)
  | restartTaken =>
    refine leaves_next.mpr ?_
    split
    · exact law.calm (Calm.same (Calm.refl _)) (law.rebooted s s.power.plantHigh)
    · exact h
  | sleep tag p => exact leaves_next.mpr (law.serveCalm h fun t => (Calm.refl t).sleep)
  | dormantEntry => exact leaves_next.mpr (by split; exacts [law.calm stands.same h, h])
  | wakeByLink => exact leaves_next.mpr (by split; exacts [law.calm stands.wake h, h])
  | wakeByEgress => exact leaves_next.mpr (by split; exacts [law.calm stands.wake h, h])
  | _ => exact absurd rfl acts

/-- The queue is not read, so every step keeps the law. -/
theorem step : ∀ s t : State, P s → Machine.step s = .next t → P t :=
  step_keeps (fun s _ => law.calm (Calm.same (Calm.refl s))) fun c _ h => law.exec c h

end RingLaw

end Sys2Proof.Machine

namespace Sys2Proof.Machine

/-! ### The pool keeps its canonical form (R29) -/

/-- A handling keeps the canonical form: it writes the pool by handing cues back alone (R36). -/
theorem Play.handle_pool_wf (e : Play) (i : Slot) (h : e.pool.wf = true) : (e.handle i).1.pool.wf = true := by
  have law : Play.Law i fun d => d.pool.wf = true :=
    { layer := fun _ _ _ _ => id
      handBack := fun d hd => by
        unfold Play.handBack
        dsimp only
        split
        · exact Pool.giveBack_wf _ _ hd
        · exact hd
      starved := fun _ => id }
  exact law.handle h

theorem PoolCanonical.ringLaw : RingLaw PoolCanonical where
  calm := Calm.pool
  started _ _ := id
  played {s i} _ := Play.handle_pool_wf ⟨s.layer i, s.pool, s.link⟩ i
  load {s} _ := State.loadLibrary_pool_wf s (s.store.goodLibrary.getD [])
  putScene {s} p h := by
    rcases putScene_cases p s with ⟨-, -, e, -⟩ | ⟨-, -, e⟩ | ⟨_, -, -, -, -, e⟩ <;> rw [e] <;> exact h
  rebooted s hi := State.powerOn_pool_wf _ _ _ _ _ _ _

/-- Settles O3: the pool is written by writes of single records alone, and by the load. -/
theorem stepKeepsPoolCanonical : Obligations.StepKeepsPoolCanonical := PoolCanonical.ringLaw.step

end Sys2Proof.Machine

namespace Sys2Proof.Machine

/-! ### The cursor and the loop stack through one handling (R51 to R68) -/

/-- From a cursor inside the ring, `next` is inside the ring too. -/
def Layer.LeadsTo (l : Layer) (next : Nat) : Prop :=
  l.ringBase ≤ l.cueIndex → l.cueIndex < l.ringBase + l.ringLength →
    l.ringBase ≤ next ∧ next < l.ringBase + l.ringLength

theorem Layer.leadsTo_base (l : Layer) : l.LeadsTo l.ringBase := fun _ _ => by omega

theorem Layer.leadsTo_successor (l : Layer) : l.LeadsTo l.successor := fun above below => by
  unfold Layer.successor
  split
  · omega
  · rename_i inside
    simp only [Bool.or_eq_true, decide_eq_true_eq, not_or] at inside
    omega

theorem Layer.leadsTo_jumpTarget (l : Layer) (target : Nat) : l.LeadsTo (l.jumpTarget target) := fun above below => by
  unfold Layer.jumpTarget
  split <;> omega

/-- A LOOP leads to its target or to the successor (R64, R65). -/
theorem Layer.takeLoop_next (l : Layer) (c : Cue) :
    (l.takeLoop c).2 = l.jumpTarget c.loopTarget ∨ (l.takeLoop c).2 = l.successor := by
  unfold Layer.takeLoop
  dsimp only
  split
  · split
    · exact .inr rfl
    · exact .inr rfl
  · split
    · exact .inl rfl
    · exact .inl rfl
    · exact .inr rfl
    · split
      · exact .inl rfl
      · exact .inr rfl

/-- The two records stand at one cue of one ring, with one loop stack and one step count. -/
def Layer.sameCourse (l k : Layer) : Prop :=
  l.ringBase = k.ringBase ∧ l.ringLength = k.ringLength ∧ l.cueIndex = k.cueIndex ∧ l.loopStack = k.loopStack ∧
    l.stepCount = k.stepCount

theorem Layer.sameCourse_of {l k : Layer} (base : l.ringBase = k.ringBase := by rfl)
    (length : l.ringLength = k.ringLength := by rfl) (cursor : l.cueIndex = k.cueIndex := by rfl)
    (stack : l.loopStack = k.loopStack := by rfl) (steps : l.stepCount = k.stepCount := by rfl) : l.sameCourse k :=
  ⟨base, length, cursor, stack, steps⟩

/-- The end of a SWEEP in play moves neither cursor nor stack (R59). -/
theorem Play.endSweep_sameCourse (e : Play) :
    (e.onLayer fun l => if l.sweepActive then l.endSweep else l).layer.sameCourse e.layer := by
  unfold Play.onLayer
  dsimp only
  split <;> exact Layer.sameCourse_of

/-- A law on layer records that outlasts all that a handling does to them. -/
structure CourseLaw (Q : Layer → Prop) : Prop where
  draw : ∀ {l k : Layer}, l.sameCourse k → Q k → Q l
  move : ∀ {l : Layer} {next}, l.LeadsTo next → Q l → Q (l.moveTo next)
  loop : ∀ {l : Layer} c, Q l → Q (l.takeLoop c).1
  empty : ∀ {l : Layer}, Q l → Q { l with loopStack := [] }
  count : ∀ {l : Layer}, l.stepCount < Config.maxSteps → Q l → Q l.countStep
  fresh : ∀ {l : Layer}, Q l → Q l.fresh

namespace CourseLaw

variable {Q : Layer → Prop} (law : CourseLaw Q) {e : Play} {i : Slot}
include law

theorem takeCue {c : Cue} (steps : e.layer.zeroStep i c = true → e.layer.stepCount < Config.maxSteps) (h : Q e.layer) :
    Q (e.takeCue i c).1.layer := by
  have begun : Q (if e.layer.zeroStep i c then (e.layer.beginCue c).countStep else e.layer.beginCue c) := by
    have drawn : Q (e.layer.beginCue c) := law.draw Layer.sameCourse_of h
    split
    · exact law.count (steps ‹_›) drawn
    · exact drawn
  unfold Play.takeCue Play.onLayer
  dsimp only
  revert begun
  generalize (if e.layer.zeroStep i c then (e.layer.beginCue c).countStep else e.layer.beginCue c) = b
  intro begun
  have next := b.leadsTo_successor
  cases c.kind with
  | set => exact law.move (l := b.show) next (law.draw Layer.sameCourse_of begun)
  | fade =>
    dsimp only
    split
    · exact law.move (l := b.show) next (law.draw Layer.sameCourse_of begun)
    · exact law.draw Layer.sameCourse_of begun
  | hold =>
    dsimp only
    split
    · exact law.move (l := b.select) next (law.draw Layer.sameCourse_of begun)
    · exact law.draw Layer.sameCourse_of begun
  | sweep =>
    dsimp only
    split
    · exact law.move (l := b.select.endSweep) next (law.draw Layer.sameCourse_of begun)
    · exact law.draw Layer.sameCourse_of begun
  | loop =>
    refine law.move ?_ (law.loop c begun)
    rw [b.takeLoop_layer c]
    rcases b.takeLoop_next c with jump | onward
    · exact jump ▸ b.leadsTo_jumpTarget _
    · exact onward ▸ next
  | end_ =>
    dsimp only
    split
    · exact law.move (l := { b with loopStack := [] }) b.leadsTo_base (law.empty begun)
    · exact begun

theorem due (fuel : Nat) (h : Q e.layer) : Q (Play.due i fuel e).1.layer := by
  induction fuel generalizing e with
  | zero => exact h
  | succ fuel ih =>
    unfold Play.due
    dsimp only
    split
    · exact law.draw Layer.sameCourse_of h
    · split
      · exact h
      · rename_i within
        simp only [Bool.and_eq_true, decide_eq_true_eq, not_and, Nat.not_le] at within
        have taken := law.takeCue within h
        split
        · rename_i done
          rw [done] at taken
          exact ih taken
        · exact taken

theorem advance (h : Q e.layer) : Q (e.advance i).1.layer := by
  have moved : Q (e.onLayer fun l =>
      match l.captured.kind with
      | .fade => l.fadeAt (e.layer.elapsed + 1)
      | _ => { l with elapsed := e.layer.elapsed + 1 }).layer := by
    refine law.draw ?_ h
    unfold Play.onLayer
    dsimp only
    split <;> exact Layer.sameCourse_of
  unfold Play.advance
  dsimp only
  split
  · exact moved
  · exact law.due _ (law.move (Layer.leadsTo_successor _) (law.draw (Play.endSweep_sameCourse _) moved))

theorem handle (h : Q e.layer) : Q (e.handle i).1.layer := by
  have fresh : Q e.layer.fresh := law.fresh h
  unfold Play.handle
  dsimp only
  split
  · exact law.due (e := { e with layer := e.layer.fresh }) _ fresh
  · split
    · exact law.advance (e := { e with layer := e.layer.fresh }) fresh
    · split
      · exact law.due _ (law.move (l := e.layer.fresh) (Layer.leadsTo_successor _) fresh)
      · exact law.draw Layer.sameCourse_of fresh

end CourseLaw

end Sys2Proof.Machine

namespace Sys2Proof.Machine

/-! ### Cursors and rings (R33, R42) -/

/-- The cursor stands inside the ring (R33). -/
def Layer.cursorInside (l : Layer) : Prop := l.ringBase ≤ l.cueIndex ∧ l.cueIndex < l.ringBase + l.ringLength

theorem Layer.cursorInside_courseLaw : CourseLaw Layer.cursorInside where
  draw course h := by
    obtain ⟨base, length, cursor, -, -⟩ := course
    unfold Layer.cursorInside
    rwa [base, length, cursor]
  move next h := next h.1 h.2
  loop {l} c h := by rw [l.takeLoop_layer c]; exact h
  empty h := h
  count _ h := h
  fresh h := h

theorem ringsOverlap_comm (base₁ length₁ base₂ length₂ : Nat) :
    ringsOverlap base₁ length₁ base₂ length₂ = ringsOverlap base₂ length₂ base₁ length₁ := by
  simp only [ringsOverlap, Nat.max_comm base₁, Nat.min_comm (base₁ + length₁)]

/-- What R42 forbids of two layers in play is the same from both sides. -/
theorem Layer.conflicts_comm {l k : Layer} (hk : k.state ≠ .idle) (ownK : k.fallback = false) :
    l.conflicts k.ringBase k.ringLength k.ringMode = true →
      k.conflicts l.ringBase l.ringLength l.ringMode = true := by
  simp only [Layer.conflicts, ownK, Bool.and_eq_true, Bool.or_eq_true, decide_eq_true_eq]
  rintro ⟨⟨-, stream⟩, clash⟩
  exact ⟨⟨⟨hk, rfl⟩, stream.symm⟩, by rwa [ringsOverlap_comm]⟩

/-- No two rings in play that R42 forbids. -/
def State.ringsApart (s : State) : Prop :=
  ∀ i j : Slot, i ≠ j → (s.layer i).state ≠ .idle → (s.layer i).fallback = false →
    (s.layer j).conflicts (s.layer i).ringBase (s.layer i).ringLength (s.layer i).ringMode = false

/-- The rings of `t` are apart where those of `s` are, and no layer is more in play than in `s`. -/
theorem State.ringsApart.of_rings {s t : State} (h : s.ringsApart)
    (idle : ∀ i, (s.layer i).state = .idle → (t.layer i).state = .idle)
    (rings : ∀ i, (t.layer i).ringBase = (s.layer i).ringBase ∧ (t.layer i).ringLength = (s.layer i).ringLength ∧
      (t.layer i).ringMode = (s.layer i).ringMode ∧ (t.layer i).fallback = (s.layer i).fallback) : t.ringsApart := by
  intro i j hij busy own
  obtain ⟨base, length, mode, fallback⟩ := rings i
  have free := h i j hij (fun e => busy (idle i e)) (fallback ▸ own)
  rw [base, length, mode]
  by_contra clash
  obtain ⟨base', length', mode', fallback'⟩ := rings j
  simp only [Layer.conflicts, base', length', mode', fallback', Bool.not_eq_false, Bool.and_eq_true,
    decide_eq_true_eq] at clash
  obtain ⟨⟨⟨busyJ, ownJ⟩, stream⟩, overlap⟩ := clash
  have busyJ' : (s.layer j).state ≠ .idle := fun e => busyJ (idle j e)
  simp [Layer.conflicts, busyJ', ownJ, stream, overlap] at free

/-- A start that may be leaves the rings apart: no other ring forbids it, and the ban is the same from both sides. -/
theorem State.ringsApart.started {s : State} (h : s.ringsApart) {i : Slot} {r : RingStart} (k : LayerState)
    (may : s.MayStart i r) : (s.setLayer i ((s.layer i).started r k)).ringsApart := by
  have free : r.fallback = false → ∀ j, j ≠ i → (s.layer j).conflicts r.base r.length r.mode = false := fun own => by
    rcases may with rfl | ⟨-, free, -⟩
    · cases own
    · exact free
  intro a b hab busy own
  rw [State.setLayer_layer] at busy own
  rw [State.setLayer_layer, State.setLayer_layer]
  by_cases ha : a = i
  · subst ha
    rw [if_pos rfl] at busy own
    rw [if_pos rfl, if_neg hab.symm]
    exact free own b hab.symm
  · rw [if_neg ha] at busy own
    rw [if_neg ha]
    by_cases hb : b = i
    · rw [if_pos hb, ← Bool.not_eq_true]
      intro clash
      have own' : r.fallback = false := by
        simp only [Layer.conflicts, Bool.and_eq_true, Bool.not_eq_true'] at clash
        exact clash.1.1.2
      have clash' := Layer.conflicts_comm busy own clash
      rw [show (s.layer a).conflicts ((s.layer i).started r k).ringBase ((s.layer i).started r k).ringLength
        ((s.layer i).started r k).ringMode = false from free own' a ha] at clash'
      cases clash'
    · rw [if_neg hb]
      exact h a b hab busy own

theorem Scene.inBounds_iff {c : Scene} :
    c.inBounds = true ↔
      c.base < 2048 ∧ 1 ≤ c.length ∧ c.length ≤ 256 ∧ c.base + c.length ≤ 2048 ∧ c.level ≤ 7 := by
  simp only [Scene.inBounds, Bool.and_eq_true, decide_eq_true_eq, and_assoc]
  exact Iff.rfl

/-- A started layer stands inside its ring. -/
theorem State.MayStart.inRing {s : State} (bounds : LibraryInBounds s) {i : Slot} {r : RingStart} (h : s.MayStart i r)
    (l : Layer) (k : LayerState) : (l.started r k).inRing := by
  intro _
  show r.base ≤ r.base + r.offset ∧ r.base + r.offset < r.base + r.length ∧
    (r.fallback = true ∨ r.base + r.length ≤ Config.poolSize)
  rcases h with rfl | ⟨-, -, ⟨offset, bound⟩ | ⟨c, hc, base, length, offset⟩⟩
  · simp [fallbackRing]
  · exact ⟨by omega, by omega, .inr bound⟩
  · obtain ⟨-, positive, -, bound, -⟩ := Scene.inBounds_iff.mp (bounds c hc)
    exact ⟨by omega, by omega, .inr (by rw [base, length]; exact bound)⟩

theorem Layer.inRing.follows {l k : Layer} (h : k.inRing) (f : l.Follows k) : l.inRing := by
  intro busy
  rw [f.base, f.length, f.cursor, f.fallback]
  exact h fun idle => busy (f.idle idle)

/-- The records of the library after PUT SCENE are in bounds (R46). -/
theorem LibraryInBounds.putScene {s : State} (h : LibraryInBounds s) (p : List Byte) :
    LibraryInBounds (Machine.putScene p s).state := by
  rcases putScene_cases p s with ⟨-, -, e, -⟩ | ⟨-, -, e⟩ | ⟨c, -, -, hc, -, e⟩ <;> rw [e]
  · exact h
  · exact fun d hd => h d (List.mem_of_mem_filter hd)
  · intro d hd
    rcases mem_insertScene hd with rfl | hd
    · exact hc
    · exact h d hd

theorem putScene_layer (p : List Byte) (s : State) (i : Slot) : (Machine.putScene p s).state.layer i = s.layer i := by
  rcases putScene_cases p s with ⟨-, -, e, -⟩ | ⟨-, -, e⟩ | ⟨_, -, -, -, -, e⟩ <;> rw [e] <;> rfl

/-- The law of rings reads the layers' rings, cursors and fallback marks, and which are IDLE. -/
theorem RingsHold.of_layers {s t : State} (h : RingsHold s) (layers : ∀ i, t.layer i = s.layer i)
    (bounds : LibraryInBounds t) : RingsHold t := by
  obtain ⟨inside, apart, -⟩ := h
  exact ⟨fun i => by rw [layers i]; exact inside i, fun i j => by rw [layers i, layers j]; exact apart i j, bounds⟩

theorem RingsHold.played {s : State} (h : RingsHold s) {i : Slot} (playing : (s.layer i).state.playing = true) :
    RingsHold (s.played i) := by
  obtain ⟨inside, apart, bounds⟩ := h
  obtain ⟨setup, plays⟩ := s.played_layer_same i playing
  obtain ⟨-, -, -, base, length, mode, fallback, -⟩ := Layer.fields_of_setup setup
  obtain ⟨busy, -, -⟩ := LayerState.ne_of_playing playing
  refine ⟨fun j => ?_, State.ringsApart.of_rings apart (fun j idle => ?_) fun j => ?_, bounds⟩
  · by_cases hj : j = i
    · subst hj
      obtain ⟨low, high, place⟩ := inside j busy
      have cursor : ((s.played j).layer j).cursorInside := by
        rw [show (s.played j).layer j = (Play.handle ⟨s.layer j, s.pool, s.link⟩ j).1.layer from
          State.setLayer_layer_same _ _ _]
        exact Layer.cursorInside_courseLaw.handle (e := ⟨s.layer j, s.pool, s.link⟩) ⟨low, high⟩
      refine fun _ => ⟨cursor.1, cursor.2, ?_⟩
      rwa [base, length, fallback]
    · rw [s.played_layer_other hj]
      exact inside j
  · by_cases hj : j = i
    · subst hj
      exact absurd idle busy
    · rw [s.played_layer_other hj]
      exact idle
  · by_cases hj : j = i
    · subst hj
      exact ⟨base, length, mode, fallback⟩
    · rw [s.played_layer_other hj]
      exact ⟨rfl, rfl, rfl, rfl⟩

theorem RingsHold.ringLaw : RingLaw RingsHold where
  calm {s t} calm := fun ⟨inside, apart, bounds⟩ =>
    ⟨fun i => (inside i).follows (calm.layers i),
      State.ringsApart.of_rings apart (fun i => (calm.layers i).idle)
        fun i => ⟨(calm.layers i).base, (calm.layers i).length, (calm.layers i).mode, (calm.layers i).fallback⟩,
      by rwa [LibraryInBounds, calm.library]⟩
  started {s i r} k may := fun ⟨inside, apart, bounds⟩ => by
    refine ⟨fun j => ?_, State.ringsApart.started apart k may, bounds⟩
    rw [State.setLayer_layer]
    split
    · exact may.inRing bounds _ _
    · exact inside j
  played playing h := h.played playing
  load {s} h := h.of_layers (fun _ => rfl) (LibraryInBounds.loadLibrary s (s.store.goodLibrary.getD []))
  putScene {s} p h := h.of_layers (putScene_layer p s) (h.2.2.putScene p)
  rebooted s hi := ringsHold_reset.of_layers (fun i => by rw [State.rebooted_layer, State.reset_layer])
    fun c (hc : c ∈ []) => (List.not_mem_nil hc).elim

/-- Settles O7: cursors move inside their rings, and only a start that passes the checks of R42 brings a ring into play. -/
theorem stepKeepsRings : Obligations.StepKeepsRings := RingsHold.ringLaw.step

end Sys2Proof.Machine

namespace Sys2Proof.Machine

/-! ### The working library as a sorted list (R45 to R47) -/

/-- Adding or replacing a record lists its id and the ids there were. -/
theorem insertScene_ids {library : List Scene} {c : Scene} {n : Nat} (h : n ∈ (insertScene library c).map (·.id)) :
    n = c.id ∨ n ∈ library.map (·.id) := by
  obtain ⟨d, hd, rfl⟩ := List.mem_map.mp h
  exact (mem_insertScene hd).imp (congrArg Scene.id) fun old => List.mem_map.mpr ⟨d, old, rfl⟩

/-- Adding or replacing a record keeps the ids ascending (log 34). -/
theorem insertScene_sorted {library : List Scene} (c : Scene) (h : (library.map (·.id)).Pairwise (· < ·)) :
    ((insertScene library c).map (·.id)).Pairwise (· < ·) := by
  induction library with
  | nil => simp [insertScene]
  | cons d rest ih =>
    obtain ⟨least, sorted⟩ := List.pairwise_cons.mp h
    unfold insertScene
    split_ifs with below same
    · refine List.pairwise_cons.mpr ⟨fun n hn => ?_, h⟩
      rcases List.mem_cons.mp hn with rfl | hn
      · exact below
      · exact Nat.lt_trans below (least n hn)
    · exact List.pairwise_cons.mpr ⟨fun n hn => same.trans_lt (least n hn), sorted⟩
    · refine List.pairwise_cons.mpr ⟨fun n hn => ?_, ih sorted⟩
      rcases insertScene_ids hn with rfl | hn
      · show d.id < c.id
        omega
      · exact least n hn

theorem insertScene_length_le (library : List Scene) (c : Scene) :
    (insertScene library c).length ≤ library.length + 1 := by
  induction library with
  | nil => exact Nat.le_refl _
  | cons d rest ih =>
    unfold insertScene
    split_ifs
    · exact Nat.le_refl _
    · exact Nat.le_succ _
    · exact Nat.succ_le_succ ih

/-- Replacing a record of a sorted library adds none. -/
theorem insertScene_length_of_mem {library : List Scene} {c : Scene} (h : (library.map (·.id)).Pairwise (· < ·))
    (known : c.id ∈ library.map (·.id)) : (insertScene library c).length = library.length := by
  induction library with
  | nil => cases known
  | cons d rest ih =>
    obtain ⟨least, sorted⟩ := List.pairwise_cons.mp h
    unfold insertScene
    rcases List.mem_cons.mp known with same | later
    · rw [if_neg (Nat.not_lt.mpr (Nat.le_of_eq same.symm)), if_pos same]
      rfl
    · have above : d.id < c.id := least _ later
      rw [if_neg (Nat.lt_asymm above), if_neg (Nat.ne_of_gt above), List.length_cons, ih sorted later, List.length_cons]

theorem LibraryHolds.putScene {s : State} (h : LibraryHolds s) (p : List Byte) :
    LibraryHolds (Machine.putScene p s).state := by
  obtain ⟨room, sorted, bounds⟩ := h
  have bounds' := bounds.putScene p
  rcases putScene_cases p s with ⟨-, -, e, -⟩ | ⟨-, -, e⟩ | ⟨c, -, -, -, place, e⟩ <;> rw [e] at bounds' ⊢
  · exact ⟨room, sorted, bounds'⟩
  · exact ⟨(List.length_filter_le _ _).trans room, sorted.sublist (List.filter_sublist.map _), bounds'⟩
  · refine ⟨?_, insertScene_sorted c sorted, bounds'⟩
    show (insertScene s.library c).length ≤ Config.maxScenes
    rcases place with known | free
    · obtain ⟨d, found⟩ := Option.isSome_iff_exists.mp known
      obtain ⟨held, same⟩ := findScene_mem found
      rw [insertScene_length_of_mem sorted (same ▸ List.mem_map.mpr ⟨d, held, rfl⟩)]
      exact room
    · exact (insertScene_length_le _ _).trans free

/-- The library that the scenes of a list fill, from `library` on (R199). -/
def fillLibrary (library : List Scene) (l : List StoredScene) : List Scene :=
  l.foldl (fun library c => insertScene library c.scene) library

theorem fillLibrary_sorted {library : List Scene} (l : List StoredScene)
    (h : (library.map (·.id)).Pairwise (· < ·)) : ((fillLibrary library l).map (·.id)).Pairwise (· < ·) :=
  List.foldlRecOn (motive := fun library : List Scene => (library.map (·.id)).Pairwise (· < ·)) _ _ h
    fun _ hl c _ => insertScene_sorted c.scene hl

theorem fillLibrary_length_le (library : List Scene) (l : List StoredScene) :
    (fillLibrary library l).length ≤ library.length + l.length := by
  induction l generalizing library with
  | nil => exact Nat.le_refl _
  | cons c l ih =>
    have filled := ih (insertScene library c.scene)
    have one := insertScene_length_le library c.scene
    rw [List.length_cons]
    exact filled.trans (by omega)

/-- The records that pass are among those stored. -/
theorem passing_sublist (l : List StoredScene) (seen : List Nat) : (passing l seen).Sublist l := by
  induction l generalizing seen with
  | nil => exact List.Sublist.refl _
  | cons c rest ih =>
    unfold passing
    split
    · exact (ih _).cons_cons c
    · exact (ih _).cons c

theorem State.load_library (s : State) :
    s.load.library = fillLibrary [] (passing (s.store.goodLibrary.getD []) []) := rfl

/-- A good library region holds no more records than the working library takes (R194, R45). -/
theorem Store.goodLibrary_length_le (k : Store) : (k.goodLibrary.getD []).length ≤ Config.maxScenes := by
  cases good : k.goodLibrary with
  | none => exact Nat.zero_le _
  | some l =>
    have whole := (Option.filter_eq_some_iff.mp good).2
    simp only [libraryWhole, Bool.and_eq_true, decide_eq_true_eq] at whole
    exact whole.1.1

theorem LibraryHolds.load (s : State) : LibraryHolds s.load := by
  refine ⟨?_, ?_, LibraryInBounds.loadLibrary s (s.store.goodLibrary.getD [])⟩ <;> rw [State.load_library]
  · exact (fillLibrary_length_le _ _).trans (by
      simpa using (passing_sublist _ _).length_le.trans s.store.goodLibrary_length_le)
  · exact fillLibrary_sorted _ List.Pairwise.nil

theorem LibraryHolds.congr {s t : State} (h : LibraryHolds s) (library : t.library = s.library) : LibraryHolds t := by
  rwa [LibraryHolds, LibraryInBounds, library]

theorem LibraryHolds.ringLaw : RingLaw LibraryHolds where
  calm calm h := h.congr calm.library
  started _ _ h := h.congr rfl
  played _ h := h.congr rfl
  load {s} _ := LibraryHolds.load s
  putScene p h := h.putScene p
  rebooted s hi := by simp [LibraryHolds, LibraryInBounds, State.rebooted, State.powerOn]

/-! ### Loop stacks and step counts (R63, R68) -/

/-- The loop stack and the step count of the layer are in their bounds (R63, R68). -/
def Layer.stackHolds (l : Layer) : Prop :=
  l.loopStack.length ≤ Config.maxLoops ∧ (l.loopStack.map (·.index)).Nodup ∧ l.stepCount ≤ Config.maxSteps

/-- A LOOP takes entries off the stack, or pushes one of its own where none is and room is left (R64, R65). -/
theorem Layer.takeLoop_indices (l : Layer) (c : Cue) :
    ((l.takeLoop c).1.loopStack.map (·.index)).Sublist (l.loopStack.map (·.index)) ∨
      (l.loopStack.length < Config.maxLoops ∧ l.cueIndex ∉ l.loopStack.map (·.index) ∧
        (l.takeLoop c).1.loopStack.map (·.index) = l.cueIndex :: l.loopStack.map (·.index)) := by
  have kept : (l.loopStack.dropWhile (·.index ≠ l.cueIndex)).Sublist l.loopStack := List.dropWhile_sublist _
  unfold Layer.takeLoop
  dsimp only
  split
  · split
    · rename_i e
      rw [e] at kept
      exact .inl ((List.sublist_of_cons_sublist kept).map _)
    · exact .inl (List.Sublist.refl _)
  · split
    · exact .inl (kept.map _)
    · rename_i e
      rw [e] at kept
      exact .inl (kept.map (·.index))
    · rename_i e
      rw [e] at kept
      exact .inl ((List.sublist_of_cons_sublist kept).map _)
    · rename_i absent
      split
      · refine .inr ⟨‹_›, fun held => ?_, rfl⟩
        obtain ⟨e, he, index⟩ := List.mem_map.mp held
        simpa [index] using List.dropWhile_eq_nil_iff.mp absent e he
      · exact .inl (List.Sublist.refl _)

theorem Layer.stackHolds_courseLaw : CourseLaw Layer.stackHolds where
  draw course h := by
    obtain ⟨-, -, -, stack, steps⟩ := course
    unfold Layer.stackHolds
    rwa [stack, steps]
  move _ h := h
  loop {l} c h := by
    obtain ⟨room, once, steps⟩ := h
    have steps' : (l.takeLoop c).1.stepCount ≤ Config.maxSteps := by rwa [l.takeLoop_layer c]
    rcases l.takeLoop_indices c with sub | ⟨free, absent, pushed⟩
    · refine ⟨?_, once.sublist sub, steps'⟩
      have shorter := sub.length_le
      simp only [List.length_map] at shorter
      exact shorter.trans room
    · refine ⟨?_, pushed ▸ List.nodup_cons.mpr ⟨absent, once⟩, steps'⟩
      have longer := congrArg List.length pushed
      simp only [List.length_map, List.length_cons] at longer
      omega
  empty h := ⟨Nat.zero_le _, List.nodup_nil, h.2.2⟩
  count below h := ⟨h.1, h.2.1, below⟩
  fresh h := ⟨h.1, h.2.1, Nat.zero_le _⟩

theorem Layer.stackHolds.follows {l k : Layer} (h : k.stackHolds) (f : l.Follows k) : l.stackHolds := by
  obtain ⟨room, once, steps⟩ := h
  unfold Layer.stackHolds
  rw [f.steps]
  rcases f.stack with e | e <;> rw [e]
  · exact ⟨room, once, steps⟩
  · exact ⟨Nat.zero_le _, List.nodup_nil, steps⟩

theorem stacksHold_iff {s : State} : StacksHold s ↔ ∀ i, (s.layer i).stackHolds := Iff.rfl

theorem StacksHold.of_layers {s t : State} (h : StacksHold s) (layers : ∀ i, t.layer i = s.layer i) : StacksHold t :=
  fun i => by rw [layers i]; exact h i

theorem StacksHold.setLayer {s : State} (h : StacksHold s) {i : Slot} {l : Layer} (hl : l.stackHolds) :
    StacksHold (s.setLayer i l) := stacksHold_iff.mpr fun j => by
  rw [State.setLayer_layer]
  split
  · exact hl
  · exact h j

theorem StacksHold.ringLaw : RingLaw StacksHold where
  calm calm h := stacksHold_iff.mpr fun i => Layer.stackHolds.follows (h i) (calm.layers i)
  started {s i r} _ _ h := h.setLayer ⟨Nat.zero_le _, List.nodup_nil, (h i).2.2⟩
  played {s i} _ h :=
    (h.setLayer (Layer.stackHolds_courseLaw.handle (e := ⟨s.layer i, s.pool, s.link⟩) (h i))).of_layers fun _ => rfl
  load h := h.of_layers fun _ => rfl
  putScene {s} p h := h.of_layers (putScene_layer p s)
  rebooted s hi := stacksHold_reset.of_layers fun i => by rw [State.rebooted_layer, State.reset_layer]

/-- Settles O12: PUT SCENE and the load keep the library sorted and within its room, and a LOOP pushes only an entry of
its own onto a stack with room. -/
theorem stepKeepsLibraryAndStacks : Obligations.StepKeepsLibraryAndStacks := fun s t e =>
  ⟨fun h => LibraryHolds.ringLaw.step s t h e, fun h => StacksHold.ringLaw.step s t h e⟩

end Sys2Proof.Machine

namespace Sys2Proof.Machine

/-! ### Which stored scenes pass (R45, R199) -/

/-- The record at place `k` of `l` passes behind records with the ids `seen`. -/
def passesAfter (seen : List Nat) (l : List StoredScene) (k : Nat) (c : StoredScene) : Prop :=
  passesAt l k c ∧ c.scene.id ∉ seen

@[simp] theorem passesAfter_nil {l : List StoredScene} {k : Nat} {c : StoredScene} :
    passesAfter [] l k c ↔ passesAt l k c := by simp [passesAfter]

theorem not_passesAfter_nil {seen : List Nat} {k : Nat} {c : StoredScene} : ¬passesAfter seen [] k c := by
  simp [passesAfter, passesAt]

/-- The first stored record passes by the check that the load makes of it. -/
theorem passesAfter_zero {seen : List Nat} {a c : StoredScene} {rest : List StoredScene} :
    passesAfter seen (a :: rest) 0 c ↔
      c = a ∧ (a.scene.id ≠ 0 && !seen.contains a.scene.id && a.scene.inBounds) = true := by
  simp only [passesAfter, passesAt, List.getElem?_cons_zero, Option.some.injEq, Nat.not_lt_zero, false_implies,
    implies_true, true_and, Bool.and_eq_true, decide_eq_true_eq, Bool.not_eq_true', List.contains_eq_mem,
    decide_eq_false_iff_not, Scene.inBounds_iff]
  constructor
  · rintro ⟨⟨rfl, nonzero, bounds⟩, unseen⟩
    exact ⟨rfl, ⟨nonzero, unseen⟩, bounds⟩
  · rintro ⟨rfl, ⟨nonzero, unseen⟩, bounds⟩
    exact ⟨⟨rfl, nonzero, bounds⟩, unseen⟩

/-- A later record passes among the rest, behind the first record too. -/
theorem passesAfter_succ {seen : List Nat} {a c : StoredScene} {rest : List StoredScene} {k : Nat} :
    passesAfter seen (a :: rest) (k + 1) c ↔ passesAfter (a.scene.id :: seen) rest k c := by
  simp only [passesAfter, passesAt, List.getElem?_cons_succ, List.mem_cons, not_or]
  constructor
  · rintro ⟨⟨place, nonzero, new, bounds⟩, unseen⟩
    exact ⟨⟨place, nonzero, fun j d hj hd => new (j + 1) d (by omega) (by simpa using hd), bounds⟩,
      fun e => new 0 a (by omega) (by simp) e.symm, unseen⟩
  · rintro ⟨⟨place, nonzero, new, bounds⟩, first, unseen⟩
    refine ⟨⟨place, nonzero, fun j d hj hd => ?_, bounds⟩, unseen⟩
    cases j with
    | zero =>
      obtain rfl : a = d := by simpa using hd
      exact Ne.symm first
    | succ j => exact new j d (by omega) (by simpa using hd)

theorem passing_cons (a : StoredScene) (rest : List StoredScene) (seen : List Nat) :
    passing (a :: rest) seen =
      if a.scene.id ≠ 0 && !seen.contains a.scene.id && a.scene.inBounds then a :: passing rest (a.scene.id :: seen)
      else passing rest (a.scene.id :: seen) := rfl

/-- The load takes the records that pass. -/
theorem mem_passing {l : List StoredScene} {seen : List Nat} {c : StoredScene} :
    c ∈ passing l seen ↔ ∃ k, passesAfter seen l k c := by
  induction l generalizing seen with
  | nil => simp [passing, not_passesAfter_nil]
  | cons a rest ih =>
    rw [← Nat.or_exists_add_one, passesAfter_zero]
    simp only [passesAfter_succ, ← ih]
    rw [passing_cons]
    split
    · rename_i good
      rw [List.mem_cons, and_iff_left good]
    · rename_i bad
      rw [iff_or_self]
      exact fun ⟨_, good⟩ => absurd good bad

/-- The record of place `k` is taken before those of later places. -/
theorem passing_split {l : List StoredScene} {seen : List Nat} {k : Nat} {c : StoredScene} (h : passesAfter seen l k c) :
    ∃ before after, passing l seen = before ++ c :: after ∧ ∀ d ∈ after, ∃ j, k < j ∧ passesAfter seen l j d := by
  induction l generalizing seen k with
  | nil => exact absurd h not_passesAfter_nil
  | cons a rest ih =>
    cases k with
    | zero =>
      obtain ⟨rfl, good⟩ := passesAfter_zero.mp h
      refine ⟨[], passing rest (c.scene.id :: seen), by rw [passing_cons, if_pos good, List.nil_append], fun d hd => ?_⟩
      obtain ⟨j, later⟩ := mem_passing.mp hd
      exact ⟨j + 1, by omega, passesAfter_succ.mpr later⟩
    | succ k =>
      obtain ⟨before, after, split, places⟩ := ih (passesAfter_succ.mp h)
      have later : ∀ d ∈ after, ∃ j, k + 1 < j ∧ passesAfter seen (a :: rest) j d := fun d hd => by
        obtain ⟨j, hj, place⟩ := places d hd
        exact ⟨j + 1, by omega, passesAfter_succ.mpr place⟩
      rw [passing_cons, split]
      split
      · exact ⟨a :: before, after, rfl, later⟩
      · exact ⟨before, after, rfl, later⟩

/-- No two records that pass have one id. -/
theorem passing_ids_nodup (l : List StoredScene) (seen : List Nat) : ((passing l seen).map (·.scene.id)).Nodup := by
  induction l generalizing seen with
  | nil => exact List.nodup_nil
  | cons a rest ih =>
    rw [passing_cons]
    split
    · refine List.nodup_cons.mpr ⟨fun twice => ?_, ih _⟩
      obtain ⟨c, hc, same⟩ := List.mem_map.mp twice
      obtain ⟨k, -, unseen⟩ := mem_passing.mp hc
      exact unseen (same ▸ List.mem_cons_self ..)
    · exact ih _

/-! ### What the load fills (R199, R29) -/

/-- Adding a record of a new id adds it and no other. -/
theorem mem_insertScene_new {library : List Scene} {c e : Scene} (new : c.id ∉ library.map (·.id)) :
    e ∈ insertScene library c ↔ e = c ∨ e ∈ library := by
  induction library with
  | nil => simp [insertScene]
  | cons d rest ih =>
    simp only [List.map_cons, List.mem_cons, not_or] at new
    unfold insertScene
    rw [if_neg new.1]
    split
    · simp
    · simp only [List.mem_cons, ih new.2]
      tauto

/-- Scenes of new and distinct ids fill the library with themselves. -/
theorem mem_fillLibrary {library : List Scene} {l : List StoredScene} {r : Scene}
    (new : ∀ c ∈ l, c.scene.id ∉ library.map (·.id)) (distinct : (l.map (·.scene.id)).Nodup) :
    r ∈ fillLibrary library l ↔ r ∈ library ∨ ∃ c ∈ l, c.scene = r := by
  induction l generalizing library with
  | nil => simp [fillLibrary]
  | cons c l ih =>
    obtain ⟨once, distinct⟩ := List.nodup_cons.mp distinct
    have first := new c (List.mem_cons_self ..)
    have stillNew : ∀ d ∈ l, d.scene.id ∉ (insertScene library c.scene).map (·.id) := fun d hd held => by
      rcases insertScene_ids held with same | old
      · exact once (List.mem_map.mpr ⟨d, hd, same⟩)
      · exact new d (List.mem_cons_of_mem _ hd) old
    rw [show fillLibrary library (c :: l) = fillLibrary (insertScene library c.scene) l from rfl, ih stillNew distinct,
      mem_insertScene_new first, List.exists_mem_cons_iff, eq_comm (a := r)]
    tauto

/-- The pool that the images of a list fill, from `pool` on, later images over earlier ones (R199). -/
def fillPool (pool : Pool) (l : List StoredScene) : Pool :=
  l.foldl (fun pool c => Pool.writeAll pool c.scene.base (c.image.map Cue.stored)) pool

/-- An index outside the ring of a stored scene. -/
def StoredScene.misses (c : StoredScene) (i : Nat) : Prop := i < c.scene.base ∨ c.scene.base + c.scene.length ≤ i

/-- An index that no image covers keeps its record. -/
theorem fillPool_read_missed {pool : Pool} {l : List StoredScene} {i : Nat}
    (whole : ∀ c ∈ l, c.image.length = c.scene.length) (missed : ∀ c ∈ l, c.misses i) :
    (fillPool pool l).read i = pool.read i := by
  induction l generalizing pool with
  | nil => rfl
  | cons c l ih =>
    rw [List.forall_mem_cons] at whole missed
    refine (ih whole.2 missed.2).trans (Pool.read_writeAll_other _ ?_)
    rw [List.length_map, whole.1]
    exact missed.1

theorem fillPool_wf {pool : Pool} (l : List StoredScene) (h : pool.wf = true) : (fillPool pool l).wf = true :=
  Pool.foldl_wf _ (fun _ _ hp => Pool.writeAll_wf _ _ hp) l pool h

/-- An index has the record of the last image that covers it (R199). -/
theorem fillPool_read_last {pool : Pool} (canon : pool.wf = true) {before after : List StoredScene} {c : StoredScene}
    {n : Nat} {x : Cue} (held : c.image[n]? = some x) (whole : ∀ d ∈ after, d.image.length = d.scene.length)
    (missed : ∀ d ∈ after, d.misses (c.scene.base + n)) :
    (fillPool pool (before ++ c :: after)).read (c.scene.base + n) = x.stored := by
  obtain ⟨inside, rfl⟩ := List.getElem?_eq_some_iff.mp held
  have filled : fillPool pool (before ++ c :: after) =
      fillPool ((fillPool pool before).writeAll c.scene.base (c.image.map Cue.stored)) after := by
    simp [fillPool]
  rw [filled, fillPool_read_missed whole missed,
    Pool.read_writeAll_same (fillPool_wf before canon) (by simpa using inside), List.getElem_map]

/-! ### The start-up with a good library (R194, R196, R199) -/

theorem Store.goodLibrary_of_whole {k : Store} {l : List StoredScene} (region : k.libraryRegion = some l)
    (records : l.length ≤ 32) (cues : (l.map fun c => c.image.length).sum ≤ 1024)
    (whole : ∀ c ∈ l, c.image.length = c.scene.length) : k.goodLibrary = some l := by
  have good : libraryWhole l = true := by
    simp only [libraryWhole, Bool.and_eq_true, decide_eq_true_eq, List.all_eq_true]
    exact ⟨⟨records, cues⟩, whole⟩
  simp [Store.goodLibrary, region, good]

/-- The start-up leaves the library and the pool that the passing records fill. -/
theorem startup_fills {s : State} {l : List StoredScene} (floor : FloorHolds s) (starting : s.power.part = .starting)
    (good : s.store.goodLibrary = some l) :
    ∃ t, exec .startupComplete s = .next t ∧ t.library = fillLibrary [] (passing l []) ∧
      t.pool = fillPool [] (passing l []) := by
  refine ⟨_, execStartupComplete_of_starting starting, ?_, ?_⟩
  · have library : s.load.lit.library = s.load.library := s.load.lit_frame.2.2.2.2.2.2.1
    simp [State.beginPass, library, State.load_library, good]
  · have pool : s.load.lit.pool = s.load.pool := State.lit_pool (s := s.load) (floor.idle_of_starting starting)
    have filled : s.load.pool = fillPool [] (passing (s.store.goodLibrary.getD []) []) := rfl
    simp [State.beginPass, pool, filled, good]

/-- What the passing records of a good library leave of it and of the pool. -/
theorem startup_fills_passing {s : State} {l : List StoredScene} (floor : FloorHolds s)
    (starting : s.power.part = .starting) (region : s.store.libraryRegion = some l) (records : l.length ≤ 32)
    (cues : (l.map fun c => c.image.length).sum ≤ 1024) (whole : ∀ c ∈ l, c.image.length = c.scene.length) :
    ∃ t, exec .startupComplete s = .next t ∧ (t.library.map fun r => r.id).Pairwise (· < ·) ∧
      (∀ r : Scene, r ∈ t.library ↔ ∃ k c, passesAt l k c ∧ c.scene = r) ∧
      (∀ (k : Nat) (c : StoredScene) (n : Nat) (x : Cue), passesAt l k c → c.image[n]? = some x →
        (∀ j d, k < j → passesAt l j d → d.misses (c.scene.base + n)) →
        t.pool.read (c.scene.base + n) = x.stored) ∧
      ∀ i, (∀ k c, passesAt l k c → c.misses i) → t.pool.read i = Cue.empty := by
  have taken : ∀ c, c ∈ passing l [] ↔ ∃ k, passesAt l k c := fun c => by simp [mem_passing]
  have wholePassing : ∀ c ∈ passing l [], c.image.length = c.scene.length := fun c hc =>
    whole c ((passing_sublist l []).mem hc)
  obtain ⟨t, run, library, pool⟩ := startup_fills floor starting (Store.goodLibrary_of_whole region records cues whole)
  refine ⟨t, run, ?_, fun r => ?_, fun k c n x passes held missed => ?_, fun i missed => ?_⟩
  · rw [library]
    exact fillLibrary_sorted _ List.Pairwise.nil
  · rw [library, mem_fillLibrary (by simp) (passing_ids_nodup l [])]
    simp only [taken, List.not_mem_nil, false_or]
    exact ⟨fun ⟨c, ⟨k, hk⟩, e⟩ => ⟨k, c, hk, e⟩, fun ⟨k, c, hk, e⟩ => ⟨c, ⟨k, hk⟩, e⟩⟩
  · obtain ⟨before, after, split, places⟩ := passing_split (passesAfter_nil.mpr passes)
    rw [pool, split]
    rw [split] at wholePassing
    refine fillPool_read_last rfl held (fun d hd => wholePassing d (by simp [hd])) fun d hd => ?_
    obtain ⟨j, later, passesD⟩ := places d hd
    exact missed j d later (passesAfter_nil.mp passesD)
  · rw [pool, fillPool_read_missed wholePassing fun c hc => ?_]
    · rfl
    · obtain ⟨k, passes⟩ := (taken c).mp hc
      exact missed k c passes

/-- The one record of a library passes by its own bounds. -/
theorem passesAt_singleton {c d : StoredScene} {k : Nat} (nonzero : c.scene.id ≠ 0) (bounds : c.scene.inBounds = true) :
    passesAt [c] k d ↔ k = 0 ∧ d = c := by
  rw [← passesAfter_nil]
  cases k with
  | zero => simp [passesAfter_zero, nonzero, bounds]
  | succ k => simp [passesAfter_succ, not_passesAfter_nil]

/-- Settles O25: the load folds the passing records into an empty library and an empty pool, and the first clause is the
second for one record. -/
theorem startupFillsPool : Obligations.StartupFillsPool := by
  refine ⟨fun s c floor starting region nonzero bounds whole => ?_,
    fun s l floor starting region records cues whole => startup_fills_passing floor starting region records cues whole⟩
  have short : c.image.length ≤ 1024 := by
    obtain ⟨-, -, length, -⟩ := Scene.inBounds_iff.mp bounds
    omega
  obtain ⟨t, run, sorted, members, last, empty⟩ := startup_fills_passing floor starting region (by simp) (by simpa using short)
    (by simpa using whole)
  simp only [passesAt_singleton nonzero bounds] at members last empty
  refine ⟨t, run, ?_, fun k inside => ?_, fun i missed => ?_⟩
  · have once : t.library.Nodup := List.Nodup.of_map _ (sorted.imp Nat.ne_of_lt)
    refine List.perm_singleton.mp ((List.perm_ext_iff_of_nodup once (List.nodup_singleton _)).mpr fun r => ?_)
    rw [members r]
    simp [eq_comm]
  · refine last 0 c k c.image[k] ⟨rfl, rfl⟩ (List.getElem?_eq_getElem inside) fun j d later ⟨first, _⟩ => ?_
    omega
  · refine empty i fun k d ⟨_, same⟩ => ?_
    rw [same]
    exact missed

end Sys2Proof.Machine

namespace Sys2Proof.Machine

/-! ### The hand-over of a STREAM ring (R35, R36, R53, R70) -/

/-- A FADE reaches its target at its duration (R57). -/
theorem fadeValue_end (s t : Nat) {d : Nat} (h : 0 < d) : fadeValue s t d d = t := by
  have positive : (0 : Int) < d := by omega
  have rounded : (2 * ((t : Int) - s) * d + d) / (2 * d) = (t : Int) - s := by
    rw [Int.ediv_eq_iff_of_pos (by omega)]
    constructor <;> nlinarith
  unfold fadeValue
  rw [rounded]
  omega

section
variable {e : Play} {i : Slot}

/-- A STREAM cue that is due and not ready starves its layer (R35, R70). -/
theorem Play.due_starves (n : Nat) (streams : e.layer.streams = true) (unready : e.cue.ready = false) :
    Play.due i (n + 1) e = (e.starve, .rests) := by
  simp [Play.due, streams, unready]

/-- The layer whose FADE has reached its target, its cursor at the successor (R57, R53). -/
def Layer.faded (l : Layer) : Layer :=
  { l with stepCount := 0, elapsed := 0, colour := l.captured.colour, opacity := l.captured.opacity,
           cueIndex := l.successor, cueBegun := false }

/-- The last tick of a FADE completes it, and its successor is due (R57, R53). -/
theorem Play.handle_fadeEnds (begun : e.layer.cueBegun = true) (sweep : e.layer.sweepActive = false)
    (kind : e.layer.captured.kind = .fade) (time : e.layer.elapsed + 1 = e.layer.captured.duration) :
    e.handle i =
      Play.due i dueFuel
        { layer := e.layer.faded
          pool := if e.layer.streams then e.pool.giveBack e.layer.cueIndex .done else e.pool
          link := if e.layer.captured.notify then e.link.queue (.cue i e.layer.cueIndex .done) else e.link } := by
  have positive : 0 < e.layer.captured.duration := by omega
  have reached : ∀ a b, fadeValue a b e.layer.captured.duration e.layer.captured.duration = b := fun a b =>
    fadeValue_end a b positive
  simp [Play.handle, Play.onLayer, begun, sweep, positive, Play.advance, kind, time, Layer.fadeAt, reached,
    Play.complete, Play.handBack, Layer.streams, Layer.moveTo, Layer.faded, Layer.successor]

end

section
variable {s : State} {i : Slot} {d : Play}

/-- The tick of a handling that rests, with slot `i` alone in play. -/
theorem State.tick_restsAlone (awake : s.power.part = .awake) (playing : (s.layer i).state.playing = true)
    (others : ∀ j : Slot, j ≠ i → (s.layer j).state.playing = false)
    (h : Play.handle ⟨s.layer i, s.pool, s.ticked.link⟩ i = (d, .rests)) (order : List Nat) :
    s.tick order = ({ s.ticked.setLayer i d.layer with pool := d.pool, link := d.link } : State).settle := by
  have handled : s.ticked.handleSlot i = { s.ticked.setLayer i d.layer with pool := d.pool, link := d.link } :=
    State.handleSlot_rests (by rw [s.ticked_layer]; exact playing) (by rw [s.ticked_layer, s.ticked_pool, h])
  have silent : ∀ j, j ≠ i → (s.ticked.layer j).state.playing = false := fun j hj => by
    rw [s.ticked_layer]; exact others j hj
  rw [State.tick_awake awake, State.handleLayers_alone silent fun j hj => ?_, handled]
  rw [handled]
  exact (congrArg (fun l : Layer => l.state.playing) (s.ticked.setLayer_layer_other _ hj.symm)).trans (silent j hj)

/-- A tick that queues at most the one notice `n`, where `notify`, and then raises a flag. -/
theorem State.notices_of_flagged {t : State} {notify : Bool} {n : Notice} {f : Flag}
    (ht : t.link = ((if notify then s.ticked.link.queue n else s.ticked.link).raise f).startNext) :
    s.notices t notify n := by
  intro busy
  have tx : (if notify then s.ticked.link.queue n else s.ticked.link).tx = s.link.tx := by
    cases notify <;> simp [s.ticked_tx]
  rw [ht, Link.startNext_of_busy (by rw [Link.raise_tx, tx]; exact busy), Link.raise_notices]
  cases notify
  · simp [s.ticked_notices]
  · simp [Link.queue_notices, s.ticked_notices]

end

/-- Settles O29: a cue not ready starves the layer where it stands, and a finished FADE is handed back before. -/
theorem streamHandsCuesOver : Obligations.StreamHandsCuesOver := by
  refine ⟨fun order s i awake playing others begun stream own unready => ?_,
    fun order s i canon awake running others begun sweep kind time stream own moves unready => ?_⟩
  · have starved : Play.handle ⟨s.layer i, s.pool, s.ticked.link⟩ i =
        (Play.starve ⟨(s.layer i).fresh, s.pool, s.ticked.link⟩, .rests) := by
      rw [Play.handle_due begun]
      exact Play.due_starves _ (by simp [Layer.streams, Layer.fresh, stream, own])
        (by rw [Play.cue_of_pool (by exact own)]; exact unready)
    have tick := State.tick_restsAlone awake playing others starved order
    refine ⟨_, exec_tick order s, ?_, ?_, fun running => ?_⟩ <;> rw [tick]
    · rfl
    · rw [State.layer_congr (State.settle_arb _)]
      exact State.setLayer_layer_same _ _ _
    · have entry : (Play.starve ⟨(s.layer i).fresh, s.pool, s.ticked.link⟩).link = s.ticked.link.raise .layerStarved := by
        simp [Play.starve, Layer.fresh, running]
      refine Link.flag_startNext ?_
      show (Play.starve ⟨(s.layer i).fresh, s.pool, s.ticked.link⟩).link.flag .layerStarved ≠ .clear
      rw [entry]
      exact Link.flag_raise_same _ _
  · have streams : (s.layer i).streams = true := by simp [Layer.streams, stream, own]
    have ended := Play.handle_fadeEnds (e := ⟨s.layer i, s.pool, s.ticked.link⟩) (i := i) begun sweep kind time
    rw [if_pos streams] at ended
    have starved := ended.trans (Play.due_starves _ streams (by
      rw [Play.cue_of_pool (by exact own)]
      show ((s.pool.giveBack (s.layer i).cueIndex .done).read (s.layer i).successor).ready = false
      rw [Pool.read_giveBack_other _ moves]
      exact unready))
    have tick := State.tick_restsAlone awake (by rw [running]; rfl) others starved order
    have layer : (s.tick order).layer i = { (s.layer i).faded with
        state := .starved, cueBegun := false, elapsed := 0, sweepActive := false } := by
      rw [tick, State.layer_congr (State.settle_arb _)]
      exact State.setLayer_layer_same _ _ _
    have pool : (s.tick order).pool = s.pool.giveBack (s.layer i).cueIndex .done := by rw [tick]; rfl
    refine ⟨_, exec_tick order s, ?_, fun k hk => ?_, ?_, ?_, ?_, ?_, State.notices_of_flagged (f := .layerStarved) ?_⟩
    · rw [pool, Pool.read_giveBack_same _ _ canon]
    · rw [pool, Pool.read_giveBack_other _ hk]
    · rw [layer]
    · rw [layer]; rfl
    · rw [layer]; rfl
    · rw [layer]; rfl
    · rw [tick]
      simp [State.settle, Play.starve, Layer.faded, running]

end Sys2Proof.Machine

namespace Sys2Proof.Machine

/-! ### Tables that are read (R48, R122, R172) -/

section
variable {s : State} {p : List Byte}

theorem getScene_of_found {c : Scene} (id : byteAt p 0 ≠ 0) (found : findScene s.library (byteAt p 0) = some c) :
    getScene p s = ⟨s, .ok, sceneData c⟩ := by
  simp [getScene, id, found]

theorem getScene_of_none (id : byteAt p 0 ≠ 0) (none : findScene s.library (byteAt p 0) = none) :
    getScene p s = .plain s .notFound := by
  simp [getScene, id, none]

/-- GET SCENE of id 0 lists the ids in the order of the library (R48). -/
theorem getScene_list (id : byteAt p 0 = 0) :
    getScene p s = ⟨s, .ok, be8 s.library.length ++ (s.library.map (·.id)).flatMap be8⟩ := by
  simp [getScene, id, List.flatMap_map]

theorem getCatalog_of_entry {k : Fin 16} (entry : byteAt p 0 = k.val) :
    getCatalog p s = ⟨s, .ok, be8 k.val ++ catalogToBytes s.dir.catalog[k]⟩ := by
  simp [getCatalog, entry]

theorem getCatalog_beyond (beyond : 15 < byteAt p 0) : getCatalog p s = .plain s .invalid := by
  have none : s.dir.catalog[byteAt p 0]? = none := Vector.getElem?_eq_none (by omega)
  simp [getCatalog, none]

theorem getTrigger_of_entry {k : Fin 24} (entry : byteAt p 0 = k.val) :
    getTrigger p s = ⟨s, .ok, be8 k.val ++ triggerToBytes s.triggers[k]⟩ := by
  simp [getTrigger, entry]

theorem getTrigger_beyond (beyond : 23 < byteAt p 0) : getTrigger p s = .plain s .invalid := by
  have none : s.triggers[byteAt p 0]? = none := Vector.getElem?_eq_none (by omega)
  simp [getTrigger, none]

end

/-- Settles O50: each read answers the bytes of its record over the dispatched state, which has the tables of the state
before. -/
theorem tablesAreRead : Obligations.TablesAreRead := by
  refine ⟨fun tag p s lawful ready length => ⟨fun c id found => ?_, fun id none => ?_, fun id => ?_⟩,
    fun tag p s ready length => ⟨fun beyond => ?_, fun k entry => ?_⟩,
    fun tag p s ready length => ⟨fun beyond => ?_, fun k entry => ?_⟩⟩
  · exact congrArg Host.Outcome.next (State.serve_read ready (by rw [length]; rfl) (getScene_of_found id found))
  · exact congrArg Host.Outcome.next (State.serve_read ready (by rw [length]; rfl) (getScene_of_none id none))
  · obtain ⟨-, sorted, -⟩ := lawful
    exact ⟨_, sorted, List.length_map _, fun k => List.mem_map,
      congrArg Host.Outcome.next (State.serve_read ready (by rw [length]; rfl) (getScene_list id))⟩
  · exact congrArg Host.Outcome.next (State.serve_read ready (by rw [length]; rfl) (getCatalog_beyond beyond))
  · refine congrArg Host.Outcome.next (State.serve_read ready (by rw [length]; rfl) ?_)
    rw [getCatalog_of_entry entry]
    simp only [catalogToBytes, rgb16, ofBool_eq, List.append_assoc, State.takeFrame_dir]
  · exact congrArg Host.Outcome.next (State.serve_read ready (by rw [length]; rfl) (getTrigger_beyond beyond))
  · refine congrArg Host.Outcome.next (State.serve_read ready (by rw [length]; rfl) ?_)
    rw [getTrigger_of_entry entry]
    simp only [triggerToBytes, ofBool_eq, List.append_assoc, State.takeFrame_triggers]

end Sys2Proof.Machine

namespace Sys2Proof.Machine

/-! ### The records of a LOAD CUES payload (R38, R211, R212) -/

/-- The payload is a pool index with 1 to 18 whole records, or has no record count (R38, check 1). -/
theorem recordCount?_eq (p : List Byte) :
    recordCount? p =
      if p.length < 15 ∨ 236 < p.length ∨ (p.length - 2) % 13 ≠ 0 then none else some ((p.length - 2) / 13) := by
  unfold recordCount?
  dsimp only [Config.cueBytes, Config.maxRecords]
  by_cases bad : p.length < 15 ∨ 236 < p.length ∨ (p.length - 2) % 13 ≠ 0
  · rw [if_pos bad]
    split
    · exact if_neg (by omega)
    · rfl
  · rw [if_neg bad, if_pos (by omega)]
    exact if_pos (by omega)

theorem cuesOf_cons (b : List Byte) (bytes : List (List Byte)) :
    cuesOf (b :: bytes) = (cueOfBytes b).bind fun c => (cuesOf bytes).map (c :: ·) := by
  unfold cuesOf
  rw [List.mapM_cons]
  cases cueOfBytes b <;> cases List.mapM cueOfBytes bytes <;> rfl

theorem cuesOf_eq_some {bytes : List (List Byte)} {cues : List Cue} :
    cuesOf bytes = some cues ↔ bytes.map cueOfBytes = cues.map some := by
  induction bytes generalizing cues with
  | nil => cases cues <;> simp [cuesOf]
  | cons b bytes ih =>
    rw [cuesOf_cons]
    cases cues <;> cases h : cueOfBytes b <;> simp [h, ih, and_comm]

theorem cuesOf_eq_none {bytes : List (List Byte)} : cuesOf bytes = none ↔ ∃ b ∈ bytes, cueOfBytes b = none := by
  induction bytes with
  | nil => simp [cuesOf]
  | cons b bytes ih =>
    rw [cuesOf_cons, List.exists_mem_cons_iff, ← ih]
    cases cueOfBytes b <;> simp

theorem cueKind?_eq_none (n : Nat) : cueKind? n = none ↔ 5 < n :=
  match n with
  | 0 | 1 | 2 | 3 | 4 | 5 => by simp [cueKind?]
  | n + 6 => by simp [cueKind?]

/-- A record is none of the six kinds when its kind byte is above 5 (R38, check 3). -/
theorem cueOfBytes_eq_none {p : List Byte} : cueOfBytes p = none ↔ 5 < byteAt p 0 := by
  rw [← cueKind?_eq_none, cueOfBytes, Option.map_eq_none_iff]

theorem byteAt_record (p : List Byte) (j : Nat) : byteAt ((p.drop j).take 13) 0 = byteAt p j := by
  simp [byteAt, List.getD_eq_getElem?_getD, List.getElem?_drop]

/-- Check 3 of R38 over the records of the payload. -/
theorem cuesOf_recordBytes_eq_none {p : List Byte} {n : Nat} :
    cuesOf (recordBytes p n) = none ↔ ∃ k < n, 5 < byteAt p (2 + 13 * k) := by
  simp only [cuesOf_eq_none, recordBytes, List.mem_map, List.mem_range, Config.cueBytes, exists_exists_and_eq_and,
    cueOfBytes_eq_none, byteAt_record]

/-- The records that LOAD CUES reads, one by one (R212). -/
theorem cuesOf_recordBytes {p : List Byte} {n : Nat} {cues : List Cue} (h : cuesOf (recordBytes p n) = some cues) :
    cues.length = n ∧ ∀ k (inside : k < cues.length), some cues[k] = cueOfBytes ((p.drop (2 + 13 * k)).take 13) := by
  have read := cuesOf_eq_some.mp h
  have length : cues.length = n := by simpa [recordBytes] using (congrArg List.length read).symm
  refine ⟨length, fun k inside => ?_⟩
  have record := congrArg (fun l => l[k]?) read
  simpa [recordBytes, Config.cueBytes, length ▸ inside, inside] using record.symm

/-! ### Answers of LOAD CUES and READ CUES (R38 to R41) -/

section
variable {s : State} {p : List Byte}

/-- The status of LOAD CUES is that of the first failing check (R38). -/
theorem loadCues_status (p : List Byte) (s : State) : (loadCues p s).status = s.loadCuesStatus p := by
  unfold loadCues State.loadCuesStatus
  rw [recordCount?_eq]
  by_cases length : p.length < 15 ∨ 236 < p.length ∨ (p.length - 2) % 13 ≠ 0
  · rw [if_pos length, if_pos length]; rfl
  · rw [if_neg length, if_neg length]
    dsimp only
    generalize (p.length - 2) / 13 = n
    by_cases range : 2047 < wordAt p 0 ∨ 2048 < wordAt p 0 + n
    · rw [if_pos (by exact range), if_pos range]; rfl
    · rw [if_neg (by exact range), if_neg range]
      by_cases kind : ∃ k < n, 5 < byteAt p (2 + 13 * k)
      · rw [cuesOf_recordBytes_eq_none.mpr kind, if_pos kind]; rfl
      · rw [if_neg kind]
        cases cues : cuesOf (recordBytes p n) with
        | none => exact absurd (cuesOf_recordBytes_eq_none.mp cues) kind
        | some cues =>
          dsimp only
          simp only [List.any_eq_true, List.mem_range]
          split_ifs <;> rfl

/-- A LOAD CUES that passes every check writes its records (R39). -/
theorem loadCues_writes {n : Nat} (ok : s.loadCuesStatus p = .ok) (count : p.length = 2 + 13 * n) :
    ∃ cues, cuesOf (recordBytes p n) = some cues ∧
      loadCues p s = .plain { s with pool := s.pool.writeAll (wordAt p 0) cues } .ok := by
  rcases loadCues_cases p s with ⟨notOk, -⟩ | ⟨m, cues, length, -, read, -, e⟩
  · exact absurd ((loadCues_status p s).trans ok) notOk
  · rw [recordCount?_eq] at length
    split at length
    · cases length
    · obtain rfl : (p.length - 2) / 13 = m := Option.some.inj length
      rw [show (p.length - 2) / 13 = n by omega] at read
      exact ⟨cues, read, e⟩

/-- The checks of R38 pass for whole records of the six kinds, inside the pool, that the engine does not own. -/
theorem State.loadCuesStatus_ok {n : Nat} (some : 1 ≤ n) (most : n ≤ 18) (length : p.length = 2 + 13 * n)
    (range : wordAt p 0 + n ≤ 2048) (kinds : ∀ k < n, byteAt p (2 + 13 * k) ≤ 5)
    (free : ∀ k < n, s.owned (wordAt p 0 + k) = false) : s.loadCuesStatus p = .ok := by
  have count : (p.length - 2) / 13 = n := by omega
  unfold State.loadCuesStatus
  dsimp only
  rw [count, if_neg (by omega), if_neg (by omega), if_neg, if_neg]
  · rintro ⟨k, inside, owned⟩
    rw [free k inside] at owned
    cases owned
  · rintro ⟨k, inside, kind⟩
    exact absurd (kinds k inside) (Nat.not_le.mpr kind)

/-- The range of READ CUES (R41). -/
theorem readCues_of_range (least : 1 ≤ byteAt p 2) (most : byteAt p 2 ≤ 18) (range : wordAt p 0 + byteAt p 2 ≤ 2048) :
    readCues p s = ⟨s, .ok, (List.range (byteAt p 2)).flatMap fun k => cueToBytes (s.pool.read (wordAt p 0 + k))⟩ := by
  refine if_neg ?_
  simp only [Config.maxRecords, Config.poolSize]
  omega

theorem readCues_invalid
    (out : byteAt p 2 = 0 ∨ 18 < byteAt p 2 ∨ 2047 < wordAt p 0 ∨ 2048 < wordAt p 0 + byteAt p 2) :
    readCues p s = .plain s .invalid := by
  refine if_pos ?_
  simp only [Config.maxRecords, Config.poolSize]
  omega

/-! ### The working library as a memory (R45 to R47) -/

theorem findScene_cons (d : Scene) (rest : List Scene) (id : Nat) :
    findScene (d :: rest) id = if d.id = id then some d else findScene rest id := by
  by_cases same : d.id = id <;> simp [findScene, same]

/-- The record added or replaced is the record of its id (R46). -/
theorem findScene_insertScene_same (library : List Scene) (c : Scene) :
    findScene (insertScene library c) c.id = some c := by
  induction library with
  | nil => simp [insertScene, findScene_cons]
  | cons d rest ih =>
    unfold insertScene
    split_ifs with below same
    · simp [findScene_cons]
    · simp [findScene_cons]
    · rw [findScene_cons, if_neg (Ne.symm same), ih]

/-- Adding or replacing a record leaves every other id's (R46). -/
theorem findScene_insertScene_other (library : List Scene) {c : Scene} {id : Nat} (other : id ≠ c.id) :
    findScene (insertScene library c) id = findScene library id := by
  induction library with
  | nil => simp [insertScene, findScene_cons, other.symm]
  | cons d rest ih =>
    unfold insertScene
    split_ifs with below same
    · rw [findScene_cons, if_neg other.symm]
    · rw [findScene_cons, findScene_cons, if_neg other.symm, if_neg (same ▸ other.symm)]
    · rw [findScene_cons, findScene_cons, ih]

/-- A removed id is in no record, and the others are found as before (R47). -/
theorem findScene_filter (library : List Scene) (id gone : Nat) :
    findScene (library.filter (·.id ≠ gone)) id = if id = gone then none else findScene library id := by
  induction library with
  | nil => simp [findScene]
  | cons d rest ih =>
    by_cases removed : d.id = gone
    · rw [List.filter_cons_of_neg (by simpa using removed), ih, findScene_cons]
      split_ifs <;> simp_all
    · rw [List.filter_cons_of_pos (by simpa using removed), findScene_cons, findScene_cons, ih]
      split_ifs <;> simp_all

/-! ### Answers of PUT SCENE (R46, R47) -/

/-- The status of PUT SCENE is that of the first failing check (R46, R47). -/
theorem putScene_status (p : List Byte) (s : State) : (putScene p s).status = s.putSceneStatus p := by
  unfold putScene State.putSceneStatus State.removeScene State.addScene
  by_cases zero : byteAt p 0 = 0
  · rw [if_pos zero, if_pos zero]; rfl
  rw [if_neg zero, if_neg zero]
  by_cases remove : wordAt p 3 = 0
  · rw [if_pos remove, if_pos remove]
    simp only [Option.isNone_iff_eq_none]
    split_ifs <;> rfl
  rw [if_neg remove, if_neg remove]
  cases exclusive : boolCode? (byteAt p 6) with
  | none =>
    have unknown := boolCode?_eq_none.mp exclusive
    dsimp only
    rw [if_pos (c := 7 < byteAt p 5 ∨ 1 < byteAt p 6) (.inr unknown), ite_self]
    rfl
  | some b =>
    have known : ¬1 < byteAt p 6 := by rw [← boolCode?_eq_none, exclusive]; simp
    dsimp only
    by_cases inside : Scene.inBounds ⟨byteAt p 0, wordAt p 1, wordAt p 3, byteAt p 5, b⟩ = true
    · obtain ⟨base, -, length, range, level⟩ := Scene.inBounds_iff.mp inside
      dsimp only at base length range level
      have ring : ¬(2047 < wordAt p 1 ∨ 256 < wordAt p 3 ∨ 2048 < wordAt p 1 + wordAt p 3) := by omega
      have fields : ¬(7 < byteAt p 5 ∨ 1 < byteAt p 6) := by omega
      rw [if_neg (by rw [inside]; exact Bool.noConfusion), if_neg ring, if_neg fields]
      by_cases full : findScene s.library (byteAt p 0) = none ∧ 32 ≤ s.library.length
      · rw [if_pos (by rw [Option.isNone_iff_eq_none]; exact full), if_pos full]; rfl
      · rw [if_neg (by rw [Option.isNone_iff_eq_none]; exact full), if_neg full]; rfl
    · rw [if_pos (by simpa using inside)]
      rw [Scene.inBounds_iff] at inside
      by_cases ring : 2047 < wordAt p 1 ∨ 256 < wordAt p 3 ∨ 2048 < wordAt p 1 + wordAt p 3
      · rw [if_pos ring]; rfl
      · have fields : 7 < byteAt p 5 ∨ 1 < byteAt p 6 := by dsimp only at inside; omega
        rw [if_neg ring, if_pos fields]; rfl

/-- A PUT SCENE that passes every check adds or replaces its record (R46). -/
theorem putScene_adds {c : Scene} (id : c.id = byteAt p 0) (base : c.base = wordAt p 1) (length : c.length = wordAt p 3)
    (level : c.level = byteAt p 5) (exclusive : boolCode? (byteAt p 6) = some c.exclusive) (nonzero : byteAt p 0 ≠ 0)
    (bounds : c.inBounds = true) (room : findScene s.library (byteAt p 0) ≠ none ∨ s.library.length < 32) :
    putScene p s = .plain { s with library := insertScene s.library c } .ok := by
  have adds : wordAt p 3 ≠ 0 := by
    obtain ⟨-, positive, -⟩ := Scene.inBounds_iff.mp bounds
    omega
  obtain ⟨_, _, _, _, _⟩ := c
  subst id base length level
  unfold putScene State.addScene
  rw [if_neg nonzero, if_neg adds, exclusive]
  dsimp only
  rw [if_neg (by rw [bounds]; exact Bool.noConfusion), if_neg]
  rintro ⟨unknown, full⟩
  rcases room with known | free
  · exact known (Option.isNone_iff_eq_none.mp unknown)
  · exact absurd free (Nat.not_lt.mpr full)

theorem putScene_removes (nonzero : byteAt p 0 ≠ 0) (remove : wordAt p 3 = 0)
    (known : findScene s.library (byteAt p 0) ≠ none) :
    putScene p s = .plain { s with library := s.library.filter (·.id ≠ byteAt p 0) } .ok := by
  unfold putScene State.removeScene
  rw [if_neg nonzero, if_pos remove, if_neg (by rwa [Option.isNone_iff_eq_none])]

theorem putScene_already (nonzero : byteAt p 0 ≠ 0) (remove : wordAt p 3 = 0)
    (unknown : findScene s.library (byteAt p 0) = none) : putScene p s = .plain s .already := by
  unfold putScene State.removeScene
  rw [if_neg nonzero, if_pos remove, if_pos (by rwa [Option.isNone_iff_eq_none])]

/-- A PUT SCENE that fails a check is refused without effect (R46, R47). -/
theorem putScene_refuses (failed : s.putSceneStatus p ≠ .ok) : (putScene p s).Refuses s := by
  rw [← putScene_status] at failed
  rcases putScene_cases p s with refuses | ⟨-, -, e⟩ | ⟨_, -, -, -, -, e⟩
  · exact refuses
  · exact absurd (congrArg Answer.status e) failed
  · exact absurd (congrArg Answer.status e) failed

/-- A LOAD CUES that fails a check is refused without effect (R38). -/
theorem loadCues_refuses (failed : s.loadCuesStatus p ≠ .ok) : (loadCues p s).Refuses s := by
  rw [← loadCues_status] at failed
  rcases loadCues_cases p s with refuses | ⟨_, _, -, -, -, -, e⟩
  · exact refuses
  · exact absurd (congrArg Answer.status e) failed

end

/-- A request whose owner refuses has the refusal's status and no effect (R181). -/
theorem State.serve_refuses {s : State} {f : LinkFrame} {mine : Bool} {owner : State → Answer} {k : Status}
    (ready : s.ready f = true) (own : mine = true) (length : lengthAllowed f.kind f.payload.length = true)
    (refuses : (owner s.takeFrame).Refuses s.takeFrame) (status : (owner s.takeFrame).status = k) :
    s.serve f mine owner = s.answered f k [] id :=
  State.serve_refused ready own length refuses.2.2.1 status refuses.2.2.2

/-- A request of a length that its kind does not allow is answered LENGTH without effect (R181, check 3). -/
theorem State.serve_badLength {s : State} {f : LinkFrame} {owner : State → Answer} (ready : s.ready f = true)
    (length : lengthAllowed f.kind f.payload.length = false) : s.serve f true owner = s.answered f .length [] id := by
  simp only [State.ready, Bool.and_eq_true] at ready
  simp [State.serve, ready.2, linkChecked, length, Answer.plain, State.answered]

/-- LOAD CUES takes 2 to 240 bytes at the link (R211). -/
theorem lengthAllowed_loadCues (n : Nat) : lengthAllowed 0x20 n = true ↔ 2 ≤ n ∧ n ≤ 240 := by
  simp [lengthAllowed, requestLengths]

theorem variant_of_field {p : List Byte} {n : Nat} {field : List Byte → Bool} (h : field p = true) :
    variant p n field = true := by simp [variant, h]

/-- A LOAD CUES that fails a check has the first failing check's status, be it the link's (R38, R181). -/
theorem State.loadCues_refused {s : State} {tag : Byte} {p : List Byte} (ready : s.ready ⟨0x20, tag, p⟩ = true)
    (failed : s.loadCuesStatus p ≠ .ok) :
    s.serve ⟨0x20, tag, p⟩ true (loadCues p) = s.answered ⟨0x20, tag, p⟩ (s.loadCuesStatus p) [] id := by
  cases allowed : lengthAllowed 0x20 p.length with
  | true => exact State.serve_refuses ready rfl allowed (loadCues_refuses failed) (loadCues_status p s.takeFrame)
  | false =>
    have out : ¬(2 ≤ p.length ∧ p.length ≤ 240) := by rw [← lengthAllowed_loadCues, allowed]; exact Bool.false_ne_true
    have status : s.loadCuesStatus p = .length := if_pos (by omega)
    rw [status]
    exact State.serve_badLength ready allowed

/-- Settles O49: each write is its owner's equation with the memory rules of the pool and of the library, and each refusal
the first failing check of its chain. -/
theorem poolAndLibraryWrites : Obligations.PoolAndLibraryWrites := by
  refine ⟨fun tag p s n canon ready least most length range kinds free => ?_,
    fun tag p s ready length least most range => ?_,
    fun tag p s exclusive ready length nonzero least most range level code room => ?_,
    fun tag p s ready failed => congrArg Host.Outcome.next (State.loadCues_refused ready failed),
    fun tag p s ready length out => ?_, fun c tag p s ready length own failed => ?_,
    fun tag p s ready length nonzero remove => ⟨fun unknown => ?_, fun known => ?_⟩⟩
  · obtain ⟨cues, read, writes⟩ :=
      loadCues_writes (s := s.takeFrame) (State.loadCuesStatus_ok least most length range kinds free) length
    obtain ⟨count, records⟩ := cuesOf_recordBytes read
    have allowed : lengthAllowed 0x20 p.length = true := (lengthAllowed_loadCues _).mpr (by omega)
    refine ⟨s.pool.writeAll (wordAt p 0) cues, congrArg Host.Outcome.next (State.serve_answered ready rfl allowed writes),
      fun k inside => ?_, fun j outside => ?_⟩
    · rw [Pool.read_writeAll_same canon (by omega), records k (by omega)]
    · exact Pool.read_writeAll_other cues (by omega)
  · exact congrArg Host.Outcome.next (State.serve_read ready (by rw [length]; rfl) (readCues_of_range least most range))
  · have adds := putScene_adds (s := s.takeFrame) (p := p)
      (c := { id := byteAt p 0, base := wordAt p 1, length := wordAt p 3, level := byteAt p 5, exclusive := exclusive })
      rfl rfl rfl rfl code nonzero (Scene.inBounds_iff.mpr ⟨by dsimp only; omega, least, most, range, level⟩) room
    exact ⟨_, congrArg Host.Outcome.next (State.serve_answered ready
        (variant_of_field (decide_eq_true (Nat.ne_of_gt least))) (by rw [length]; rfl) adds),
      findScene_insertScene_same _ _, fun id other => findScene_insertScene_other _ other⟩
  · exact congrArg Host.Outcome.next (State.serve_read ready (by rw [length]; rfl) (readCues_invalid out))
  · have refused : ∀ mine, mine = true →
        s.serve ⟨0x22, tag, p⟩ mine (putScene p) = s.answered ⟨0x22, tag, p⟩ (s.putSceneStatus p) [] id := fun mine own =>
      State.serve_refuses ready own (by rw [length]; rfl) (putScene_refuses failed) (putScene_status p s.takeFrame)
    rcases own with ⟨rfl, adds⟩ | ⟨rfl, removes⟩
    · exact congrArg Host.Outcome.next (refused _ (variant_of_field (decide_eq_true adds)))
    · exact congrArg Host.Outcome.next (refused _ (variant_of_field (decide_eq_true removes)))
  · exact congrArg Host.Outcome.next (State.serve_answered ready (variant_of_field (decide_eq_true remove))
      (by rw [length]; rfl) (putScene_already nonzero remove unknown))
  · refine ⟨_, congrArg Host.Outcome.next (State.serve_answered ready (variant_of_field (decide_eq_true remove))
      (by rw [length]; rfl) (putScene_removes nonzero remove known)), ?_, fun id other => ?_⟩
    · rw [findScene_filter, if_pos rfl]
    · rw [findScene_filter, if_neg other]
      rfl

end Sys2Proof.Machine

namespace Sys2Proof.Machine

/-! ### The course of a FADE (R57) -/

/-- A FADE shows its start value at elapsed 0 (R57). -/
theorem fadeValue_start (s t : Nat) {d : Nat} (h : 0 < d) : fadeValue s t 0 d = s := by
  have rounded : (2 * ((t : Int) - s) * (0 : Nat) + d) / (2 * d) = 0 :=
    Int.ediv_eq_zero_of_lt (by omega) (by omega)
  unfold fadeValue
  rw [rounded]
  omega

/-- The rounded value is monotone in (t − s)·e, so the component of a FADE follows the order of that product. -/
theorem fadeValue_le_of_mul_le {s t e e' d : Nat} (positive : 0 < d)
    (h : ((t : Int) - s) * e ≤ ((t : Int) - s) * e') :
    fadeValue s t e d ≤ fadeValue s t e' d := by
  have numerators : 2 * ((t : Int) - s) * e + d ≤ 2 * ((t : Int) - s) * e' + d := by
    simp only [Int.mul_assoc]
    omega
  have quotients := Int.ediv_le_ediv (show 0 < 2 * (d : Int) by omega) numerators
  exact Int.toNat_le_toNat (Int.add_le_add_left quotients s)

/-- A FADE to a greater value never falls as it goes on. -/
theorem fadeValue_monotone {s t d : Nat} (positive : 0 < d) (rising : s ≤ t) : Monotone (fadeValue s t · d) :=
  fun _ _ h => fadeValue_le_of_mul_le positive (Int.mul_le_mul_of_nonneg_left (Int.ofNat_le.mpr h) (by omega))

/-- A FADE to a smaller value never rises as it goes on. -/
theorem fadeValue_antitone {s t d : Nat} (positive : 0 < d) (falling : t ≤ s) : Antitone (fadeValue s t · d) :=
  fun _ _ h => fadeValue_le_of_mul_le positive (Int.mul_le_mul_of_nonpos_left (by omega) (Int.ofNat_le.mpr h))

/-- Settles O20: a component moves in one direction only, so it stays between its values at elapsed 0 and D. -/
theorem fadeStaysBetween : Obligations.FadeStaysBetween := by
  intro a b e d positive within
  have start := fadeValue_start a b positive
  have finish := fadeValue_end a b positive
  refine ⟨start, finish, ?_⟩
  rcases Nat.le_total a b with rising | falling
  · have lower : fadeValue a b 0 d ≤ fadeValue a b e d := fadeValue_monotone positive rising (Nat.zero_le e)
    have upper : fadeValue a b e d ≤ fadeValue a b d d := fadeValue_monotone positive rising within
    omega
  · have upper : fadeValue a b e d ≤ fadeValue a b 0 d := fadeValue_antitone positive falling (Nat.zero_le e)
    have lower : fadeValue a b d d ≤ fadeValue a b e d := fadeValue_antitone positive falling within
    omega

end Sys2Proof.Machine

/-! # Proofs: the Compositor and the chain ports at work

What an operation on one chain leaves of the other, the law of the send buffer outside RUNNING, renders and their frames,
the events of a shift, foreign drive, and the requests of the ports. -/

namespace Sys2Proof.Machine

/-! ### A chain's records through writes elsewhere -/

section
variable (s : State) (c d : Chain)

@[simp] theorem State.raise_port (f : Flag) : (s.raise f).port c = s.port c := by cases c <;> rfl
@[simp] theorem State.raise_comp (f : Flag) : (s.raise f).comp c = s.comp c := by cases c <;> rfl
@[simp] theorem State.raiseIf_port (b : Bool) (f : Flag) : (s.raiseIf b f).port c = s.port c := by cases c <;> rfl
@[simp] theorem State.raiseIf_comp (b : Bool) (f : Flag) : (s.raiseIf b f).comp c = s.comp c := by cases c <;> rfl
@[simp] theorem State.queueAll_port (ns : List Notice) : (s.queueAll ns).port c = s.port c := by cases c <;> rfl
@[simp] theorem State.queueAll_comp (ns : List Notice) : (s.queueAll ns).comp c = s.comp c := by cases c <;> rfl
@[simp] theorem State.settle_port : s.settle.port c = s.port c := by cases c <;> rfl
@[simp] theorem State.settle_comp : s.settle.comp c = s.comp c := by cases c <;> rfl
@[simp] theorem State.takeFrame_port : s.takeFrame.port c = s.port c := by cases c <;> rfl
@[simp] theorem State.takeFrame_comp : s.takeFrame.comp c = s.comp c := by cases c <;> rfl
@[simp] theorem State.withDir_port (k : Directory) : ({ s with dir := k } : State).port c = s.port c := by cases c <;> rfl
@[simp] theorem State.withDir_comp (k : Directory) : ({ s with dir := k } : State).comp c = s.comp c := by cases c <;> rfl

@[simp] theorem State.onPort_count (f : Port → Port) : (s.onPort c f).count d = s.count d := by simp [State.count]
@[simp] theorem State.raiseIf_count (b : Bool) (f : Flag) : (s.raiseIf b f).count d = s.count d := rfl

@[simp] theorem Directory.setNodes_nodes_same (k : Directory) (ns : List Node) : (k.setNodes c ns).nodes c = ns := by
  cases c <;> rfl

end

theorem Directory.setNodes_nodes_other (k : Directory) {c d : Chain} (h : c ≠ d) (ns : List Node) :
    (k.setNodes c ns).nodes d = k.nodes d := by
  cases c <;> cases d <;> first | rfl | exact absurd rfl h

/-! ### What stays on one chain (06, opening) -/

/-- Of all that the two chains hold, `t` differs from `s` on chain `c` alone, and the part state is that of `s`. -/
def State.OnlyOn (c : Chain) (s t : State) : Prop :=
  t.power = s.power ∧ ∀ d, c ≠ d → t.port d = s.port d ∧ t.comp d = s.comp d ∧ t.dir.nodes d = s.dir.nodes d

theorem State.OnlyOn.refl (c : Chain) (s : State) : s.OnlyOn c s := ⟨rfl, fun _ _ => ⟨rfl, rfl, rfl⟩⟩

section
variable {c : Chain} {s t : State}

/-- A write on the chain itself changes nothing on the other. -/
theorem onlyOn_congr {u : State} (power : u.power = t.power)
    (other : ∀ d, c ≠ d → u.port d = t.port d ∧ u.comp d = t.comp d ∧ u.dir.nodes d = t.dir.nodes d) :
    s.OnlyOn c u ↔ s.OnlyOn c t := by
  unfold State.OnlyOn
  rw [power]
  refine and_congr_right fun _ => forall_congr' fun d => imp_congr_right fun h => ?_
  obtain ⟨port, comp, nodes⟩ := other d h
  rw [port, comp, nodes]

@[simp] theorem onlyOn_setPort {p : Port} : s.OnlyOn c (t.setPort c p) ↔ s.OnlyOn c t :=
  onlyOn_congr (by simp) fun _ h => ⟨t.setPort_port_other p h, by simp, by simp⟩

@[simp] theorem onlyOn_onPort {f : Port → Port} : s.OnlyOn c (t.onPort c f) ↔ s.OnlyOn c t := onlyOn_setPort

@[simp] theorem onlyOn_setComp {k : Comp} : s.OnlyOn c (t.setComp c k) ↔ s.OnlyOn c t :=
  onlyOn_congr (by simp) fun _ h => ⟨by simp, t.setComp_comp_other k h, by simp⟩

@[simp] theorem onlyOn_setNodes {ns : List Node} :
    s.OnlyOn c { t with dir := t.dir.setNodes c ns } ↔ s.OnlyOn c t :=
  onlyOn_congr rfl fun _ h => ⟨by simp, by simp, t.dir.setNodes_nodes_other h ns⟩

@[simp] theorem onlyOn_raise {f : Flag} : s.OnlyOn c (t.raise f) ↔ s.OnlyOn c t := onlyOn_congr rfl fun _ _ => by simp

@[simp] theorem onlyOn_raiseIf {b : Bool} {f : Flag} : s.OnlyOn c (t.raiseIf b f) ↔ s.OnlyOn c t :=
  onlyOn_congr rfl fun _ _ => by simp

@[simp] theorem onlyOn_queueAll {ns : List Notice} : s.OnlyOn c (t.queueAll ns) ↔ s.OnlyOn c t :=
  onlyOn_congr rfl fun _ _ => by simp

@[simp] theorem onlyOn_settle : s.OnlyOn c t.settle ↔ s.OnlyOn c t := onlyOn_congr rfl fun _ _ => by simp

@[simp] theorem onlyOn_leaveRunning : s.OnlyOn c (t.leaveRunning c) ↔ s.OnlyOn c t := by
  unfold State.leaveRunning; split <;> simp

@[simp] theorem onlyOn_beginPass : s.OnlyOn c (t.beginPass c) ↔ s.OnlyOn c t := by simp [State.beginPass]

@[simp] theorem onlyOn_closePort : s.OnlyOn c (t.closePort c) ↔ s.OnlyOn c t := by simp [State.closePort]

@[simp] theorem onlyOn_takeOff : s.OnlyOn c (t.takeOff c).1 ↔ s.OnlyOn c t := by
  unfold State.takeOff; split <;> simp

@[simp] theorem onlyOn_completeRender {f : Frame} : s.OnlyOn c (t.completeRender c f) ↔ s.OnlyOn c t := by
  simp [State.completeRender]

@[simp] theorem onlyOn_finishRender {f : Frame} : s.OnlyOn c (t.finishRender c f) ↔ s.OnlyOn c t := by
  unfold State.finishRender; split <;> simp

@[simp] theorem onlyOn_copyFinished : s.OnlyOn c (t.copyFinished c) ↔ s.OnlyOn c t := by
  unfold State.copyFinished
  split
  · split <;> simp
  · rfl

@[simp] theorem onlyOn_afterTransfer : s.OnlyOn c (t.afterTransfer c) ↔ s.OnlyOn c t := by simp [State.afterTransfer]

@[simp] theorem onlyOn_absorb {bytes : List Byte} : s.OnlyOn c (t.absorb c bytes) ↔ s.OnlyOn c t := by
  simp [State.absorb]

@[simp] theorem onlyOn_judgeTrailer {trailer : List Byte} {n : Nat} :
    s.OnlyOn c (t.judgeTrailer c trailer n) ↔ s.OnlyOn c t := by
  unfold State.judgeTrailer
  dsimp only
  split <;> simp

@[simp] theorem onlyOn_release : s.OnlyOn c (t.release c) ↔ s.OnlyOn c t := by simp [State.release]

@[simp] theorem onlyOn_nextPeriod : s.OnlyOn c (t.nextPeriod c) ↔ s.OnlyOn c t := by simp [State.nextPeriod]

@[simp] theorem onlyOn_periodStart : s.OnlyOn c (t.periodStart c) ↔ s.OnlyOn c t := by
  unfold State.periodStart State.latePeriod State.promptPeriod
  split
  · rfl
  · split <;> simp

@[simp] theorem onlyOn_latchDuty {f : Frame} {o : Origin} : s.OnlyOn c (t.latchDuty c f o) ↔ s.OnlyOn c t := by
  simp [State.latchDuty]

@[simp] theorem onlyOn_latchDarkFrame {n : Nat} : s.OnlyOn c (t.latchDarkFrame c n) ↔ s.OnlyOn c t := by
  simp [State.latchDarkFrame]

@[simp] theorem onlyOn_completePass {answers : List NodeAnswer} {outcome : PassOutcome} :
    s.OnlyOn c (t.completePass c answers outcome) ↔ s.OnlyOn c t := by
  simp [State.completePass, Directory.complete]

end

/-- The ten events on the wires of chain `c`. -/
def onWiresOf (c : Chain) : Instr → Prop
  | .periodStart d | .renderComplete d | .latchPoint d | .shiftEnd d _ | .identifyRequestEnd d | .settleEnd d
  | .collectEnd d _ | .collectMarkerTimeout d | .foreignActivity d | .foreignQuiet d => d = c
  | _ => False

/-- An event on a chain's wires touches no record of the other chain. -/
theorem exec_onlyOn {c : Chain} {i : Instr} (h : onWiresOf c i) (s : State) : Leaves (exec i s) (s.OnlyOn c) := by
  have same := State.OnlyOn.refl c s
  cases i with
  | periodStart d => subst h; exact leaves_next.mpr (by split <;> simpa using same)
  | renderComplete d =>
    subst h
    refine leaves_next.mpr ?_
    split
    · split <;> simpa using same
    · exact same
  | latchPoint d =>
    subst h
    refine leaves_next.mpr ?_
    split
    · split <;> simpa using same
    · exact same
  | shiftEnd d trailer =>
    subst h
    refine leaves_next.mpr ?_
    split
    · split <;> simpa using same
    · exact same
  | identifyRequestEnd d => subst h; exact leaves_next.mpr (by split <;> simpa using same)
  | settleEnd d => subst h; exact leaves_next.mpr (by split <;> simpa using same)
  | collectEnd d returned => subst h; exact leaves_next.mpr (by split <;> simpa using same)
  | collectMarkerTimeout d => subst h; exact leaves_next.mpr (by split <;> simpa using same)
  | foreignActivity d =>
    subst h
    refine leaves_next.mpr ?_
    split
    · dsimp only
      split <;> simpa using same
    · exact same
  | foreignQuiet d => subst h; exact leaves_next.mpr (by split <;> simpa using same)
  | _ => exact h.elim

/-- An event on the wires does not act on the layers. -/
theorem actsOnLayers_of_onWires {c : Chain} {i : Instr} (h : onWiresOf c i) : actsOnLayers i = false := by
  cases i <;> first | rfl | exact h.elim

/-- Settles O15: an event on one chain's wires writes records of that chain alone, and none of the layers. -/
theorem chainsAreIndependent : Obligations.ChainsAreIndependent := by
  intro c d i trailer returned s t other listed leads
  have wires : onWiresOf c i := by
    simp only [List.mem_cons, List.not_mem_nil, or_false] at listed
    rcases listed with rfl | rfl | rfl | rfl | rfl | rfl | rfl | rfl | rfl | rfl <;> exact rfl
  obtain ⟨port, comp, nodes⟩ := (exec_onlyOn wires s t leads).2 d other
  obtain ⟨arb, -, pool, -⟩ := exec_sameLayers (actsOnLayers_of_onWires wires) s t leads
  exact ⟨port, comp, nodes, arb, pool⟩

end Sys2Proof.Machine

namespace Sys2Proof.Machine

/-! ### The commands that leave ports and renders alone -/

/-- What the law of the send buffer reads: the part state, both ports and both Compositor records. -/
def State.chainState (s : State) : PartState × Port × Port × Comp × Comp :=
  (s.power.part, s.portA, s.portB, s.compA, s.compB)

section
variable (s : State)

@[simp] theorem State.setLayer_chainState (i : Slot) (l : Layer) : (s.setLayer i l).chainState = s.chainState := rfl
@[simp] theorem State.raise_chainState (f : Flag) : (s.raise f).chainState = s.chainState := rfl
@[simp] theorem State.raiseIf_chainState (b : Bool) (f : Flag) : (s.raiseIf b f).chainState = s.chainState := rfl
@[simp] theorem State.queueAll_chainState (ns : List Notice) : (s.queueAll ns).chainState = s.chainState := rfl
@[simp] theorem State.settle_chainState : s.settle.chainState = s.chainState := rfl

@[simp] theorem State.queueOpen_chainState (ns : List Notice) : (s.queueOpen ns).chainState = s.chainState := by
  simp [State.chainState]

@[simp] theorem State.endLayers_chainState (p : Slot → Layer → Bool) (r : EndReason) :
    (s.endLayers p r).1.chainState = s.chainState := rfl

@[simp] theorem State.evalFloor_chainState : s.evalFloor.chainState = s.chainState := by simp [State.chainState]

@[simp] theorem State.startRing_chainState (i : Slot) (r : RingStart) : (s.startRing i r).chainState = s.chainState := by
  simp [State.startRing]

@[simp] theorem State.startEgress_chainState : s.startEgress.chainState = s.chainState := State.startRing_chainState _ _ _

@[simp] theorem State.stopSlot_chainState (i : Slot) (r : EndReason) : (s.stopSlot i r).chainState = s.chainState := by
  simp [State.stopSlot_eq]

@[simp] theorem State.withPolicy_chainState (k : Policy) : (s.withPolicy k).chainState = s.chainState := rfl

@[simp] theorem State.cutSuspended_chainState : s.cutSuspended.chainState = s.chainState := by
  simp [State.cutSuspended_eq]

@[simp] theorem State.replaced_chainState (i : Slot) : (s.replaced i).chainState = s.chainState := by
  unfold State.replaced; split <;> simp

@[simp] theorem State.endWrite_chainState (matched : Bool) : (s.endWrite matched).chainState = s.chainState := by
  unfold State.endWrite; split <;> rfl

@[simp] theorem State.raiseAlert_chainState (id : Nat) (exclusive : Bool) :
    (s.raiseAlert id exclusive).state.chainState = s.chainState := by
  rcases s.raiseAlert_cases id exclusive with ⟨-, -, e, -⟩ | ⟨c, -, -, -, e⟩ | ⟨c, -, -, -, e⟩ <;> simp [e]

@[simp] theorem State.clearAlert_chainState (i : Slot) (atEnd : Bool) :
    (s.clearAlert i atEnd).state.chainState = s.chainState := by
  rcases s.clearAlert_cases i atEnd with ⟨-, -, e, -⟩ | ⟨-, ⟨-, -, e⟩ | ⟨-, -, e⟩ | ⟨-, -, e⟩⟩ <;> simp [e]

@[simp] theorem State.act_chainState (x : Trigger) : (s.act x).1.chainState = s.chainState := by
  rcases s.act_cases x with e | ⟨i, c, -, -, -, e | e⟩ | ⟨i, -, -, e⟩ | e | ⟨i, atEnd, -, e⟩ <;> rw [e]
  · rcases s.triggerStart_cases i c (c.resolve x.level) with e | ⟨-, -, -, e⟩ <;> simp [e]
  · rcases s.triggerReplace_cases i c (c.resolve x.level) with e | ⟨-, -, e⟩ <;> simp [e]
  · rfl
  · simp
  · simp

end

/-- A request whose owner leaves ports and renders alone leaves them alone. -/
theorem State.serve_chainState {s : State} {f : LinkFrame} {mine : Bool} {owner : State → Answer}
    (h : ∀ t, (owner t).state.chainState = t.chainState) : (s.serve f mine owner).chainState = s.chainState :=
  State.serve_keeps (P := fun t => t.chainState = s.chainState) (fun _ _ => id) (fun t _ ht => (h t).trans ht) rfl

/-- The commands that can act on a port, a render or the part state. -/
def actsOnPorts : Instr → Bool
  | .powerOn _ | .startupComplete | .supplyRemoval | .tick _ | .debouncedAssertion | .periodStart _ | .renderComplete _
  | .latchPoint _ | .shiftEnd _ _ | .identifyRequestEnd _ | .settleEnd _ | .collectEnd _ _ | .collectMarkerTimeout _
  | .foreignActivity _ | .foreignQuiet _ | .getCounters _ _ | .enumerate _ _ | .setChainTiming _ _ | .setChainBudget _ _
  | .setChainStateOff _ _ | .setChainStateOn _ _ | .reclaimChain _ _ | .restartTaken | .sleep _ _ | .dormantEntry
  | .wakeByLink | .wakeByEgress => true
  | _ => false

/-! Owners that leave ports and renders alone -/

section
variable (p : List Byte) (s : State)

theorem startLayer_chainState : (startLayer p s).state.chainState = s.chainState := by
  rcases startLayer_cases p s with ⟨-, -, e, -⟩ | ⟨_, _, _, -, -, -, -, -, -, -, -, e⟩ <;> simp [e]

theorem startScene_chainState : (startScene p s).state.chainState = s.chainState := by
  rcases startScene_cases p s with ⟨-, -, e, -⟩ | ⟨_, _, -, -, -, -, -, -, -, e⟩ <;> simp [e]

theorem stopLayer_chainState : (stopLayer p s).state.chainState = s.chainState := by
  rcases stopLayer_cases p s with ⟨-, -, e, -⟩ | ⟨_, -, -, -, ⟨-, -, e⟩ | ⟨-, e⟩⟩ <;> rw [e]
  exacts [rfl, State.stopSlot_chainState s _ _]

theorem setLevel_chainState : (setLevel p s).state.chainState = s.chainState := by
  rcases setLevel_cases p s with ⟨-, -, e, -⟩ | ⟨_, -, -, -, ⟨-, e⟩ | ⟨-, -, e⟩⟩ <;> simp [e]

theorem setMaster_chainState : (setMaster p s).state.chainState = s.chainState := by
  rcases setMaster_cases p s with ⟨-, -, e, -⟩ | ⟨_, -, e⟩ <;> rw [e]
  rfl

theorem hush_chainState : (hush p s).state.chainState = s.chainState := by
  rcases hush_cases p s with ⟨-, -, e, -⟩ | ⟨-, e⟩ <;> rw [e]
  rfl

theorem setPolicy_chainState : (setPolicy p s).state.chainState = s.chainState := by
  rcases setPolicy_cases p s with ⟨-, -, e, -⟩ | ⟨k, -, e⟩ <;> rw [e]
  rw [Answer.plain_state, State.evalFloor_chainState]
  split <;> simp

theorem raiseAlert_chainState : (raiseAlert p s).state.chainState = s.chainState := by
  rcases raiseAlert_cases p s with ⟨-, -, e, -⟩ | ⟨_, -, -, e⟩ <;> simp [e]

theorem clearAlert_chainState : (clearAlert p s).state.chainState = s.chainState := by
  rcases clearAlert_cases p s with ⟨-, -, e, -⟩ | ⟨_, _, -, -, -, e⟩ <;> simp [e]

theorem loadCues_chainState : (loadCues p s).state.chainState = s.chainState := by
  rcases loadCues_cases p s with ⟨-, -, e, -⟩ | ⟨_, _, -, -, -, -, e⟩ <;> rw [e]
  rfl

theorem putScene_chainState : (putScene p s).state.chainState = s.chainState := by
  rcases putScene_cases p s with ⟨-, -, e, -⟩ | ⟨-, -, e⟩ | ⟨_, -, -, -, -, e⟩ <;> rw [e] <;> rfl

theorem vehicleEvent_chainState : (vehicleEvent p s).state.chainState = s.chainState := by
  rcases vehicleEvent_cases p s with ⟨-, -, e, -⟩ | ⟨k, x, -, e⟩ <;> rw [e]
  rw [Answer.plain_state]
  split <;> simp

theorem putTrigger_chainState : (putTrigger p s).state.chainState = s.chainState := by
  rcases putTrigger_cases p s with ⟨-, -, e, -⟩ | ⟨_, _, -, e⟩ <;> rw [e]
  rfl

theorem getLayer_chainState : (getLayer p s).state.chainState = s.chainState := by
  unfold getLayer; split <;> rfl

theorem readCues_chainState : (readCues p s).state.chainState = s.chainState := by
  unfold readCues; dsimp only; split <;> rfl

theorem getScene_chainState : (getScene p s).state.chainState = s.chainState := by
  unfold getScene
  split
  · rfl
  · split <;> rfl

theorem getNode_chainState : (getNode p s).state.chainState = s.chainState := by
  unfold getNode
  split
  · rfl
  · dsimp only
    split
    · rfl
    · split <;> rfl

theorem putCatalog_chainState : (putCatalog p s).state.chainState = s.chainState := by
  unfold putCatalog
  split
  · split
    · rfl
    · split <;> rfl
  · rfl

theorem getCatalog_chainState : (getCatalog p s).state.chainState = s.chainState := by
  unfold getCatalog; split <;> rfl

theorem putZoneSpan_chainState : (putZoneSpan p s).state.chainState = s.chainState := by
  unfold putZoneSpan
  split
  · split
    · rfl
    · split <;> rfl
  · rfl

theorem lockCatalog_chainState : (lockCatalog s).state.chainState = s.chainState := by
  unfold lockCatalog; split <;> rfl

theorem setCurve_chainState : (setCurve p s).state.chainState = s.chainState := by
  unfold setCurve; dsimp only; split <;> rfl

theorem setAmbientOverride_chainState : (setAmbientOverride p s).state.chainState = s.chainState := by
  unfold setAmbientOverride
  dsimp only
  split
  · rfl
  · split <;> rfl
  · rfl

theorem getTrigger_chainState : (getTrigger p s).state.chainState = s.chainState := by
  unfold getTrigger; split <;> rfl

theorem storeSettings_chainState : (storeSettings p s).state.chainState = s.chainState := by
  unfold storeSettings
  split
  · rfl
  · split <;> rfl

theorem storeLibrary_chainState : (storeLibrary s).state.chainState = s.chainState := by
  unfold storeLibrary
  split
  · rfl
  · split <;> rfl

theorem restart_chainState : (restart s).state.chainState = s.chainState := by
  unfold restart; split <;> rfl

end

/-- A command that does not act on them leaves the ports, the renders and the part state. -/
theorem exec_chainState {c : Instr} (h : actsOnPorts c = false) (s : State) :
    Leaves (exec c s) fun t => t.chainState = s.chainState := by
  cases c with
  | hushExpiry => exact leaves_next.mpr (by split <;> rfl)
  | egressLineChange asserted => exact leaves_next.mpr (by split <;> rfl)
  | debouncedDeassertion => exact leaves_next.mpr (by split <;> rfl)
  | luxEdge => exact leaves_next.mpr (by split <;> rfl)
  | gateWindowEnd => exact leaves_next.mpr (by split <;> rfl)
  | frameReceived characters => exact leaves_next.mpr (by split <;> rfl)
  | framingError => exact leaves_next.mpr (by split <;> rfl)
  | interByteTimeout => exact leaves_next.mpr (by split <;> rfl)
  | linkBreak => exact leaves_next.mpr (by split <;> rfl)
  | waitIdleEnd => exact leaves_next.mpr (by split <;> rfl)
  | transmitComplete => exact leaves_next.mpr (by split <;> rfl)
  | unknownKind kind tag p => exact leaves_next.mpr (by split <;> rfl)
  | reportKindDiscard kind tag p => exact leaves_next.mpr (by split <;> rfl)
  | storeWriteEnd matched => exact leaves_next.mpr (by split <;> simp)
  | ping tag p => exact leaves_next.mpr (State.serve_chainState fun _ => rfl)
  | getStatus tag p => exact leaves_next.mpr (State.serve_chainState fun _ => rfl)
  | setEventMask tag p => exact leaves_next.mpr (State.serve_chainState fun _ => rfl)
  | clearEvents tag p => exact leaves_next.mpr (State.serve_chainState fun _ => rfl)
  | startLayer tag p => exact leaves_next.mpr (State.serve_chainState (startLayer_chainState p))
  | startScene tag p => exact leaves_next.mpr (State.serve_chainState (startScene_chainState p))
  | stopLayerImmediate tag p => exact leaves_next.mpr (State.serve_chainState (stopLayer_chainState p))
  | stopLayerAtEnd tag p => exact leaves_next.mpr (State.serve_chainState (stopLayer_chainState p))
  | setLevel tag p => exact leaves_next.mpr (State.serve_chainState (setLevel_chainState p))
  | getLayer tag p => exact leaves_next.mpr (State.serve_chainState (getLayer_chainState p))
  | setMaster tag p => exact leaves_next.mpr (State.serve_chainState (setMaster_chainState p))
  | hush tag p => exact leaves_next.mpr (State.serve_chainState (hush_chainState p))
  | setPolicy tag p => exact leaves_next.mpr (State.serve_chainState (setPolicy_chainState p))
  | raiseAlert tag p => exact leaves_next.mpr (State.serve_chainState (raiseAlert_chainState p))
  | clearAlertAtEnd tag p => exact leaves_next.mpr (State.serve_chainState (clearAlert_chainState p))
  | clearAlertImmediate tag p => exact leaves_next.mpr (State.serve_chainState (clearAlert_chainState p))
  | loadCues tag p => exact leaves_next.mpr (State.serve_chainState (loadCues_chainState p))
  | readCues tag p => exact leaves_next.mpr (State.serve_chainState (readCues_chainState p))
  | putScene tag p => exact leaves_next.mpr (State.serve_chainState (putScene_chainState p))
  | putSceneRemove tag p => exact leaves_next.mpr (State.serve_chainState (putScene_chainState p))
  | getScene tag p => exact leaves_next.mpr (State.serve_chainState (getScene_chainState p))
  | getNode tag p => exact leaves_next.mpr (State.serve_chainState (getNode_chainState p))
  | putCatalog tag p => exact leaves_next.mpr (State.serve_chainState (putCatalog_chainState p))
  | getCatalog tag p => exact leaves_next.mpr (State.serve_chainState (getCatalog_chainState p))
  | putZoneSpan tag p => exact leaves_next.mpr (State.serve_chainState (putZoneSpan_chainState p))
  | lockCatalog tag p => exact leaves_next.mpr (State.serve_chainState lockCatalog_chainState)
  | setCurve tag p => exact leaves_next.mpr (State.serve_chainState (setCurve_chainState p))
  | setAmbientOverrideOn tag p => exact leaves_next.mpr (State.serve_chainState (setAmbientOverride_chainState p))
  | setAmbientOverrideOff tag p => exact leaves_next.mpr (State.serve_chainState (setAmbientOverride_chainState p))
  | getAmbient tag p => exact leaves_next.mpr (State.serve_chainState fun _ => rfl)
  | vehicleEvent tag p => exact leaves_next.mpr (State.serve_chainState (vehicleEvent_chainState p))
  | putTrigger tag p => exact leaves_next.mpr (State.serve_chainState (putTrigger_chainState p))
  | getTrigger tag p => exact leaves_next.mpr (State.serve_chainState (getTrigger_chainState p))
  | storeSettings tag p => exact leaves_next.mpr (State.serve_chainState (storeSettings_chainState p))
  | storeLibrary tag p => exact leaves_next.mpr (State.serve_chainState storeLibrary_chainState)
  | restart tag p => exact leaves_next.mpr (State.serve_chainState restart_chainState)
  | _ => cases h

end Sys2Proof.Machine

namespace Sys2Proof.Machine

/-! ### The send buffer outside RUNNING (R83, R130) -/

/-- The send buffer is empty, no render is in flight, and no shift takes its frame from the send buffer. -/
structure Port.Cleared (p : Port) (k : Comp) : Prop where
  pending : p.pendingFrame = none
  latched : p.lastLatched = none
  since : p.latchedSince = false
  render : k.render = none
  buffer : k.buffer = none
  shift : ∀ t, p.transfer = some t → t.fromBuffer = false

theorem Port.Cleared.holds {p : Port} {k : Comp} (h : p.Cleared k) : PortHolds p k :=
  ⟨fun _ => ⟨h.pending, h.latched, h.since, h.render, h.shift⟩, fun waits => absurd h.buffer waits⟩

theorem PortHolds.cleared {p : Port} {k : Comp} (h : PortHolds p k) (out : p.state ≠ .running) : p.Cleared k := by
  obtain ⟨pending, latched, since, render, shift⟩ := h.1 out
  exact ⟨pending, latched, since, render, by_contra fun waits => h.2 waits render, shift⟩

/-- A RUNNING port is held to nothing but that a finished frame belongs to a render. -/
theorem PortHolds.of_running {p : Port} {k : Comp} (running : p.state = .running) (frame : k.buffer ≠ none → k.render ≠ none) :
    PortHolds p k :=
  ⟨fun out => absurd running out, frame⟩

theorem PortHolds.running_of_render {p : Port} {k : Comp} (h : PortHolds p k) (render : k.render ≠ none) :
    p.state = .running :=
  by_contra fun out => render (h.cleared out).render

/-- A change of the port that keeps the emptied send buffer and leaves RUNNING no more often. -/
theorem PortHolds.map {p q : Port} {k : Comp} (h : PortHolds p k) (state : q.state ≠ .running → p.state ≠ .running)
    (cleared : p.Cleared k → q.Cleared k) : PortHolds q k :=
  ⟨fun out => (cleared (h.cleared (state out))).holds.1 out, h.2⟩

theorem Transfer.fromBuffer_detach (t : Transfer) : t.detach.fromBuffer = false := by cases t <;> rfl

theorem Port.left_cleared (p : Port) (k : Comp) : p.left.Cleared k.abandoned where
  pending := rfl
  latched := rfl
  since := rfl
  render := rfl
  buffer := rfl
  shift := fun t e => by
    obtain ⟨x, -, rfl⟩ := Option.map_eq_some_iff.mp e
    exact x.fromBuffer_detach

namespace Port.Cleared

variable {p q : Port} {k : Comp} (h : p.Cleared k)
include h

/-- What leaves the send buffer and the transfer, or puts another transfer in its place. -/
theorem withTransfer (shift : ∀ t, q.transfer = some t → t.fromBuffer = false)
    (pending : q.pendingFrame = p.pendingFrame := by rfl) (latched : q.lastLatched = p.lastLatched := by rfl)
    (since : q.latchedSince = p.latchedSince := by rfl) : q.Cleared k :=
  ⟨pending.trans h.pending, latched.trans h.latched, since.trans h.since, h.render, h.buffer, shift⟩

theorem same (transfer : q.transfer = p.transfer := by rfl) (pending : q.pendingFrame = p.pendingFrame := by rfl)
    (latched : q.lastLatched = p.lastLatched := by rfl) (since : q.latchedSince = p.latchedSince := by rfl) : q.Cleared k :=
  h.withTransfer (transfer ▸ h.shift) pending latched since

theorem endTransfer : p.endTransfer.Cleared k := h.withTransfer (fun _ e => nomatch e)

theorem run : p.run.Cleared k :=
  ⟨h.pending, h.latched, rfl, h.render, h.buffer, h.shift⟩

theorem stopPass : p.stopPass.Cleared k := by
  refine h.withTransfer fun t e => h.shift t ?_
  unfold Port.stopPass at e
  dsimp only at e
  split at e
  · cases e
  · cases e
  · exact e

/-- Of the transfers that wait, none that begins takes a frame: the send buffer is empty (R125). -/
theorem firstOf (n : Nat) (ws : List Waiting) : ∀ t, (p.firstOf n ws).1 = some t → t.fromBuffer = false := by
  induction ws with
  | nil => exact fun _ e => nomatch e
  | cons w ws ih =>
    unfold Port.firstOf
    rcases w with (_ | _) | _ | _
    · simpa [Port.transferFor, h.pending] using ih
    · simpa [Port.transferFor, h.latched] using ih
    · rintro _ ⟨⟩; rfl
    · rintro _ ⟨⟩; rfl

theorem beginNext (n : Nat) : (p.beginNext n).Cleared k := by
  unfold Port.beginNext
  split
  · exact h
  · exact h.withTransfer (h.firstOf n p.waiting)

theorem fallDue (n : Nat) (w : Waiting) : (p.fallDue n w).Cleared k :=
  Port.Cleared.beginNext (h.same : Port.Cleared { p with waiting := p.waiting ++ [w] } k) n

theorem closed (n : Nat) : (p.closed n).Cleared k := by
  have off : Port.Cleared { p with state := .off } k := h.same
  unfold Port.closed
  split
  · exact off
  · exact off.fallDue n .dark

theorem resumeIf (sleepPending : Bool) : (p.resumeIf sleepPending).Cleared k := by
  rcases p.resumeIf_cases sleepPending with ⟨e, -⟩ | ⟨-, -, -, e⟩ <;> rw [e]
  · exact h
  · split
    · exact ⟨h.pending, h.latched, rfl, h.render, h.buffer, h.shift⟩
    · exact h.same

theorem wake : p.wake.Cleared k := by
  have unmarked : Port.Cleared { p with wakeMark := false } k := h.same
  unfold Port.wake
  split
  · exact unmarked.run
  · exact h

theorem judge (correct : Bool) : (p.judge correct).Cleared k := by
  unfold Port.judge
  split_ifs <;> exact h.same

end Port.Cleared

section
variable {p : Port} {k : Comp}

theorem Port.resumeIf_leaves (sleepPending : Bool) (out : (p.resumeIf sleepPending).state ≠ .running) :
    p.state ≠ .running := by
  rcases p.resumeIf_cases sleepPending with ⟨e, -⟩ | ⟨-, -, -, e⟩ <;> rw [e] at out
  · exact out
  · split at out
    · exact absurd rfl out
    · exact out

theorem Port.fallDue_state (n : Nat) (w : Waiting) : (p.fallDue n w).state = p.state := Port.beginNext_state

theorem Port.judge_state (correct : Bool) : (p.judge correct).state = p.state := by
  unfold Port.judge
  split_ifs <;> rfl

theorem PortHolds.beginNext (h : PortHolds p k) (n : Nat) : PortHolds (p.beginNext n) k :=
  h.map (by rw [Port.beginNext_state]; exact id) (·.beginNext n)

theorem PortHolds.resumeIf (h : PortHolds p k) (sleepPending : Bool) : PortHolds (p.resumeIf sleepPending) k :=
  h.map (Port.resumeIf_leaves sleepPending) (·.resumeIf sleepPending)

theorem PortHolds.wake (h : PortHolds p k) : PortHolds p.wake k := by
  refine h.map (fun out => ?_) (·.wake)
  unfold Port.wake at out
  split at out
  · exact absurd rfl out
  · exact out

/-- SLEEP empties the send buffer of a RUNNING port and abandons its render (R83, R146). -/
theorem PortHolds.slept (h : PortHolds p k) (n : Nat) :
    PortHolds (p.slept n) (if p.state = .running then k.abandoned else k) := by
  refine Port.Cleared.holds ?_
  unfold Port.slept
  cases e : p.state with
  | off => rw [if_neg (by decide)]; exact (h.cleared (by simp [e])).same
  | released => rw [if_neg (by decide)]; exact (h.cleared (by simp [e])).same
  | running => rw [if_pos rfl]; exact ((p.left_cleared k).closed n).same
  | enumerating => rw [if_neg (by decide)]; exact ((h.cleared (by simp [e])).stopPass.closed n).same

end

/-! ### The law on one chain -/

/-- Chain `c` holds to R83 and R130. -/
def State.ChainHolds (s : State) (c : Chain) : Prop := PortHolds (s.port c) (s.comp c)

/-- The send buffer of chain `c` is empty, and it has no render in flight. -/
def State.ChainCleared (s : State) (c : Chain) : Prop := (s.port c).Cleared (s.comp c)

section
variable {s t : State} {c : Chain}

theorem State.ChainHolds.congr (h : s.ChainHolds c) (port : t.port c = s.port c := by simp)
    (comp : t.comp c = s.comp c := by simp) : t.ChainHolds c := by
  rwa [State.ChainHolds, port, comp]

theorem State.ChainCleared.congr (h : s.ChainCleared c) (same : t.chainState = s.chainState) : t.ChainCleared c := by
  simp only [State.chainState, Prod.mk.injEq] at same
  obtain ⟨-, portA, portB, compA, compB⟩ := same
  cases c with
  | a => rwa [State.ChainCleared, State.port, State.comp, portA, compA]
  | b => rwa [State.ChainCleared, State.port, State.comp, portB, compB]

theorem State.ChainHolds.settle (h : s.ChainHolds c) : s.settle.ChainHolds c := h.congr

theorem State.ChainCleared.holds (h : s.ChainCleared c) : s.ChainHolds c := Port.Cleared.holds h

theorem State.ChainHolds.cleared (h : s.ChainHolds c) (out : (s.port c).state ≠ .running) : s.ChainCleared c :=
  PortHolds.cleared h out

theorem State.ChainHolds.onPort (h : s.ChainHolds c) {f : Port → Port}
    (hf : PortHolds (s.port c) (s.comp c) → PortHolds (f (s.port c)) (s.comp c)) : (s.onPort c f).ChainHolds c := by
  rw [State.ChainHolds, State.onPort_port_same, State.onPort_comp]
  exact hf h

theorem State.ChainCleared.setPort (h : s.ChainCleared c) {p : Port}
    (hp : (s.port c).Cleared (s.comp c) → p.Cleared (s.comp c)) : (s.setPort c p).ChainCleared c := by
  rw [State.ChainCleared, State.setPort_port_same, State.setPort_comp]
  exact hp h

/-- Whoever leaves RUNNING empties the send buffer and abandons the render; elsewhere both were empty (R83, R130). -/
theorem State.ChainHolds.leaveRunning (h : s.ChainHolds c) : (s.leaveRunning c).ChainCleared c := by
  unfold State.leaveRunning
  split
  · rw [State.ChainCleared, State.setPort_port_same, State.setPort_comp, State.setComp_comp_same]
    exact Port.left_cleared _ _
  · exact h.cleared ‹_›

theorem State.ChainCleared.beginPass (h : s.ChainCleared c) : (s.beginPass c).ChainCleared c :=
  h.setPort fun k => (k.same : Port.Cleared { s.port c with state := .enumerating } _).fallDue _ _

theorem State.ChainCleared.closePort (h : s.ChainCleared c) : (s.closePort c).ChainCleared c := by
  have closed : s.closePort c = s.setPort c ((s.port c).closed (s.count c)) := rfl
  rw [closed]
  exact h.setPort fun k => k.closed _

theorem State.ChainHolds.takeOff (h : s.ChainHolds c) : (s.takeOff c).1.ChainHolds c := by
  unfold State.takeOff
  split
  · exact h.leaveRunning.closePort.holds
  · have stopped := (h.cleared (by simp [*])).setPort fun k => k.stopPass
    exact stopped.closePort.holds
  · exact h

/-- A frame is copied into the send buffer of a RUNNING port alone: it belongs to a render in flight (R80). -/
theorem State.ChainHolds.completeRender (h : s.ChainHolds c) (render : (s.comp c).render ≠ none) (f : Frame) :
    (s.completeRender c f).ChainHolds c := by
  have running := h.running_of_render render
  unfold State.completeRender
  rw [State.ChainHolds]
  simp only [State.raiseIf_port, State.setPort_port_same, State.raiseIf_comp, State.setPort_comp, State.setComp_comp_same,
    State.setComp_port]
  exact .of_running running fun waits => absurd rfl waits

theorem State.ChainHolds.finishRender (h : s.ChainHolds c) (render : (s.comp c).render ≠ none) (f : Frame) :
    (s.finishRender c f).ChainHolds c := by
  unfold State.finishRender
  split
  · rw [State.ChainHolds, State.setComp_port, State.setComp_comp_same]
    exact .of_running (h.running_of_render render) fun _ => render
  · exact h.completeRender render f

theorem State.ChainHolds.copyFinished (h : s.ChainHolds c) : (s.copyFinished c).ChainHolds c := by
  unfold State.copyFinished
  split
  · rename_i f waits
    split
    · exact h
    · exact h.completeRender (h.2 (by simp [waits])) f
  · exact h

theorem State.ChainHolds.afterTransfer (h : s.ChainHolds c) : (s.afterTransfer c).ChainHolds c := by
  have ended : (s.onPort c Port.endTransfer).ChainHolds c := h.onPort fun k => k.map id (·.endTransfer)
  unfold State.afterTransfer
  exact ended.copyFinished.onPort fun k => (k.resumeIf _).beginNext _

@[simp] theorem State.absorb_port (d : Chain) (bytes : List Byte) : (s.absorb c bytes).port d = s.port d := by
  cases d <;> rfl

@[simp] theorem State.absorb_comp (d : Chain) (bytes : List Byte) : (s.absorb c bytes).comp d = s.comp d := by
  cases d <;> rfl

theorem State.ChainHolds.judgeTrailer (h : s.ChainHolds c) (trailer : List Byte) (n : Nat) :
    (s.judgeTrailer c trailer n).ChainHolds c := by
  have judged : (s.onPort c (·.judge (trailerCorrect trailer n))).ChainHolds c :=
    h.onPort fun k => k.map (by rw [Port.judge_state]; exact id) (·.judge _)
  unfold State.judgeTrailer
  dsimp only
  split
  · exact judged.congr
  · exact judged.congr (by simp)

theorem State.ChainHolds.release (h : s.ChainHolds c) : (s.release c).ChainHolds c := by
  have released : ((s.leaveRunning c).setPort c { ((s.leaveRunning c).port c).stopPass with
      state := .released, returnState := releaseReturn (s.port c).state, wakeMark := false }).ChainCleared c :=
    h.leaveRunning.setPort fun k => k.stopPass.same
  exact released.holds.congr (by simp [State.release]) (by simp [State.release])

end

/-! ### The events on the wires -/

section
variable {s : State} {c : Chain} (h : s.ChainHolds c)
include h

theorem State.ChainHolds.periodStart (running : (s.port c).state = .running) : (s.periodStart c).ChainHolds c := by
  unfold State.periodStart State.latePeriod State.promptPeriod
  split
  · exact h
  · split
    · refine PortHolds.of_running ?_ ?_
      · simp only [State.raiseIf_port, State.setComp_port, State.onPort_port_same]
        split
        · exact Port.fallDue_state _ _ |>.trans running
        · exact running
      · simpa using h.2
    · refine PortHolds.of_running ?_ ?_
      · simp only [State.setComp_port, State.onPort_port_same]
        split
        · exact (Port.fallDue_state _ _).trans running
        · exact running
      · simp

theorem State.ChainHolds.latchDuty {f : Frame} {o : Origin} (shift : (s.port c).transfer = some (.duty f o false)) :
    (s.latchDuty c f o).ChainHolds c := by
  refine State.ChainHolds.onPort (s := { s with dir := _ }) (h.congr) fun k => ?_
  simp only [State.withDir_port, State.withDir_comp] at k ⊢
  cases o with
  | pending => exact k.map id fun cleared => absurd (cleared.shift _ shift) (by simp [Transfer.fromBuffer])
  | repeated => exact k.map id fun cleared => absurd (cleared.shift _ shift) (by simp [Transfer.fromBuffer])
  | detached => exact k.map id fun cleared => cleared.withTransfer (by rintro _ ⟨⟩; rfl)

theorem State.ChainHolds.latchDarkFrame (n : Nat) : (s.latchDarkFrame c n).ChainHolds c :=
  State.ChainHolds.onPort (s := { s with dir := _ }) (h.congr) fun k =>
    k.map id fun cleared => cleared.withTransfer (by rintro _ ⟨⟩; rfl)

theorem State.ChainHolds.completePass (answers : List NodeAnswer) (outcome : PassOutcome) :
    (s.completePass c answers outcome).ChainHolds c := by
  unfold State.completePass
  refine PortHolds.of_running ?_ ?_
  · rw [State.queueAll_port, State.onPort_port_same, Port.beginNext_state]
    rfl
  · simpa using h.2

end

theorem exec_onWires_chainHolds {c : Chain} {i : Instr} (wires : onWiresOf c i) {s : State} (h : s.ChainHolds c) :
    Leaves (exec i s) fun t => t.ChainHolds c := by
  have transfer : ∀ (x : Option Transfer) (k : Option Nat), (∀ t, x = some t → t.fromBuffer = false) →
      (s.onPort c fun p => { p with transfer := x, settle := k }).ChainHolds c := fun x k hx =>
    h.onPort fun k => k.map id fun cleared => cleared.withTransfer hx
  cases i with
  | periodStart d =>
    subst wires
    refine leaves_next.mpr ?_
    split
    · rename_i due
      simp only [State.periodDue, Bool.and_eq_true, decide_eq_true_eq] at due
      have timed : (s.nextPeriod d).ChainHolds d := h.onPort fun k => k.map id fun cleared => cleared.same
      exact (timed.periodStart (by rw [State.nextPeriod_port]; exact due.1.2)).settle
    · exact h
  | renderComplete d =>
    subst wires
    refine leaves_next.mpr ?_
    split
    · split
      · exact (h.finishRender (by simp [*]) _).settle
      · exact h
    · exact h
  | latchPoint d =>
    subst wires
    refine leaves_next.mpr ?_
    split
    · split
      · exact h.latchDuty ‹_›
      · exact h.latchDarkFrame _
      · exact h
    · exact h
  | shiftEnd d trailer =>
    subst wires
    refine leaves_next.mpr ?_
    split
    · split
      · exact (h.judgeTrailer trailer _).afterTransfer.settle
      · exact h
    · exact h
  | identifyRequestEnd d =>
    subst wires
    refine leaves_next.mpr ?_
    split
    · exact transfer none _ (fun _ e => nomatch e)
    · exact h
  | settleEnd d =>
    subst wires
    refine leaves_next.mpr ?_
    split
    · exact transfer (some .collect) _ (by rintro _ ⟨⟩; rfl)
    · exact h
  | collectEnd d returned =>
    subst wires
    refine leaves_next.mpr ?_
    split
    · exact (h.completePass _ _).settle
    · exact h
  | collectMarkerTimeout d =>
    subst wires
    refine leaves_next.mpr ?_
    split
    · refine PortHolds.of_running ?_ ?_
      · rw [State.settle_port, State.queueAll_port, State.onPort_port_same, Port.beginNext_state]
        rfl
      · simpa using h.2
    · exact h
  | foreignActivity d =>
    subst wires
    refine leaves_next.mpr ?_
    have heard : (s.onPort d fun p => { p with foreignActive := true, quietTimer := Config.quietTicks }).ChainHolds d :=
      h.onPort fun k => k.map id fun cleared => cleared.same
    split
    · dsimp only
      split
      · exact heard.settle
      · exact heard.release.settle
    · exact h
  | foreignQuiet d =>
    subst wires
    refine leaves_next.mpr ?_
    split
    · exact h.onPort fun k => k.map id fun cleared => cleared.same
    · exact h
  | _ => exact wires.elim

end Sys2Proof.Machine

namespace Sys2Proof.Machine

/-! ### The law on both chains -/

theorem portsHold_iff {s : State} :
    PortsHold s ↔
      (∀ c, s.ChainHolds c) ∧
        (s.power.part = .starting ∨ s.power.part = .unpowered → ∀ c, (s.port c).state = .off) := by
  constructor
  · rintro ⟨a, b, off⟩
    exact ⟨fun | .a => a | .b => b, fun early c => by cases c; exacts [(off early).1, (off early).2]⟩
  · rintro ⟨chains, off⟩
    exact ⟨chains .a, chains .b, fun early => ⟨off early .a, off early .b⟩⟩

theorem PortsHold.congr {s t : State} (h : PortsHold s) (same : t.chainState = s.chainState) : PortsHold t := by
  simp only [State.chainState, Prod.mk.injEq] at same
  obtain ⟨part, portA, portB, compA, compB⟩ := same
  rwa [PortsHold, part, portA, portB, compA, compB]

/-- From the end of the start-up on the law is that of each chain. -/
theorem PortsHold.of_chains {t : State} (awake : t.power.part = .awake ∨ t.power.part = .dormant)
    (chains : ∀ c, t.ChainHolds c) : PortsHold t :=
  portsHold_iff.mpr ⟨chains, fun early => by rcases awake with e | e <;> rw [e] at early <;> simp at early⟩

theorem PortsHold.chain {s : State} (h : PortsHold s) (c : Chain) : s.ChainHolds c := (portsHold_iff.mp h).1 c

/-- In AWAKE a change on one chain has to meet the law of that chain alone. -/
theorem PortsHold.of_onlyOn {s t : State} {c : Chain} (h : PortsHold s) (awake : s.power.part = .awake)
    (only : s.OnlyOn c t) (own : t.ChainHolds c) : PortsHold t := by
  obtain ⟨power, other⟩ := only
  refine .of_chains (.inl (power ▸ awake)) fun d => ?_
  by_cases e : c = d
  · exact e ▸ own
  · exact (h.chain d).congr (other d e).1 (other d e).2.1

/-- Outside AWAKE nothing happens on the wires (log 2). -/
theorem exec_onWires_asleep {c : Chain} {i : Instr} (wires : onWiresOf c i) {s : State}
    (asleep : s.power.part ≠ .awake) : exec i s = .next s := by
  have idle : s.awake = false := decide_eq_false asleep
  cases i with
  | renderComplete d => exact congrArg Host.Outcome.next (by split <;> simp [idle])
  | shiftEnd d trailer => exact congrArg Host.Outcome.next (by split <;> simp [idle])
  | periodStart d => exact congrArg Host.Outcome.next (if_neg (by simp [State.periodDue, idle]))
  | latchPoint d | identifyRequestEnd d | settleEnd d | collectEnd d returned | collectMarkerTimeout d
  | foreignActivity d | foreignQuiet d => exact congrArg Host.Outcome.next (if_neg (by simp [idle]))
  | _ => exact wires.elim

theorem PortsHold.onWires {c : Chain} {i : Instr} (wires : onWiresOf c i) {s : State} (h : PortsHold s) :
    Leaves (exec i s) PortsHold := by
  by_cases awake : s.power.part = .awake
  · exact fun t leads => h.of_onlyOn awake (exec_onlyOn wires s t leads) (exec_onWires_chainHolds wires (h.chain c) t leads)
  · rw [exec_onWires_asleep wires awake]
    exact leaves_next.mpr h

/-! ### Requests on a chain -/

section
variable {s : State} {c : Chain}

theorem State.enumerate_onlyOn : s.OnlyOn c (State.enumerate c s).state := by
  unfold State.enumerate
  split <;> simp [State.OnlyOn.refl]

theorem State.enumerate_chainHolds (h : s.ChainHolds c) : (State.enumerate c s).state.ChainHolds c := by
  unfold State.enumerate
  split
  · have unmarked : (s.onPort c Port.unmark).ChainCleared c :=
      (h.cleared (by simp [*])).setPort fun k => k.same
    exact unmarked.beginPass.holds
  · exact h.leaveRunning.beginPass.holds
  · exact h
  · exact h

theorem State.retime_onlyOn {t : State} : s.OnlyOn c (t.retime c) ↔ s.OnlyOn c t := by
  unfold State.retime
  split
  · simp
  · simp
  · split <;> simp

theorem State.retime_chainHolds (h : s.ChainHolds c) : (s.retime c).ChainHolds c := by
  unfold State.retime
  split
  · have counted : (s.onPort c Port.countAbort).ChainHolds c := h.onPort fun k => k.map id (·.same)
    exact counted.afterTransfer.congr
  · rename_i n _ _
    have anew : (s.onPort c fun p => { p.countAbort with transfer := some (.dark n false) }).ChainHolds c :=
      h.onPort fun k => k.map id fun cleared => cleared.withTransfer (by rintro _ ⟨⟩; rfl)
    exact anew.congr
  · split
    · have stopped : ((s.leaveRunning c).onPort c Port.stopPass).ChainCleared c :=
        h.leaveRunning.setPort fun k => k.stopPass
      exact stopped.beginPass.holds.congr
    · exact h

theorem State.setTiming_onlyOn (pre sel period : Nat) : s.OnlyOn c (State.setTiming pre sel period c s).state := by
  unfold State.setTiming
  split
  · exact .refl c s
  · exact State.retime_onlyOn.mpr (onlyOn_onPort.mpr (.refl c s))

theorem State.setTiming_chainHolds (h : s.ChainHolds c) (pre sel period : Nat) :
    (State.setTiming pre sel period c s).state.ChainHolds c := by
  unfold State.setTiming
  split
  · exact h
  · exact State.retime_chainHolds (h.onPort fun k => k.map id fun cleared => cleared.same)

theorem State.setChainState_onlyOn (code : Nat) : s.OnlyOn c (State.setChainState code c s).state := by
  unfold State.setChainState State.switchOn State.switchOff
  split
  · split <;> simp [State.OnlyOn.refl]
  · split <;> simp [State.OnlyOn.refl]
  · exact .refl c s

theorem State.setChainState_chainHolds (h : s.ChainHolds c) (code : Nat) :
    (State.setChainState code c s).state.ChainHolds c := by
  unfold State.setChainState State.switchOn State.switchOff
  split
  · split
    · exact h.onPort fun k => k.map (fun out => absurd rfl out) fun cleared => (cleared.same : s.port c |>.unmark.Cleared _).run
    · exact h
    · exact h
  · split
    · exact h
    · exact h
    · exact h.takeOff.congr
  · exact h

theorem State.reclaim_onlyOn : s.OnlyOn c (State.reclaim c s).state := by
  unfold State.reclaim
  dsimp only
  split
  · exact .refl c s
  · split <;> simp [State.OnlyOn.refl]

theorem State.reclaim_chainHolds (h : s.ChainHolds c) : (State.reclaim c s).state.ChainHolds c := by
  unfold State.reclaim
  dsimp only
  split
  · exact h
  · rename_i released
    split
    · exact h
    · refine h.onPort fun k => k.map (fun _ => by simp [not_not.mp released]) fun cleared => ?_
      split
      · exact cleared.run
      · exact cleared.same

end

/-- A request on a chain keeps the law when its owner for the chain acts on that chain alone and keeps the chain's. -/
theorem PortsHold.onChain {s : State} (h : PortsHold s) (awake : s.power.part = .awake) {p : List Byte}
    {owner : Chain → State → Answer} (only : ∀ c, s.OnlyOn c (owner c s).state)
    (own : ∀ c, s.ChainHolds c → (owner c s).state.ChainHolds c) : PortsHold (onChain p s owner).state := by
  unfold Machine.onChain
  split
  · exact h.of_onlyOn awake (only _) (own _ (h.chain _))
  · exact h

/-! ### Power, ticks and sleep -/

theorem PortsHold.rebooted (s : State) (plantHigh : Bool) : PortsHold (s.rebooted plantHigh) := by
  have reset : PortHolds Port.reset Comp.reset := Port.Cleared.holds ⟨rfl, rfl, rfl, rfl, rfl, fun _ e => nomatch e⟩
  exact ⟨reset, reset, fun _ => ⟨rfl, rfl⟩⟩

theorem PortsHold.tick {s : State} (h : PortsHold s) (order : List Nat) : PortsHold (s.tick order) := by
  by_cases awake : s.power.part = .awake
  · obtain ⟨-, power, -, compA, compB, -, portA, portB, -⟩ := State.tick_sameButLayers awake order
    obtain ⟨-, power', -, compA', compB', -⟩ := s.ticked_frame
    refine .of_chains (.inl (by rw [power, power']; exact awake)) fun c => ?_
    have ticked : PortHolds (s.port c).tick (s.comp c) := PortHolds.map (h.chain c) id fun cleared => cleared.same
    cases c with
    | a => rwa [State.ChainHolds, State.port, State.comp, portA, compA, compA']
    | b => rwa [State.ChainHolds, State.port, State.comp, portB, compB, compB']
  · rcases State.tick_asleep awake order with e | e <;> rw [e]
    · exact h
    · exact h

/-- In STARTING both ports are OFF, so that the passes of the start-up find their send buffers empty (R139). -/
theorem PortsHold.startup {s : State} (h : PortsHold s) (starting : s.power.part = .starting) :
    PortsHold s.load.enterAwake := by
  obtain ⟨chains, off⟩ := portsHold_iff.mp h
  have cleared : ∀ c, (s.port c).Cleared (s.comp c) := fun c => (chains c).cleared (by simp [off (.inl starting) c])
  have loaded : ∀ c, s.load.awakened.ChainCleared c := fun | .a => (cleared .a).same | .b => (cleared .b).same
  have lit : ∀ c, s.load.lit.ChainCleared c := fun c => (loaded c).congr (by unfold State.lit; split <;> simp)
  have passA : (s.load.lit.beginPass .a).ChainHolds .a := (lit .a).beginPass.holds
  have passB : ((s.load.lit.beginPass .a).beginPass .b).ChainHolds .b :=
    State.ChainCleared.holds (State.ChainCleared.beginPass (lit .b))
  obtain ⟨power, -⟩ := s.load.lit_frame
  have awake : ((s.load.lit.beginPass .a).beginPass .b).power.part = .awake := by simp [power]
  exact .of_chains (.inl awake) fun | .a => passA | .b => passB

theorem PortsHold.getCounters {s : State} (h : PortsHold s) (p : List Byte) : PortsHold (getCounters p s).state := by
  unfold Machine.getCounters
  split
  · dsimp only
    split
    · obtain ⟨chains, off⟩ := portsHold_iff.mp h
      refine portsHold_iff.mpr ⟨fun c => ?_, fun early c => ?_⟩
      · cases c with
        | a => exact PortHolds.map (chains .a) id (·.same)
        | b => exact PortHolds.map (chains .b) id (·.same)
      · cases c with
        | a => exact off early .a
        | b => exact off early .b
    · exact h
  · exact h

theorem PortsHold.sleep {s : State} (h : PortsHold s) (awake : s.power.part = .awake) : PortsHold (sleep s).state := by
  rcases sleep_cases s with ⟨-, -, e, -⟩ | ⟨-, -, -, e⟩ <;> rw [e]
  · exact h
  · obtain ⟨-, -, -, -, -, -, -, power, port, comp⟩ := s.fallAsleep_rest
    refine .of_chains (.inl (by simpa using awake)) fun c => ?_
    rw [State.ChainHolds, Answer.plain_state, port, comp]
    exact PortHolds.slept (h.chain c) _

theorem PortsHold.cancelSleep {s : State} (h : PortsHold s) (awake : s.power.part = .awake) : PortsHold s.cancelSleep := by
  unfold State.cancelSleep
  split
  · refine .of_chains (.inl awake) fun c => ?_
    cases c with
    | a => exact PortHolds.resumeIf (h.chain .a) false
    | b => exact PortHolds.resumeIf (h.chain .b) false
  · exact h

theorem PortsHold.wake {s : State} (h : PortsHold s) : PortsHold s.wake :=
  .of_chains (.inl rfl) fun
    | .a => PortHolds.wake (h.chain .a)
    | .b => PortHolds.wake (h.chain .b)

theorem PortHolds.dormant {p : Port} {k : Comp} (h : PortHolds p k) : PortHolds p.dormant k :=
  h.map (fun out running => out (by simp [Port.dormant, running])) fun cleared => cleared.same

theorem exec_keeps_ports (c : Instr) (s : State) (h : PortsHold s) : Leaves (exec c s) PortsHold := by
  have link : ∀ (s : State) (l : Link), PortsHold s → PortsHold { s with link := l } := fun _ _ => id
  cases c with
  | powerOn hi => exact leaves_next.mpr (.rebooted s hi)
  | supplyRemoval =>
    have reset := PortsHold.rebooted s s.power.plantHigh
    exact leaves_next.mpr ⟨reset.1, reset.2.1, fun _ => ⟨rfl, rfl⟩⟩
  | restartTaken =>
    refine leaves_next.mpr ?_
    split
    · exact PortsHold.rebooted s s.power.plantHigh
    · exact h
  | startupComplete =>
    refine leaves_next.mpr ?_
    split
    · exact h.startup ‹_›
    · exact h
  | tick order => exact leaves_next.mpr (h.tick order)
  | debouncedAssertion =>
    refine leaves_next.mpr ?_
    split
    · have latched : PortsHold s.takeEgressLevel.latchEgress := h
      dsimp only
      split
      · rename_i awake
        have lit : PortsHold s.takeEgressLevel.latchEgress.lightEgress := latched.congr (by
          unfold State.lightEgress
          split <;> simp)
        exact lit.cancelSleep (by simpa [State.awake] using awake)
      · exact latched
    · exact h
  | periodStart c | renderComplete c | latchPoint c | shiftEnd c trailer | identifyRequestEnd c | settleEnd c
  | collectEnd c returned | collectMarkerTimeout c | foreignActivity c | foreignQuiet c =>
    exact PortsHold.onWires (c := c) (by exact rfl) h
  | getCounters tag p => exact leaves_next.mpr (State.serve_keeps link (fun _ _ k => k.getCounters p) h)
  | enumerate tag p =>
    exact leaves_next.mpr (State.serve_keeps_awake link rfl (fun _ awake k =>
      k.onChain awake (fun _ => State.enumerate_onlyOn) fun _ => State.enumerate_chainHolds) h)
  | setChainTiming tag p =>
    exact leaves_next.mpr (State.serve_keeps_awake link rfl (fun _ awake k =>
      k.onChain awake (fun _ => State.setTiming_onlyOn _ _ _) fun _ own => State.setTiming_chainHolds own _ _ _) h)
  | setChainBudget tag p =>
    exact leaves_next.mpr (State.serve_keeps_awake link rfl (fun t awake k =>
      k.onChain awake (fun c => onlyOn_onPort.mpr (.refl c t)) fun _ own =>
        own.onPort fun m => m.map id fun cleared => cleared.same) h)
  | setChainStateOff tag p | setChainStateOn tag p =>
    exact leaves_next.mpr (State.serve_keeps_awake link rfl (fun _ awake k =>
      k.onChain awake (fun _ => State.setChainState_onlyOn _) fun _ own => State.setChainState_chainHolds own _) h)
  | reclaimChain tag p =>
    exact leaves_next.mpr (State.serve_keeps_awake link rfl (fun _ awake k =>
      k.onChain awake (fun _ => State.reclaim_onlyOn) fun _ => State.reclaim_chainHolds) h)
  | sleep tag p => exact leaves_next.mpr (State.serve_keeps_awake link rfl (fun _ awake k => k.sleep awake) h)
  | dormantEntry =>
    refine leaves_next.mpr ?_
    split
    · exact .of_chains (.inr rfl) fun
        | .a => PortHolds.dormant (h.chain .a)
        | .b => PortHolds.dormant (h.chain .b)
    · exact h
  | wakeByLink => exact leaves_next.mpr (by split; exacts [h.wake, h])
  | wakeByEgress => exact leaves_next.mpr (by split; exacts [h.wake, h])
  | _ => exact fun t leads => h.congr (exec_chainState rfl s t leads)

/-- Settles O10: whatever takes a port out of RUNNING empties its send buffer and abandons its render first, and nothing
fills them but in RUNNING. -/
theorem stepKeepsPorts : Obligations.StepKeepsPorts :=
  step_keeps (P := PortsHold) (fun _ _ => id) exec_keeps_ports

end Sys2Proof.Machine

namespace Sys2Proof.Machine

/-! ### The top layer of a node (R88, R89) -/

section
variable (zones : List (BitVec 8)) (n : SnapNode)

/-- Composition order is the order of (level, slot). -/
theorem SnapLayer.before_iff {l k : SnapLayer} :
    l.before k = true ↔ l.level < k.level ∨ (l.level = k.level ∧ l.slot ≤ k.slot) := by
  simp [SnapLayer.before]

/-- The layers stand in composition order. -/
theorem Snapshot.ordered_pairwise (p : Snapshot) : p.ordered.Pairwise fun l k => l.before k = true := by
  have total : Std.Total fun l k : SnapLayer => l.before k = true :=
    ⟨fun l k => by simp only [SnapLayer.before_iff, Fin.le_def]; omega⟩
  have trans : IsTrans SnapLayer fun l k => l.before k = true :=
    ⟨fun l k m hlk hkm => by simp only [SnapLayer.before_iff, Fin.le_def] at *; omega⟩
  exact List.pairwise_insertionSort _ _

theorem Snapshot.mem_ordered {p : Snapshot} {l : SnapLayer} : l ∈ p.ordered ↔ l ∈ p.layers :=
  List.mem_insertionSort _

/-- Layers composed one over the other leave the last that covers the node, where one does. -/
theorem foldl_composeStep_top (acc : Rgb × Option SnapLayer) (ls : List SnapLayer) :
    (ls.foldl (composeStep zones n) acc).2 =
      ((ls.filter fun l => (l.covers zones n).isSome).getLast?.or acc.2) := by
  induction ls generalizing acc with
  | nil => rfl
  | cons l ls ih =>
    rw [List.foldl_cons, ih, List.filter_cons]
    unfold composeStep
    cases l.covers zones n with
    | none => rfl
    | some k => simp [List.getLast?_cons]

end

/-- The layers of a snapshot that cover a node, in composition order. -/
def Snapshot.covering (p : Snapshot) (n : SnapNode) : List SnapLayer :=
  p.ordered.filter fun l => (l.covers p.zones n).isSome

theorem Snapshot.mem_covering {p : Snapshot} {n : SnapNode} {l : SnapLayer} :
    l ∈ p.covering n ↔ l ∈ p.layers ∧ l.covers p.zones n ≠ none := by
  simp [Snapshot.covering, Snapshot.mem_ordered, Option.isSome_iff_ne_none]

theorem Snapshot.compose_top (p : Snapshot) (n : SnapNode) : (p.compose n).2 = (p.covering n).getLast? := by
  simp [Snapshot.compose, foldl_composeStep_top, Snapshot.covering]

/-- Settles O21: the top layer is the last covering layer in composition order. -/
theorem topLayerIsGreatest : Obligations.TopLayerIsGreatest := by
  intro p n
  rw [Snapshot.compose_top]
  refine ⟨?_, fun top found => ?_⟩
  · simp [List.eq_nil_iff_forall_not_mem, Snapshot.mem_covering]
  · obtain ⟨init, split⟩ := List.getLast?_eq_some_iff.mp found
    obtain ⟨held, covers⟩ := Snapshot.mem_covering.mp (split ▸ List.mem_append_right init (List.mem_singleton_self top))
    have sorted : (init ++ [top]).Pairwise fun l k => l.before k = true := split ▸ p.ordered_pairwise.filter _
    refine ⟨held, covers, fun l layer covered => ?_⟩
    have listed : l ∈ init ++ [top] := split ▸ Snapshot.mem_covering.mpr ⟨layer, covered⟩
    rcases List.mem_append.mp listed with earlier | last
    · exact SnapLayer.before_iff.mp ((List.pairwise_append.mp sorted).2.2 l earlier top (List.mem_singleton_self top))
    · rw [List.mem_singleton.mp last]
      exact .inr ⟨rfl, Nat.le_refl _⟩

/-! ### Duty caps and the chain budget (R93 to R98) -/

theorem derate_calibrate_le (overtemp : Bool) (lin gain cap : Nat) : derate overtemp (calibrate lin gain cap) ≤ cap := by
  have limited : calibrate lin gain cap ≤ cap := Nat.min_le_left _ _
  unfold derate
  split
  · exact (Nat.div_le_self _ 2).trans limited
  · exact limited

/-- Before the budget every duty is within its node's cap: a covered node's by calibration, an uncovered node's is 0. -/
theorem Snapshot.entry_duty_le (p : Snapshot) (n : SnapNode) :
    (p.entry n).duty.r ≤ n.cap ∧ (p.entry n).duty.g ≤ n.cap ∧ (p.entry n).duty.b ≤ n.cap := by
  unfold Snapshot.entry
  split
  · exact ⟨derate_calibrate_le _ _ _ _, derate_calibrate_le _ _ _ _, derate_calibrate_le _ _ _ _⟩
  · exact ⟨Nat.zero_le _, Nat.zero_le _, Nat.zero_le _⟩

theorem Snapshot.scale_le (p : Snapshot) : p.scale ≤ 4096 := by
  unfold Snapshot.scale
  split
  · exact Nat.le_refl _
  · rename_i exceeds
    exact Nat.div_le_of_le_mul (Nat.mul_le_mul_right _ (Nat.le_of_not_le exceeds))

theorem mul_div_scale_le {k d cap : Nat} (scale : k ≤ 4096) (h : d ≤ cap) : d * k / 4096 ≤ cap := by
  have kept : d * k / 4096 ≤ d := Nat.div_le_of_le_mul (by rw [Nat.mul_comm 4096]; exact Nat.mul_le_mul_left d scale)
  exact kept.trans h

theorem scaled_le {k cap : Nat} {d : Rgb} (scale : k ≤ 4096) (h : d.r ≤ cap ∧ d.g ≤ cap ∧ d.b ≤ cap) :
    (scaled k d).r ≤ cap ∧ (scaled k d).g ≤ cap ∧ (scaled k d).b ≤ cap := by
  obtain ⟨r, g, b⟩ := h
  unfold scaled
  split
  · exact ⟨r, g, b⟩
  · exact ⟨mul_div_scale_le scale r, mul_div_scale_le scale g, mul_div_scale_le scale b⟩

/-- Scaling lowers a node's draw at least in proportion: the duties are rounded down. -/
theorem drawOf_scaled_le (k : Nat) (d i : Rgb) : drawOf (scaled k d) i * 4096 ≤ drawOf d i * k := by
  have channel : ∀ x c : Nat, x * k / 4096 * c * 4096 ≤ x * c * k := fun x c => by
    calc x * k / 4096 * c * 4096 = x * k / 4096 * 4096 * c := by ring
      _ ≤ x * k * c := Nat.mul_le_mul_right c (Nat.div_mul_le_self _ _)
      _ = x * c * k := by ring
  unfold scaled
  split
  · subst k
    exact Nat.le_refl _
  · have r := channel d.r i.r
    have g := channel d.g i.g
    have b := channel d.b i.b
    simp only [drawOf, Nat.add_mul]
    exact Nat.add_le_add (Nat.add_le_add r g) b

/-- The frame's draw is within the budget: unscaled it is T, and scaled it is at most T·S/4096 (R98). -/
theorem Snapshot.scaled_draw_le (p : Snapshot) :
    (p.nodes.map fun n => drawOf (scaled p.scale (p.entry n).duty) n.drawn).sum ≤ p.budgetSum := by
  have proportion : (p.nodes.map fun n => drawOf (scaled p.scale (p.entry n).duty) n.drawn).sum * 4096 ≤ p.total * p.scale := by
    rw [Snapshot.total, ← List.sum_map_mul_right, ← List.sum_map_mul_right]
    exact List.sum_le_sum fun n _ => drawOf_scaled_le _ _ _
  have within : p.total * p.scale ≤ p.budgetSum * 4096 := by
    unfold Snapshot.scale
    split
    · exact Nat.mul_le_mul_right _ ‹_›
    · exact Nat.mul_div_le _ _
  exact Nat.le_of_mul_le_mul_right (proportion.trans within) (by decide)

/-- Each entry of a frame stands beside its node. -/
theorem Snapshot.zip_entries (p : Snapshot) :
    p.frame.entries.zip p.nodes =
      p.nodes.map fun n => ((⟨scaled p.scale (p.entry n).duty, (p.entry n).top⟩ : Entry), n) := by
  have beside := List.zip_map' (f := fun n => (⟨scaled p.scale (p.entry n).duty, (p.entry n).top⟩ : Entry)) (g := id)
    (l := p.nodes)
  rwa [List.map_id] at beside

/-- Settles O22: calibration holds each duty within its cap, and the scale holds their draw within the budget. -/
theorem frameWithinCapsAndBudget : Obligations.FrameWithinCapsAndBudget := by
  intro p
  rw [Snapshot.zip_entries]
  refine ⟨by simp [Snapshot.frame], fun e listed => ?_, ?_⟩
  · obtain ⟨n, -, rfl⟩ := List.mem_map.mp listed
    exact scaled_le p.scale_le (p.entry_duty_le n)
  · rw [List.map_map]
    exact p.scaled_draw_le

end Sys2Proof.Machine

namespace Sys2Proof.Machine

/-! ### RENDER_COMPLETE (R79, R80, R100) -/

section
variable {l : Link} {f g : Flag}

theorem Link.flag_raiseIf_same (l : Link) (f : Flag) {b : Bool} (h : b = true) : (l.raiseIf b f).flag f ≠ .clear := by
  rw [Link.raiseIf, if_pos h]
  exact l.flag_raise_same f

theorem Link.flag_raiseIf (b : Bool) (g : Flag) (h : l.flag f ≠ .clear) : (l.raiseIf b g).flag f ≠ .clear := by
  unfold Link.raiseIf
  split
  · exact Link.flag_raise g h
  · exact h

theorem Link.flag_raiseIf_other (l : Link) (b : Bool) (h : g ≠ f) : (l.raiseIf b g).flag f = l.flag f := by
  unfold Link.raiseIf
  split
  · exact l.raise_flag_other h
  · rfl

end

/-- The Compositor's record when a frame has been copied into the send buffer: the render is complete (R80, R101). -/
def Comp.completed (k : Comp) (f : Frame) : Comp :=
  { k with render := none, buffer := none, lastScale := f.scale, lastTotal := f.total,
           scaleMark := decide (f.scale < 4096) }

section
variable {s : State} {c : Chain}

@[simp] theorem State.completeRender_port (f : Frame) :
    (s.completeRender c f).port c = { s.port c with pendingFrame := some f } := by
  simp [State.completeRender]

@[simp] theorem State.completeRender_comp (f : Frame) : (s.completeRender c f).comp c = (s.comp c).completed f := by
  simp [State.completeRender, Comp.completed]

@[simp] theorem State.completeRender_dir (f : Frame) : (s.completeRender c f).dir = s.dir := by
  simp [State.completeRender]

/-- A run of scaled renders begins with BUDGET_LIMIT (R100). -/
theorem State.completeRender_link (f : Frame) :
    (s.completeRender c f).link = s.link.raiseIf (decide (f.scale < 4096) && !(s.comp c).scaleMark) .budgetLimit := by
  simp [State.completeRender, State.raiseIf]

theorem State.finishRender_free (free : (s.port c).shiftingDuty = false) (f : Frame) :
    s.finishRender c f = s.completeRender c f := by
  simp [State.finishRender, free]

theorem State.finishRender_busy (busy : (s.port c).shiftingDuty = true) (f : Frame) :
    s.finishRender c f = s.setComp c { s.comp c with buffer := some f } := by
  simp [State.finishRender, busy]

theorem exec_renderComplete_of_render {p : Snapshot} (awake : s.power.part = .awake) (render : (s.comp c).render = some p)
    (buffer : (s.comp c).buffer = none) : exec (.renderComplete c) s = .next (s.finishRender c p.frame).settle := by
  show execRenderComplete c s = _
  simp [execRenderComplete, render, buffer, State.awake, awake]

end

/-- Settles O34: the finished frame is copied and completes its render, or waits in the buffer. -/
theorem renderCompletes : Obligations.RenderCompletes := by
  intro c s p awake render buffer
  have leads := exec_renderComplete_of_render awake render buffer
  obtain ⟨arb, -, pool, -⟩ := exec_sameLayers (c := .renderComplete c) rfl s _ leads
  refine ⟨_, leads, arb, ?_, pool, fun free => ?_, fun busy => ?_⟩
  · rw [State.settle_dir]
    unfold State.finishRender
    split <;> simp
  · rw [State.finishRender_free free, State.settle_port, State.settle_comp, State.completeRender_port,
      State.completeRender_comp]
    refine ⟨rfl, rfl, fun limited unmarked => Link.flag_startNext ?_⟩
    rw [State.completeRender_link]
    exact Link.flag_raiseIf_same _ _ (by simp [limited, unmarked])
  · rw [State.finishRender_busy busy, State.settle_port, State.settle_comp, State.setComp_port, State.setComp_comp_same]
    exact ⟨rfl, rfl⟩

/-! ### LATCH_POINT (R82, R119, R132) -/

/-- A latch word records the entries position by position. -/
theorem latchEntries_eq_zipWith {ns : List Node} {es : List Entry} (h : es.length = ns.length) :
    latchEntries ns es =
      List.zipWith (fun (n : Node) (e : Entry) => { n with sent := true, lastSent := e.duty, top := e.top }) ns es := by
  induction ns generalizing es with
  | nil => cases List.length_eq_zero_iff.mp h; rfl
  | cons n ns ih =>
    cases es with
    | nil => cases h
    | cons e es => rw [latchEntries, List.zipWith_cons_cons, ih (Nat.succ.inj h)]

section
variable {s : State} {c : Chain}

theorem State.latchDuty_nodes (f : Frame) (o : Origin) :
    (s.latchDuty c f o).dir.nodes c = latchEntries (s.dir.nodes c) f.entries := by simp [State.latchDuty]

theorem State.latchDuty_pending (f : Frame) :
    (s.latchDuty c f .pending).port c =
      { s.port c with pendingFrame := none, lastLatched := some f, latchedSince := true,
                      transfer := some (.duty f .pending true) } := by simp [State.latchDuty]

theorem State.latchDarkFrame_nodes (n : Nat) : (s.latchDarkFrame c n).dir.nodes c = latchDark (s.dir.nodes c) := by
  simp [State.latchDarkFrame]

theorem State.latchDarkFrame_port (n : Nat) :
    (s.latchDarkFrame c n).port c = { s.port c with transfer := some (.dark n true) } := by simp [State.latchDarkFrame]

theorem exec_latchPoint_duty {f : Frame} {o : Origin} (awake : s.power.part = .awake)
    (shift : (s.port c).transfer = some (.duty f o false)) : exec (.latchPoint c) s = .next (s.latchDuty c f o) := by
  show execLatchPoint c s = _
  simp [execLatchPoint, State.awake, awake, shift]

theorem exec_latchPoint_dark {n : Nat} (awake : s.power.part = .awake)
    (shift : (s.port c).transfer = some (.dark n false)) : exec (.latchPoint c) s = .next (s.latchDarkFrame c n) := by
  show execLatchPoint c s = _
  simp [execLatchPoint, State.awake, awake, shift]

end

/-- Settles O35: the latch of a duty frame from the pending place, and that of a dark frame. -/
theorem latchPointTakesEffect : Obligations.LatchPointTakesEffect := by
  refine ⟨fun c s f awake shift length => ⟨_, exec_latchPoint_duty awake shift, ?_⟩,
    fun c s n awake shift => ⟨_, exec_latchPoint_dark awake shift, ?_⟩⟩
  · rw [State.latchDuty_pending, State.latchDuty_nodes, latchEntries_eq_zipWith length]
    exact ⟨rfl, rfl, rfl, rfl, rfl, by simp [State.latchDuty], by simp [State.latchDuty]⟩
  · rw [State.latchDarkFrame_port, State.latchDarkFrame_nodes]
    exact ⟨rfl, rfl, rfl, by simp [State.latchDarkFrame], by simp [State.latchDarkFrame]⟩

end Sys2Proof.Machine

namespace Sys2Proof.Machine

/-! ### Status bytes (R116, R118) -/

theorem absorbAll_length (ns : List Node) (bs : List Byte) : (absorbAll ns bs).length = ns.length := by
  induction ns generalizing bs with
  | nil => cases bs <;> rfl
  | cons n ns ih =>
    cases bs with
    | nil => rfl
    | cons b bs => rw [absorbAll, List.length_cons, ih, List.length_cons]

/-- The record at a position absorbs the status byte at that position. -/
theorem absorbAll_getElem? {ns : List Node} {bs : List Byte} {k : Nat} {n : Node} {b : Byte} (node : ns[k]? = some n)
    (byte : bs[k]? = some b) : (absorbAll ns bs)[k]? = some (n.absorb b) := by
  induction ns generalizing bs k with
  | nil => cases node
  | cons m ns ih =>
    cases bs with
    | nil => cases byte
    | cons d bs =>
      cases k with
      | zero =>
        cases node
        cases byte
        rfl
      | succ k => exact ih node byte

/-- NODE_OVERTEMP's condition: at some position the overtemp goes from no to yes (R118). -/
theorem gainedOvertemp_iff {old new : List Node} :
    gainedOvertemp old new = true ↔
      ∃ (k : Nat) (a b : Node), old[k]? = some a ∧ new[k]? = some b ∧ a.status.overtemp = false ∧
        b.status.overtemp = true := by
  unfold gainedOvertemp
  rw [List.any_eq_true]
  constructor
  · rintro ⟨⟨a, b⟩, listed, gains⟩
    obtain ⟨k, place⟩ := List.mem_iff_getElem?.mp listed
    obtain ⟨ha, hb⟩ := List.getElem?_zip_eq_some.mp place
    simp only [Bool.and_eq_true, Bool.not_eq_true'] at gains
    exact ⟨k, a, b, ha, hb, gains⟩
  · rintro ⟨k, a, b, ha, hb, before, after⟩
    exact ⟨(a, b), List.mem_iff_getElem?.mpr ⟨k, List.getElem?_zip_eq_some.mpr ⟨ha, hb⟩⟩, by simp [before, after]⟩

theorem gainedOvertemp_same (ns : List Node) : gainedOvertemp ns ns = false := by
  rw [← Bool.not_eq_true, gainedOvertemp_iff]
  rintro ⟨k, a, b, ha, hb, before, after⟩
  cases ha.symm.trans hb
  exact absurd (before.symm.trans after) (by decide)

/-! ### The judged trailer (R133, R134) -/

section
variable {s : State} {c : Chain} {trailer : List Byte} {n : Nat}

@[simp] theorem State.judgeTrailer_port :
    (s.judgeTrailer c trailer n).port c = (s.port c).judge (trailerCorrect trailer n) := by
  unfold State.judgeTrailer
  dsimp only
  split <;> simp

@[simp] theorem State.judgeTrailer_comp : (s.judgeTrailer c trailer n).comp c = s.comp c := by
  unfold State.judgeTrailer
  dsimp only
  split <;> simp

/-- The trailer of a correct frame is handed over, unless the chain stays broken (R134). -/
theorem State.judgeTrailer_dir :
    (s.judgeTrailer c trailer n).dir =
      if (trailerCorrect trailer n && !((s.port c).judge (trailerCorrect trailer n)).loopBroken) = true then
        s.dir.setNodes c (absorbAll (s.dir.nodes c) (trailer.drop 2))
      else s.dir := by
  unfold State.judgeTrailer
  dsimp only
  split <;> simp [State.absorb]

/-- The flags of a judged trailer: LOOP_BREAK_x at the entry to LOOP_BROKEN, NODE_OVERTEMP where a record gains
overtemp (R134, R118). -/
theorem State.judgeTrailer_link :
    (s.judgeTrailer c trailer n).link =
      (s.link.raiseIf (((s.port c).judge (trailerCorrect trailer n)).loopBroken && !(s.port c).loopBroken)
        (loopBreakFlag c)).raiseIf
        (gainedOvertemp (s.dir.nodes c) ((s.judgeTrailer c trailer n).dir.nodes c)) .nodeOvertemp := by
  rw [State.judgeTrailer_dir]
  unfold State.judgeTrailer
  dsimp only
  split
  · simp [State.absorb, State.raiseIf]
  · simp [State.raiseIf, gainedOvertemp_same, Link.raiseIf]

@[simp] theorem State.judgeTrailer_count : (s.judgeTrailer c trailer n).count c = s.count c := by
  rw [State.count, State.judgeTrailer_dir]
  split
  · rw [Directory.setNodes_nodes_same, absorbAll_length, State.count]
  · rfl

@[simp] theorem State.judgeTrailer_power : (s.judgeTrailer c trailer n).power = s.power :=
  (sameLayers_judgeTrailer.mpr (SameLayers.refl s)).2.1

end

/-! The table of R134, row by row -/

section
variable {p : Port}

theorem Port.judge_sound_correct (sound : p.loopBroken = false) : p.judge true = { p with failingRun := 0 } := by
  simp [Port.judge, sound]

theorem Port.judge_sound_failing (sound : p.loopBroken = false) (run : p.failingRun < 2) :
    p.judge false = { p with failingRun := p.failingRun + 1 } := by
  simp [Port.judge, sound, run]

theorem Port.judge_breaks (sound : p.loopBroken = false) (run : p.failingRun = 2) :
    p.judge false =
      { p with failingRun := 3, loopBroken := true, loopBreaks := countUp p.loopBreaks, correctRun := 0 } := by
  simp [Port.judge, sound, run]

theorem Port.judge_broken_correct (broken : p.loopBroken = true) (run : p.correctRun < 2) :
    p.judge true = { p with correctRun := p.correctRun + 1 } := by
  simp [Port.judge, broken, run]

theorem Port.judge_heals (broken : p.loopBroken = true) (run : p.correctRun = 2) :
    p.judge true = { p with correctRun := 3, loopBroken := false, failingRun := 0 } := by
  simp [Port.judge, broken, run]

theorem Port.judge_broken_failing (broken : p.loopBroken = true) : p.judge false = { p with correctRun := 0 } := by
  simp [Port.judge, broken]

/-- A judged frame changes the runs, LOOP_BROKEN and its count alone. -/
theorem Port.judge_eq (p : Port) (correct : Bool) :
    ∃ failing right broken breaks, p.judge correct =
      { p with failingRun := failing, correctRun := right, loopBroken := broken, loopBreaks := breaks } := by
  unfold Port.judge
  split_ifs <;> exact ⟨_, _, _, _, rfl⟩

end

/-! ### The end of a transfer (R80, R125, R207) -/

/-- The Compositor's record when a transfer has ended: a frame that waited is copied (R80). -/
def Comp.handedOver (k : Comp) : Comp :=
  match k.buffer with
  | some f => k.completed f
  | none => k

/-- The port whose transfer has ended: a finished frame that waited takes the pending place (R80). -/
def Port.handedOver (p : Port) (finished : Option Frame) : Port :=
  { p with transfer := none, pendingFrame := finished <|> p.pendingFrame }

/-- The copy of a waiting frame begins a run of scaled renders (R100). -/
def Comp.limits (k : Comp) : Bool := k.buffer.any fun f => decide (f.scale < 4096) && !k.scaleMark

section
variable {s : State} {c : Chain}

/-- With no duty frame in its shift, what waits in the buffer is copied. -/
theorem State.copyFinished_free (free : (s.port c).shiftingDuty = false) :
    (s.copyFinished c).port c = { s.port c with pendingFrame := (s.comp c).buffer <|> (s.port c).pendingFrame } ∧
      (s.copyFinished c).comp c = (s.comp c).handedOver ∧ (s.copyFinished c).dir = s.dir ∧
      (s.copyFinished c).link = s.link.raiseIf (s.comp c).limits .budgetLimit := by
  unfold State.copyFinished Comp.handedOver Comp.limits
  cases (s.comp c).buffer with
  | none => exact ⟨rfl, rfl, rfl, rfl⟩
  | some f =>
    dsimp only
    rw [if_neg (by simp [free])]
    exact ⟨s.completeRender_port f, s.completeRender_comp f, s.completeRender_dir f, s.completeRender_link f⟩

/-- What the end of a transfer makes of the chain: the frame that waited is copied, a port of a cancelled sleep resumes,
and the next transfer begins. -/
theorem State.afterTransfer_eq :
    (s.afterTransfer c).port c =
        (((s.port c).handedOver (s.comp c).buffer).resumeIf s.power.sleepPending).beginNext (s.count c) ∧
      (s.afterTransfer c).comp c = (s.comp c).handedOver ∧ (s.afterTransfer c).dir = s.dir ∧
      (s.afterTransfer c).link = s.link.raiseIf (s.comp c).limits .budgetLimit := by
  have ended : (s.onPort c Port.endTransfer).port c = (s.port c).endTransfer := s.onPort_port_same c _
  obtain ⟨port, comp, dir, link⟩ := State.copyFinished_free (s := s.onPort c Port.endTransfer) (c := c) (by rw [ended]; rfl)
  have power : ((s.onPort c Port.endTransfer).copyFinished c).power = s.power :=
    (sameLayers_copyFinished.mpr (sameLayers_onPort.mpr (SameLayers.refl s))).2.1
  rw [State.onPort_comp] at port comp link
  unfold State.afterTransfer
  rw [State.onPort_port_same, State.onPort_comp, State.onPort_dir, State.onPort_link, port, ended, power, State.count, dir]
  exact ⟨by rw [State.onPort_dir]; rfl, comp, s.onPort_dir c _, link.trans (by rw [State.onPort_link])⟩

end

section
variable {p : Port} {n : Nat} {b : Bool}

/-- Without a wake mark, while the sleep is pending, and before its dark frame, a port does not resume (R207). -/
theorem Port.resumeIf_stays (h : p.wakeMark = false ∨ b = true ∨ Waiting.dark ∈ p.waiting) : p.resumeIf b = p := by
  rcases p.resumeIf_cases b with ⟨e, -⟩ | ⟨mark, awake, done, -⟩
  · exact e
  · simp only [Port.darkDone, Bool.and_eq_true, Bool.not_eq_true', List.contains_eq_mem, decide_eq_false_iff_not] at done
    rcases h with unmarked | asleep | waits
    · exact absurd (mark.symm.trans unmarked) (by decide)
    · exact absurd (asleep.symm.trans awake) (by decide)
    · exact absurd waits done.2

/-- What begins next changes the transfer and what waits, and nothing else of the port. -/
theorem Port.beginNext_eq (p : Port) (n : Nat) :
    ∃ transfer waiting, p.beginNext n = { p with transfer := transfer, waiting := waiting } := by
  unfold Port.beginNext
  split
  · exact ⟨p.transfer, p.waiting, rfl⟩
  · exact ⟨_, _, rfl⟩

theorem Port.beginNext_nothing (free : p.transfer = none) (nothing : p.waiting = []) :
    (p.beginNext n).transfer = none ∧ (p.beginNext n).waiting = [] := by
  simp [Port.beginNext, free, nothing, Port.firstOf]

/-- The first that waits begins where it can (R125). -/
theorem Port.beginNext_first {w : Waiting} {ws : List Waiting} {x : Transfer} (free : p.transfer = none)
    (waits : p.waiting = w :: ws) (begins : p.transferFor n w = some x) :
    (p.beginNext n).transfer = some x ∧ (p.beginNext n).waiting = ws := by
  simp [Port.beginNext, free, waits, Port.firstOf, begins]

/-- A shift without a frame is not begun (log 15). -/
theorem Port.beginNext_drops {w : Waiting} (free : p.transfer = none) (waits : p.waiting = [w])
    (without : p.transferFor n w = none) : (p.beginNext n).transfer = none ∧ (p.beginNext n).waiting = [] := by
  simp [Port.beginNext, free, waits, Port.firstOf, without]

end

/-! ### SHIFT_END (R132, R133) -/

/-- The state after SHIFT_END of a frame of `n` nodes. -/
def State.shiftEnded (s : State) (c : Chain) (trailer : List Byte) (n : Nat) : State :=
  ((s.judgeTrailer c trailer n).afterTransfer c).settle

section
variable {s : State} {c : Chain} {trailer : List Byte} {n : Nat}

theorem exec_shiftEnd_of_latched (awake : s.power.part = .awake)
    (shift : (∃ f o, (s.port c).transfer = some (.duty f o true) ∧ f.entries.length = n) ∨
      (s.port c).transfer = some (.dark n true)) :
    exec (.shiftEnd c trailer) s = .next (s.shiftEnded c trailer n) := by
  have frame : (s.port c).transfer.bind Transfer.shift? = some (n, true) := by
    rcases shift with ⟨f, o, transfer, rfl⟩ | transfer <;> rw [transfer] <;> rfl
  show execShiftEnd c trailer s = _
  simp [execShiftEnd, frame, State.awake, awake, State.shiftEnded]

theorem State.shiftEnded_port :
    (s.shiftEnded c trailer n).port c =
      ((((s.port c).judge (trailerCorrect trailer n)).handedOver (s.comp c).buffer).resumeIf
        s.power.sleepPending).beginNext (s.count c) := by
  rw [State.shiftEnded, State.settle_port, State.afterTransfer_eq.1]
  simp

theorem State.shiftEnded_comp : (s.shiftEnded c trailer n).comp c = (s.comp c).handedOver := by
  rw [State.shiftEnded, State.settle_comp, State.afterTransfer_eq.2.1, State.judgeTrailer_comp]

theorem State.shiftEnded_dir :
    (s.shiftEnded c trailer n).dir =
      if (trailerCorrect trailer n && !((s.port c).judge (trailerCorrect trailer n)).loopBroken) = true then
        s.dir.setNodes c (absorbAll (s.dir.nodes c) (trailer.drop 2))
      else s.dir := by
  rw [State.shiftEnded, State.settle_dir, State.afterTransfer_eq.2.2.1, State.judgeTrailer_dir]

theorem State.shiftEnded_link :
    (s.shiftEnded c trailer n).link =
      (((s.link.raiseIf (((s.port c).judge (trailerCorrect trailer n)).loopBroken && !(s.port c).loopBroken)
        (loopBreakFlag c)).raiseIf
        (gainedOvertemp (s.dir.nodes c) ((s.shiftEnded c trailer n).dir.nodes c)) .nodeOvertemp).raiseIf
        (s.comp c).limits .budgetLimit).startNext := by
  have dir : (s.shiftEnded c trailer n).dir = (s.judgeTrailer c trailer n).dir := State.afterTransfer_eq.2.2.1
  show ((s.judgeTrailer c trailer n).afterTransfer c).link.startNext = _
  rw [State.afterTransfer_eq.2.2.2, State.judgeTrailer_link, State.judgeTrailer_comp, dir]

end

end Sys2Proof.Machine

namespace Sys2Proof.Machine

/-! ### The flags of a shift's end -/

/-- A choice of the next frame sets no flag. -/
theorem Link.flag_startNext_clear {l : Link} {f : Flag} (h : l.flag f = .clear) : l.startNext.flag f = .clear := by
  rcases l.startNext_cases with e | ⟨-, r, rs, -, e⟩ | ⟨-, -, n, ns, -, e⟩ | ⟨-, -, -, -, e⟩ <;> rw [e]
  · exact h
  · exact h
  · exact h
  · simp only [Link.flag, Link.reportFlags, Fin.getElem_fin, Vector.getElem_ofFn] at h ⊢
    rw [if_neg (by simp [h])]
    exact h

section
variable {s : State} {c : Chain} {trailer : List Byte} {n : Nat}

theorem State.shiftEnded_budgetLimit (limits : (s.comp c).limits = true) :
    (s.shiftEnded c trailer n).link.flag .budgetLimit ≠ .clear := by
  rw [State.shiftEnded_link]
  exact Link.flag_startNext (Link.flag_raiseIf_same _ _ limits)

theorem State.shiftEnded_loopBreak (sound : (s.port c).loopBroken = false)
    (breaks : ((s.port c).judge (trailerCorrect trailer n)).loopBroken = true) :
    (s.shiftEnded c trailer n).link.flag (loopBreakFlag c) ≠ .clear := by
  rw [State.shiftEnded_link]
  refine Link.flag_startNext (Link.flag_raiseIf _ _ (Link.flag_raiseIf _ _ (Link.flag_raiseIf_same _ _ ?_)))
  simp [sound, breaks]

theorem State.shiftEnded_overtemp
    (gained : gainedOvertemp (s.dir.nodes c) ((s.shiftEnded c trailer n).dir.nodes c) = true) :
    (s.shiftEnded c trailer n).link.flag .nodeOvertemp ≠ .clear := by
  rw [State.shiftEnded_link]
  exact Link.flag_startNext (Link.flag_raiseIf _ _ (Link.flag_raiseIf_same _ _ gained))

theorem State.shiftEnded_overtemp_clear
    (gained : gainedOvertemp (s.dir.nodes c) ((s.shiftEnded c trailer n).dir.nodes c) = false)
    (clear : s.link.flag .nodeOvertemp = .clear) : (s.shiftEnded c trailer n).link.flag .nodeOvertemp = .clear := by
  rw [State.shiftEnded_link]
  refine Link.flag_startNext_clear ?_
  rw [Link.flag_raiseIf_other _ _ (by decide), gained, Link.raiseIf, if_neg (by decide),
    Link.flag_raiseIf_other _ _ (by cases c <;> decide)]
  exact clear

/-! ### The port after a shift -/

/-- The port whose shift has ended, before the next transfer begins. -/
def State.judgedPort (s : State) (c : Chain) (trailer : List Byte) (n : Nat) : Port :=
  ((s.port c).judge (trailerCorrect trailer n)).handedOver (s.comp c).buffer

theorem State.judgedPort_keeps :
    (s.judgedPort c trailer n).state = (s.port c).state ∧ (s.judgedPort c trailer n).wakeMark = (s.port c).wakeMark ∧
      (s.judgedPort c trailer n).pendingFrame = ((s.comp c).buffer <|> (s.port c).pendingFrame) ∧
      (s.judgedPort c trailer n).lastLatched = (s.port c).lastLatched ∧
      (s.judgedPort c trailer n).waiting = (s.port c).waiting := by
  obtain ⟨_, _, _, _, judged⟩ := (s.port c).judge_eq (trailerCorrect trailer n)
  rw [State.judgedPort, judged]
  exact ⟨rfl, rfl, rfl, rfl, rfl⟩

theorem State.shiftEnded_port_stays
    (stays : (s.port c).wakeMark = false ∨ s.power.sleepPending = true ∨ Waiting.dark ∈ (s.port c).waiting) :
    (s.shiftEnded c trailer n).port c = (s.judgedPort c trailer n).beginNext (s.count c) := by
  obtain ⟨-, mark, -, -, waiting⟩ := State.judgedPort_keeps (s := s) (c := c) (trailer := trailer) (n := n)
  rw [← mark, ← waiting] at stays
  rw [State.shiftEnded_port, ← State.judgedPort, Port.resumeIf_stays stays]

/-- The runs, LOOP_BROKEN and its count after the shift are those of the judged frame: what begins next leaves them. -/
theorem State.shiftEnded_judged
    (stays : (s.port c).wakeMark = false ∨ s.power.sleepPending = true ∨ Waiting.dark ∈ (s.port c).waiting) :
    let after := (s.shiftEnded c trailer n).port c
    let judged := (s.port c).judge (trailerCorrect trailer n)
    after.loopBroken = judged.loopBroken ∧ after.failingRun = judged.failingRun ∧
      after.correctRun = judged.correctRun ∧ after.loopBreaks = judged.loopBreaks := by
  obtain ⟨_, _, next⟩ := (s.judgedPort c trailer n).beginNext_eq (s.count c)
  rw [State.shiftEnded_port_stays stays, next]
  exact ⟨rfl, rfl, rfl, rfl⟩

/-- A correct frame is absorbed where the chain is not, or no longer, broken (R134). -/
theorem State.shiftEnded_absorbs (correct : trailerCorrect trailer n = true)
    (sound : ((s.port c).judge true).loopBroken = false) :
    (s.shiftEnded c trailer n).dir.nodes c = absorbAll (s.dir.nodes c) (trailer.drop 2) := by
  rw [State.shiftEnded_dir, correct, sound]
  exact Directory.setNodes_nodes_same _ _ _

theorem State.shiftEnded_keeps_dir
    (held : trailerCorrect trailer n = false ∨ ((s.port c).judge (trailerCorrect trailer n)).loopBroken = true) :
    (s.shiftEnded c trailer n).dir = s.dir := by
  rw [State.shiftEnded_dir, if_neg]
  rcases held with e | e <;> simp [e]

end

/-- A port of a cancelled sleep whose dark frame has ended loses its mark, and from OFF it enters RUNNING (R207). -/
theorem Port.resumeIf_done {p : Port} (mark : p.wakeMark = true) (done : p.darkDone = true) :
    (p.resumeIf false).wakeMark = false ∧ (p.resumeIf false).transfer = none ∧
      (p.resumeIf false).waiting = p.waiting ∧ (p.resumeIf false).state = (if p.state = .off then .running else p.state) ∧
      (p.state = .off → (p.resumeIf false).periodTimer = 1 ∧ (p.resumeIf false).latchedSince = false) := by
  have free : p.transfer = none := by simp [Port.darkDone] at done; exact done.1
  unfold Port.resumeIf
  rw [if_pos (by simp [mark, done])]
  by_cases off : p.state = .off
  · simp [off, free, Port.run]
  · simp [off, free]

/-- The end of the dark frame of a cancelled sleep: the mark is cleared, a pass that waits begins, and an OFF port enters
RUNNING (R207). -/
theorem State.shiftEnded_resumes {s : State} {c : Chain} {trailer : List Byte} {n : Nat}
    (asleep : s.power.sleepPending = false) (mark : (s.port c).wakeMark = true)
    (waits : (s.port c).waiting = [] ∨ (s.port c).waiting = [.identify]) :
    let after := (s.shiftEnded c trailer n).port c
    after.wakeMark = false ∧ after.waiting = [] ∧
      after.transfer = (if (s.port c).waiting = [] then none else some .request) ∧
      after.state = (if (s.port c).state = .off then .running else (s.port c).state) ∧
      ((s.port c).state = .off → after.periodTimer = 1 ∧ after.latchedSince = false) := by
  intro after
  obtain ⟨state, keptMark, -, -, waiting⟩ := State.judgedPort_keeps (s := s) (c := c) (trailer := trailer) (n := n)
  have done : (s.judgedPort c trailer n).darkDone = true := by
    unfold Port.darkDone
    rw [waiting]
    rcases waits with e | e <;> rw [e] <;> rfl
  obtain ⟨unmarked, free, still, entered, timed⟩ := Port.resumeIf_done (keptMark.trans mark) done
  have port : after = ((s.judgedPort c trailer n).resumeIf false).beginNext (s.count c) := by
    rw [← asleep]
    exact State.shiftEnded_port
  rw [port]
  generalize (s.judgedPort c trailer n).resumeIf false = p at *
  obtain ⟨x, ws, next⟩ := p.beginNext_eq (s.count c)
  have begins : (p.beginNext (s.count c)).transfer = (if (s.port c).waiting = [] then none else some .request) ∧
      (p.beginNext (s.count c)).waiting = [] := by
    rcases waits with e | e
    · rw [e, if_pos rfl]
      exact Port.beginNext_nothing free (still.trans (waiting.trans e))
    · rw [e, if_neg (by decide)]
      exact Port.beginNext_first free (still.trans (waiting.trans e)) rfl
  refine ⟨?_, begins.2, begins.1, ?_, fun off => ?_⟩
  · rw [next]; exact unmarked
  · rw [next, ← state]; exact entered
  · rw [next]; exact timed (state.trans off)

/-- Settles O36: the judged trailer, the copied frame, what begins next, and the two flags; then the resumed port, and
absorption by position. -/
theorem shiftEndJudges : Obligations.ShiftEndJudges := by
  refine ⟨fun c s trailer n awake shift stays => ?_, fun c s trailer n awake asleep shift _ mark waits => ?_,
    fun ns bs k n b node byte => ⟨absorbAll_length ns bs, absorbAll_getElem? node byte⟩⟩
  · have leads := exec_shiftEnd_of_latched (trailer := trailer) awake shift
    obtain ⟨arb, -, pool, -⟩ := exec_sameLayers (c := .shiftEnd c trailer) rfl s _ leads
    refine ⟨_, leads, arb, pool, ?_⟩
    have port := State.shiftEnded_port_stays (trailer := trailer) (n := n) stays
    have comp := State.shiftEnded_comp (s := s) (c := c) (trailer := trailer) (n := n)
    obtain ⟨state, keptMark, pending, latched, waiting⟩ :=
      State.judgedPort_keeps (s := s) (c := c) (trailer := trailer) (n := n)
    have free : (s.judgedPort c trailer n).transfer = none := rfl
    obtain ⟨x, ws, next⟩ := (s.judgedPort c trailer n).beginNext_eq (s.count c)
    have pendingNow : ((s.shiftEnded c trailer n).port c).pendingFrame = (s.judgedPort c trailer n).pendingFrame := by
      rw [port, next]
    obtain ⟨broken, failing, right, breaks⟩ := State.shiftEnded_judged (trailer := trailer) (n := n) stays
    refine ⟨?_, ?_, pendingNow.trans pending, ?_, fun empty => ?_, fun f held => ⟨?_, fun scaled unmarked => ?_⟩,
      fun nothing => ?_, fun ws first => ?_, fun ws first => ?_, fun ws f first frame => ?_, fun ws f first frame => ?_,
      fun without => ?_, ⟨fun gained => ?_, fun gained clear => ?_⟩, fun sound ok => ?_, fun sound ok run => ?_,
      fun sound ok run => ?_, fun sound ok run => ?_, fun sound ok run => ?_, fun sound ok => ?_⟩
    · rw [port, next]; exact state
    · rw [port, next]; exact keptMark
    · rw [port, next]; exact latched
    · rw [comp, Comp.handedOver, empty]
    · rw [comp, Comp.handedOver, held]; rfl
    · exact State.shiftEnded_budgetLimit (by simp [Comp.limits, held, scaled, unmarked])
    · rw [port]; exact Port.beginNext_nothing free (waiting.trans nothing)
    · rw [port]; exact Port.beginNext_first free (waiting.trans first) rfl
    · rw [port]; exact Port.beginNext_first free (waiting.trans first) rfl
    · rw [port]
      refine Port.beginNext_first free (waiting.trans first) ?_
      rw [Port.transferFor, ← pendingNow, frame]; rfl
    · rw [port]
      refine Port.beginNext_first free (waiting.trans first) ?_
      rw [Port.transferFor, latched, frame]; rfl
    · rw [port]
      rcases without with ⟨first, none⟩ | ⟨first, none⟩
      · refine Port.beginNext_drops free (waiting.trans first) ?_
        rw [Port.transferFor, ← pendingNow, none]; rfl
      · refine Port.beginNext_drops free (waiting.trans first) ?_
        rw [Port.transferFor, latched, none]; rfl
    · exact State.shiftEnded_overtemp (gainedOvertemp_iff.mpr gained)
    · exact State.shiftEnded_overtemp_clear (by rwa [← Bool.not_eq_true, gainedOvertemp_iff]) clear
    all_goals replace ok : trailerCorrect trailer n = _ := ok
    · have row := Port.judge_sound_correct sound
      rw [ok, row] at broken failing
      exact ⟨broken.trans sound, failing, State.shiftEnded_absorbs ok (by rw [row]; exact sound)⟩
    · rw [ok, Port.judge_sound_failing sound run] at broken failing
      exact ⟨broken.trans sound, failing, State.shiftEnded_keeps_dir (.inl ok)⟩
    · have row := Port.judge_breaks sound run
      rw [ok, row] at broken failing right breaks
      exact ⟨broken, failing, right, breaks, State.shiftEnded_loopBreak sound (by rw [ok, row]),
        State.shiftEnded_keeps_dir (.inl ok)⟩
    · have row := Port.judge_broken_correct sound run
      rw [ok, row] at broken right
      exact ⟨broken.trans sound, right, State.shiftEnded_keeps_dir (.inr (by rw [ok, row]; exact sound))⟩
    · have row := Port.judge_heals sound run
      rw [ok, row] at broken failing right
      exact ⟨broken, right, failing, State.shiftEnded_absorbs ok (by rw [row])⟩
    · rw [ok, Port.judge_broken_failing sound] at broken right
      exact ⟨broken.trans sound, right, State.shiftEnded_keeps_dir (.inl ok)⟩
  · exact ⟨_, exec_shiftEnd_of_latched awake (.inr shift), State.shiftEnded_resumes asleep mark waits⟩

end Sys2Proof.Machine

namespace Sys2Proof.Machine

/-! ### Foreign drive (R143, R144, R146) -/

section
variable {s : State} {c : Chain}

/-- An exit from RUNNING empties the send buffer and abandons the render (R83, R130). -/
theorem State.leaveRunning_of_running (running : (s.port c).state = .running) :
    s.leaveRunning c = (s.setComp c (s.comp c).abandoned).setPort c (s.port c).left := if_pos running

theorem State.leaveRunning_of_other (other : (s.port c).state ≠ .running) : s.leaveRunning c = s := if_neg other

@[simp] theorem State.leaveRunning_dir : (s.leaveRunning c).dir = s.dir := by
  unfold State.leaveRunning; split <;> simp

@[simp] theorem State.leaveRunning_link : (s.leaveRunning c).link = s.link := by
  unfold State.leaveRunning; split <;> simp

theorem State.leaveRunning_port :
    (s.leaveRunning c).port c = if (s.port c).state = .running then (s.port c).left else s.port c := by
  unfold State.leaveRunning
  split <;> simp

theorem State.leaveRunning_comp :
    (s.leaveRunning c).comp c = if (s.port c).state = .running then (s.comp c).abandoned else s.comp c := by
  unfold State.leaveRunning
  split <;> simp

@[simp] theorem State.release_dir : (s.release c).dir = s.dir := by simp [State.release]

theorem State.release_arb : (s.release c).arb = s.arb := (sameLayers_release.mpr (SameLayers.refl s)).1

/-- A port that is released stops its pass, keeps its return state and loses its wake mark (R144, R146). -/
theorem State.release_port :
    (s.release c).port c =
      { ((s.leaveRunning c).port c).stopPass with
        state := .released, returnState := releaseReturn (s.port c).state, wakeMark := false } := by
  simp [State.release]

theorem State.release_comp :
    (s.release c).comp c = if (s.port c).state = .running then (s.comp c).abandoned else s.comp c := by
  rw [← State.leaveRunning_comp]
  simp [State.release]

/-- FOREIGN_x is set, after the notice of an abandoned pass has joined (R143, R144). -/
theorem State.release_link :
    (s.release c).link =
      (s.link.queueAll (if (s.port c).state = .enumerating then [s.abandonNotice c] else [])).raise (foreignFlag c) := by
  simp [State.release, State.raise, State.queueAll]

end

/-- The port that has heard a foreign clock (R144). -/
def Port.heard (p : Port) : Port := { p with foreignActive := true, quietTimer := Config.quietTicks }

/-- With nothing shifted a stopped pass leaves nothing shifted, no settle and nothing new waiting (R143). -/
theorem Port.stopPass_idle {p : Port} (idle : p.transfer = none) :
    p.stopPass.transfer = none ∧ p.stopPass.settle = none ∧ (p.waiting = [] → p.stopPass.waiting = []) := by
  refine ⟨by simp [Port.stopPass, idle], rfl, fun nothing => by simp [Port.stopPass, nothing]⟩

/-- A port with nothing shifted that is out of RUNNING has nothing shifted and nothing new waiting (R83). -/
theorem Port.outOfRunning_idle {p : Port} (idle : p.transfer = none) :
    (if p.state = .running then p.left else p).transfer = none ∧
      (p.waiting = [] → (if p.state = .running then p.left else p).waiting = []) ∧
      (if p.state = .running then p.left else p).foreignActive = p.foreignActive := by
  split
  · exact ⟨by simp [Port.left, idle], fun nothing => by simp [Port.left, nothing], rfl⟩
  · exact ⟨idle, id, rfl⟩

section
variable {s : State} {c : Chain}

theorem exec_foreignActivity_idle (awake : s.power.part = .awake) (idle : (s.port c).transfer = none) :
    exec (.foreignActivity c) s =
      .next (if (s.port c).state = .released then s.onPort c Port.heard else (s.onPort c Port.heard).release c).settle := by
  show execForeignActivity c s = _
  simp only [execForeignActivity, State.awake, awake, idle, decide_true, Option.isNone_none, Bool.and_self, if_true]
  rfl

/-- High impedance wherever the port is RELEASED (R125, R144). -/
theorem State.chainLines_released (released : (s.port c).state = .released) : s.chainLines c = .highImpedance := by
  simp [State.chainLines, released]

end

/-- Settles O38: a port already RELEASED only hears the foreign clock; every other is released. -/
theorem foreignDriveReleases : Obligations.ForeignDriveReleases := by
  refine ⟨fun c s awake idle => ?_, fun c s awake active quiet => ?_⟩
  · refine ⟨_, exec_foreignActivity_idle awake idle, ?_⟩
    have heard : (s.onPort c Port.heard).port c = (s.port c).heard := s.onPort_port_same c _
    by_cases released : (s.port c).state = .released
    · rw [if_pos released]
      have state : ((s.onPort c Port.heard).settle.port c).state = .released := by rw [State.settle_port, heard]; exact released
      refine ⟨state, by rw [State.settle_port, heard]; rfl, by simp, by simp, State.chainLines_released state,
        fun other => absurd released other, fun other => ?_, fun other => ?_, fun other => ?_⟩
      all_goals simp [released] at other
    · rw [if_neg released]
      have port := State.release_port (s := s.onPort c Port.heard) (c := c)
      have comp := State.release_comp (s := s.onPort c Port.heard) (c := c)
      have link := State.release_link (s := s.onPort c Port.heard) (c := c)
      rw [heard, State.leaveRunning_port, heard] at port
      rw [heard, State.onPort_comp] at comp
      rw [heard, State.onPort_link, State.abandonNotice, State.onPort_count] at link
      obtain ⟨idle', left, active⟩ := Port.outOfRunning_idle (p := (s.port c).heard) idle
      obtain ⟨transfer, settle, waiting⟩ := Port.stopPass_idle idle'
      have state : (((s.onPort c Port.heard).release c).settle.port c).state = .released := by rw [State.settle_port, port]
      refine ⟨state, ?_, by simp, by simp [State.release_arb], State.chainLines_released state,
        fun _ => ⟨Link.flag_startNext ?_, ?_, ?_, fun nothing => ?_, ?_, ?_⟩, fun pass => ?_, fun other => ?_,
        fun running => ⟨?_, ?_, ?_⟩⟩
      · rw [State.settle_port, port]; exact active
      · rw [link]; exact Link.flag_raise_same _ _
      · rw [State.settle_port, port]
      · rw [State.settle_port, port]; exact settle
      · rw [State.settle_port, port]; exact waiting (left nothing)
      · rw [State.settle_port, port]; exact transfer
      · rw [State.settle_port, port]
        show releaseReturn (s.port c).state = _
        cases e : (s.port c).state <;> rfl
      · show Link.startNext _ = _
        rw [link, if_pos (by exact pass)]; rfl
      · show Link.startNext _ = _
        rw [link, if_neg (by rcases other with e | e <;> simp [Port.heard, e])]; rfl
      · rw [State.settle_comp, comp, if_pos (by exact running)]; rfl
      · rw [State.settle_port, port, if_pos (by exact running)]; rfl
      · rw [State.settle_port, port, if_pos (by exact running)]; rfl
  · show execForeignQuiet c s = _
    unfold execForeignQuiet
    rw [if_pos (by simp [State.awake, awake, active, timerDue, quiet])]
    rfl

end Sys2Proof.Machine

namespace Sys2Proof.Machine

/-! ### A port that begins a pass or goes OFF (R137, R139, R143) -/

section
variable {p : Port} {n : Nat}

/-- The port that begins an identify pass, at once or behind the transfer in progress (R139, R140). -/
def Port.passing (p : Port) (n : Nat) : Port := ({ p with state := .enumerating } : Port).fallDue n .identify

theorem Port.passing_free (free : p.transfer = none) (nothing : p.waiting = []) :
    p.passing n = { p with state := .enumerating, transfer := some .request } := by
  rw [Port.passing, Port.fallDue_quiet (by exact free) (by exact nothing)]
  simp [Port.transferFor, nothing]

/-- Out of RUNNING a pass begins behind a shift cut off from the send buffer (R83, R139; log 14). -/
theorem Port.left_passing (nothing : p.waiting = []) :
    p.left.passing n =
      { p with
        state := .enumerating, pendingFrame := none, lastLatched := none, latchedSince := false
        transfer := match p.transfer with
          | none => some .request
          | some x => some x.detach
        waiting := if p.transfer = none then [] else [.identify] } := by
  have left : p.left.waiting = [] := by simp [Port.left, nothing]
  cases shift : p.transfer with
  | none =>
    rw [Port.passing_free (by simp [Port.left, shift]) left]
    simp [Port.left, nothing]
  | some x => simp [Port.passing, Port.fallDue, Port.beginNext, Port.left, shift, nothing]

/-- Out of RUNNING a port goes OFF behind its closing dark frame, and that behind a shift cut off from the send buffer
(R83, R137; log 14). -/
theorem Port.left_closed (nothing : p.waiting = []) :
    p.left.closed n =
      { p with
        state := .off, pendingFrame := none, lastLatched := none, latchedSince := false
        transfer := match p.transfer with
          | none => if n = 0 then none else some (.dark n false)
          | some x => some x.detach
        waiting := if p.transfer = none ∨ n = 0 then [] else [.dark] } := by
  have left : p.left.waiting = [] := by simp [Port.left, nothing]
  cases shift : p.transfer with
  | none =>
    rw [Port.closed_free (by simp [Port.left, shift]) left]
    simp [Port.left, nothing]
  | some x =>
    rw [Port.closed_busy (x := x.detach) (by simp [Port.left, shift]) left]
    simp [Port.left, shift]

/-- A pass stops at once, and the port goes OFF behind its closing dark frame (R137, R143). -/
theorem Port.stopPass_closed (nothing : p.waiting = [])
    (own : p.transfer = none ∨ p.transfer = some .request ∨ p.transfer = some .collect) :
    p.stopPass.closed n =
      { p with state := .off, settle := none, transfer := if n = 0 then none else some (.dark n false) } := by
  have stopped : p.stopPass.transfer = none := by rcases own with h | h | h <;> simp [Port.stopPass, h]
  rw [Port.closed_free stopped (by simp [Port.stopPass, nothing])]
  simp [Port.stopPass, nothing]

end

section
variable {s : State} {c : Chain}

theorem State.beginPass_setPort (p : Port) : (s.setPort c p).beginPass c = s.setPort c (p.passing (s.count c)) := by
  unfold State.beginPass Port.passing
  rw [State.setPort_count, State.setPort_port_same, State.setPort_setPort]

/-! ### Answers of the port requests -/

theorem State.enumerate_busy (h : (s.port c).state = .enumerating) : State.enumerate c s = .plain s .busy := by
  simp [State.enumerate, h]

theorem State.enumerate_released (h : (s.port c).state = .released) : State.enumerate c s = .plain s .chainReleased := by
  simp [State.enumerate, h]

theorem State.enumerate_off (off : (s.port c).state = .off) (free : (s.port c).transfer = none)
    (nothing : (s.port c).waiting = []) :
    State.enumerate c s = .plain (s.setPort c { s.port c with
      state := .enumerating, wakeMark := false, transfer := some .request }) .accepted := by
  unfold State.enumerate
  rw [off]
  dsimp only
  rw [State.onPort_eq, State.beginPass_setPort, Port.passing_free (by exact free) (by exact nothing)]
  rfl

theorem State.enumerate_running (running : (s.port c).state = .running) (nothing : (s.port c).waiting = []) :
    State.enumerate c s = .plain ((s.setComp c { s.comp c with render := none, buffer := none }).setPort c
      { s.port c with
        state := .enumerating, pendingFrame := none, lastLatched := none, latchedSince := false
        transfer := match (s.port c).transfer with
          | none => some .request
          | some x => some x.detach
        waiting := if (s.port c).transfer = none then [] else [.identify] }) .accepted := by
  unfold State.enumerate
  rw [running]
  dsimp only
  rw [State.leaveRunning_of_running running, State.beginPass_setPort, Port.left_passing nothing]
  rfl

theorem State.switchOff_running (running : (s.port c).state = .running) (nothing : (s.port c).waiting = []) :
    s.switchOff c = .plain ((s.setComp c { s.comp c with render := none, buffer := none }).setPort c
      { s.port c with
        state := .off, pendingFrame := none, lastLatched := none, latchedSince := false
        transfer := match (s.port c).transfer with
          | none => if s.count c = 0 then none else some (.dark (s.count c) false)
          | some x => some x.detach
        waiting := if (s.port c).transfer = none ∨ s.count c = 0 then [] else [.dark] }) .ok := by
  unfold State.switchOff State.takeOff
  rw [running]
  dsimp only
  rw [State.leaveRunning_of_running running, State.closePort_setPort, State.setComp_count, Port.left_closed nothing]
  rfl

theorem State.switchOff_enumerating (pass : (s.port c).state = .enumerating) (nothing : (s.port c).waiting = [])
    (own : (s.port c).transfer = none ∨ (s.port c).transfer = some .request ∨ (s.port c).transfer = some .collect) :
    s.switchOff c = .plain
      { s.setPort c
          { s.port c with
            state := .off, settle := none
            transfer := if s.count c = 0 then none else some (.dark (s.count c) false) } with
        link := s.link.queue (.enumeration c (s.count c) .abandoned) } .ok := by
  unfold State.switchOff State.takeOff
  rw [pass]
  dsimp only
  rw [State.closePort_setPort, Port.stopPass_closed nothing own]
  cases c <;> rfl

theorem State.switchOff_off (off : (s.port c).state = .off) : s.switchOff c = .plain s .already := by
  simp [State.switchOff, off]

theorem State.switchOff_released (h : (s.port c).state = .released) : s.switchOff c = .plain s .chainReleased := by
  simp [State.switchOff, h]

theorem State.switchOn_off (off : (s.port c).state = .off) :
    s.switchOn c = .plain (s.setPort c { s.port c with
      state := .running, wakeMark := false, periodTimer := 1, latchedSince := false }) .ok := by
  unfold State.switchOn
  rw [off]
  rfl

theorem State.switchOn_lit (h : (s.port c).state = .running ∨ (s.port c).state = .enumerating) :
    s.switchOn c = .plain s .already := by
  rcases h with e | e <;> simp [State.switchOn, e]

theorem State.switchOn_released (h : (s.port c).state = .released) : s.switchOn c = .plain s .chainReleased := by
  simp [State.switchOn, h]

theorem State.reclaim_other (other : (s.port c).state ≠ .released) : State.reclaim c s = .plain s .already := if_pos other

theorem State.reclaim_active (released : (s.port c).state = .released) (active : (s.port c).foreignActive = true) :
    State.reclaim c s = .plain s .chainReleased := by
  simp [State.reclaim, released, active]

theorem State.reclaim_quiet (released : (s.port c).state = .released) (quiet : (s.port c).foreignActive = false) :
    State.reclaim c s = .plain (s.setPort c
      (if (s.port c).returnState = .running then (s.port c).run else { s.port c with state := .off })) .ok := by
  simp [State.reclaim, released, quiet, State.onPort_eq]

end

/-! ### The fields of a request on a chain -/

theorem onChain_of_code {p : List Byte} {c : Chain} (code : chainCode? (byteAt p 0) = some c) (s : State)
    (owner : Chain → State → Answer) : onChain p s owner = owner c s := by
  simp [onChain, code]

/-- Another chain value than the two is INVALID (R210). -/
theorem onChain_invalid {p : List Byte} (other : 1 < byteAt p 0) (s : State) (owner : Chain → State → Answer) :
    onChain p s owner = .plain s .invalid := by
  have code : chainCode? (byteAt p 0) = none := by
    unfold chainCode?
    rw [if_neg (by omega), if_neg (by omega)]
  simp [onChain, code]

/-- Another state value than OFF and ON is INVALID, on either chain (R137, R138). -/
theorem setChainState_invalid {p : List Byte} (other : 1 < byteAt p 1) (s : State) :
    onChain p s (State.setChainState (byteAt p 1)) = .plain s .invalid := by
  have code : boolCode? (byteAt p 1) = none := by
    unfold boolCode?
    rw [if_neg (by omega), if_neg (by omega)]
  unfold onChain
  split
  · simp [State.setChainState, code]
  · rfl

section
variable {s : State} {c : Chain} {p : List Byte}

theorem setChainState_on (chain : chainCode? (byteAt p 0) = some c) (on : byteAt p 1 = 1) :
    onChain p s (State.setChainState (byteAt p 1)) = s.switchOn c := by
  rw [onChain_of_code chain, on]
  rfl

theorem setChainState_off (chain : chainCode? (byteAt p 0) = some c) (off : byteAt p 1 = 0) :
    onChain p s (State.setChainState (byteAt p 1)) = s.switchOff c := by
  rw [onChain_of_code chain, off]
  rfl

end

/-- A ready request on a chain is answered by its owner for that chain. -/
theorem exec_answered {s : State} {f : LinkFrame} {mine : Bool} {owner : State → Answer} {status : Status} {data : List Byte}
    (effect : State → State) (ready : s.ready f = true) (own : mine = true)
    (length : lengthAllowed f.kind f.payload.length = true)
    (answer : owner s.takeFrame = ⟨effect s.takeFrame, status, data⟩) :
    (Host.Outcome.next (s.serve f mine owner) : Result) = .next (s.answered f status data effect) :=
  congrArg Host.Outcome.next (State.serve_answered ready own length answer)

/-- Settles O53: each owner by the port's state, behind the checks of its fields. -/
theorem portsObey : Obligations.PortsObey := by
  refine ⟨fun i f s ready form bad => ?_, fun tag p s c ready length code => ?_, fun tag p s c ready length code => ?_,
    fun tag p s c ready length code on => ?_, fun tag p s c ready length code off => ?_,
    fun tag p s c ready length code => ?_⟩
  · obtain ⟨kind, tag, p⟩ := f
    dsimp only at form bad
    have chain (owner : Chain → State → Answer) (other : kind ≠ 0x42) :
        onChain p s.takeFrame owner = .plain s.takeFrame .invalid :=
      onChain_invalid (bad.resolve_right fun e => other e.1) _ owner
    have state : onChain p s.takeFrame (State.setChainState (byteAt p 1)) = .plain s.takeFrame .invalid := by
      rcases bad with other | ⟨-, other⟩
      · exact onChain_invalid other _ _
      · exact setChainState_invalid other _
    rcases form with ⟨rfl, rfl, length⟩ | ⟨rfl, rfl, length⟩ | ⟨rfl, rfl, length, field⟩ | ⟨rfl, rfl, length, field⟩ |
      ⟨rfl, rfl, length⟩
    · exact exec_answered id ready rfl (by rw [length]; rfl) (chain _ (by decide))
    · exact exec_answered id ready rfl (by rw [length]; rfl) (chain _ (by decide))
    · exact exec_answered id ready (variant_of_field (decide_eq_true field)) (by rw [length]; rfl) state
    · exact exec_answered id ready (variant_of_field (decide_eq_true field)) (by rw [length]; rfl) state
    · exact exec_answered id ready rfl (by rw [length]; rfl) (chain _ (by decide))
  · rw [← s.takeFrame_port c]
    have served {effect : State → State} {status : Status}
        (answer : State.enumerate c s.takeFrame = .plain (effect s.takeFrame) status) :
        exec (.enumerate tag p) s = .next (s.answered ⟨0x30, tag, p⟩ status [] effect) :=
      exec_answered effect ready rfl (by rw [length]; rfl) ((onChain_of_code code _ _).trans answer)
    exact ⟨fun pass => served (effect := id) (State.enumerate_busy pass),
      fun released => served (effect := id) (State.enumerate_released released),
      fun off free nothing => served (State.enumerate_off off free nothing),
      fun running nothing => served (State.enumerate_running running nothing)⟩
  · exact exec_answered _ ready rfl (by rw [length]; rfl) (onChain_of_code code _ _)
  · rw [← s.takeFrame_port c]
    have served {effect : State → State} {status : Status}
        (answer : s.takeFrame.switchOn c = .plain (effect s.takeFrame) status) :
        exec (.setChainStateOn tag p) s = .next (s.answered ⟨0x42, tag, p⟩ status [] effect) :=
      exec_answered effect ready (variant_of_field (decide_eq_true (by rw [on]; decide))) (by rw [length]; rfl)
        ((setChainState_on code on).trans answer)
    exact ⟨fun off => served (State.switchOn_off off), fun lit => served (effect := id) (State.switchOn_lit lit),
      fun released => served (effect := id) (State.switchOn_released released)⟩
  · rw [← s.takeFrame_port c]
    have served {effect : State → State} {status : Status}
        (answer : s.takeFrame.switchOff c = .plain (effect s.takeFrame) status) :
        exec (.setChainStateOff tag p) s = .next (s.answered ⟨0x42, tag, p⟩ status [] effect) :=
      exec_answered effect ready (variant_of_field (decide_eq_true (by rw [off]; decide))) (by rw [length]; rfl)
        ((setChainState_off code off).trans answer)
    exact ⟨fun closed => served (effect := id) (State.switchOff_off closed),
      fun released => served (effect := id) (State.switchOff_released released),
      fun running nothing => served (State.switchOff_running running nothing),
      fun pass nothing own => served (State.switchOff_enumerating pass nothing own)⟩
  · rw [← s.takeFrame_port c]
    have served {effect : State → State} {status : Status}
        (answer : State.reclaim c s.takeFrame = .plain (effect s.takeFrame) status) :
        exec (.reclaimChain tag p) s = .next (s.answered ⟨0x43, tag, p⟩ status [] effect) :=
      exec_answered effect ready rfl (by rw [length]; rfl) ((onChain_of_code code _ _).trans answer)
    refine ⟨fun other => served (effect := id) (State.reclaim_other other),
      fun released active => served (effect := id) (State.reclaim_active released active),
      fun released quiet back => served ?_, fun released quiet back => served ?_⟩
    · rw [State.reclaim_quiet released quiet, if_pos back]
      rfl
    · rw [State.reclaim_quiet released quiet, if_neg (by rw [back]; decide)]

end Sys2Proof.Machine

/-! # Proofs: the Node Directory and the calibration catalog

The commands that leave the Directory alone, the law of calibrated and zoned records, the catalog lock, identify passes
and their answers, and the requests that write the tables. -/

namespace Sys2Proof.Machine

/-! ### The operations that leave the Directory alone -/

section
variable (s : State)

@[simp] theorem State.startRing_dir (i : Slot) (r : RingStart) : (s.startRing i r).dir = s.dir := by simp [State.startRing]

@[simp] theorem State.startEgress_dir : s.startEgress.dir = s.dir := State.startRing_dir _ _ _

@[simp] theorem State.stopSlot_dir (i : Slot) (r : EndReason) : (s.stopSlot i r).dir = s.dir := by
  simp [State.stopSlot_eq, State.endLayers]

@[simp] theorem State.cutSuspended_dir : s.cutSuspended.dir = s.dir := by simp [State.cutSuspended_eq, State.endLayers]

@[simp] theorem State.replaced_dir (i : Slot) : (s.replaced i).dir = s.dir := by
  unfold State.replaced; split <;> simp [State.endLayers]

@[simp] theorem State.raiseAlert_dir (id : Nat) (exclusive : Bool) : (s.raiseAlert id exclusive).state.dir = s.dir := by
  rcases s.raiseAlert_cases id exclusive with ⟨-, -, e, -⟩ | ⟨c, -, -, -, e⟩ | ⟨c, -, -, -, e⟩ <;> simp [e]

@[simp] theorem State.clearAlert_dir (i : Slot) (atEnd : Bool) : (s.clearAlert i atEnd).state.dir = s.dir := by
  rcases s.clearAlert_cases i atEnd with ⟨-, -, e, -⟩ | ⟨-, ⟨-, -, e⟩ | ⟨-, -, e⟩ | ⟨-, -, e⟩⟩ <;> simp [e]

@[simp] theorem State.act_dir (x : Trigger) : (s.act x).1.dir = s.dir := by
  rcases s.act_cases x with e | ⟨i, c, -, -, -, e | e⟩ | ⟨i, -, -, e⟩ | e | ⟨i, atEnd, -, e⟩ <;> rw [e]
  · rcases s.triggerStart_cases i c (c.resolve x.level) with e | ⟨-, -, -, e⟩ <;> simp [e]
  · rcases s.triggerReplace_cases i c (c.resolve x.level) with e | ⟨-, -, e⟩ <;> simp [e]
  · rfl
  · simp
  · simp

@[simp] theorem State.endWrite_dir (matched : Bool) : (s.endWrite matched).dir = s.dir := by
  unfold State.endWrite; split <;> rfl

@[simp] theorem State.lightEgress_dir : s.lightEgress.dir = s.dir := by unfold State.lightEgress; split <;> simp

@[simp] theorem State.cancelSleep_dir : s.cancelSleep.dir = s.dir := by unfold State.cancelSleep; split <;> rfl

theorem State.tick_dir (order : List Nat) : (s.tick order).dir = s.dir := by
  by_cases awake : s.power.part = .awake
  · obtain ⟨-, -, -, -, -, dir, -⟩ := State.tick_sameButLayers awake order
    obtain ⟨-, -, -, -, -, ticked, -⟩ := s.ticked_frame
    exact dir.trans ticked
  · rcases State.tick_asleep awake order with e | e <;> rw [e]

variable (c : Chain)

@[simp] theorem State.beginPass_dir : (s.beginPass c).dir = s.dir := by simp [State.beginPass]

@[simp] theorem State.enterAwake_dir : s.enterAwake.dir = s.dir := by
  rw [State.enterAwake_eq, State.beginPass_dir, State.beginPass_dir]
  split
  · exact State.startEgress_dir _
  · rfl

@[simp] theorem State.closePort_dir : (s.closePort c).dir = s.dir := by simp [State.closePort]
@[simp] theorem State.takeOff_dir : (s.takeOff c).1.dir = s.dir := by unfold State.takeOff; split <;> simp

@[simp] theorem State.finishRender_dir (f : Frame) : (s.finishRender c f).dir = s.dir := by
  unfold State.finishRender; split <;> simp

@[simp] theorem State.nextPeriod_dir : (s.nextPeriod c).dir = s.dir := by simp [State.nextPeriod]

@[simp] theorem State.periodStart_dir : (s.periodStart c).dir = s.dir := (s.periodStart_frame c).2.1

@[simp] theorem State.afterTransfer_dir : (s.afterTransfer c).dir = s.dir := State.afterTransfer_eq.2.2.1

@[simp] theorem State.retime_dir : (s.retime c).dir = s.dir := by
  unfold State.retime
  split
  · simp
  · simp
  · split <;> simp

end

/-! Owners that leave the Directory alone -/

section
variable (p : List Byte) (s : State)

theorem startLayer_dir : (startLayer p s).state.dir = s.dir := by
  rcases startLayer_cases p s with ⟨-, -, e, -⟩ | ⟨_, _, _, -, -, -, -, -, -, -, -, e⟩ <;> simp [e]

theorem startScene_dir : (startScene p s).state.dir = s.dir := by
  rcases startScene_cases p s with ⟨-, -, e, -⟩ | ⟨_, _, -, -, -, -, -, -, -, e⟩ <;> simp [e]

theorem stopLayer_dir : (stopLayer p s).state.dir = s.dir := by
  rcases stopLayer_cases p s with ⟨-, -, e, -⟩ | ⟨_, -, -, -, ⟨-, -, e⟩ | ⟨-, e⟩⟩ <;> rw [e]
  exacts [rfl, State.stopSlot_dir s _ _]

theorem setLevel_dir : (setLevel p s).state.dir = s.dir := by
  rcases setLevel_cases p s with ⟨-, -, e, -⟩ | ⟨_, -, -, -, ⟨-, e⟩ | ⟨-, -, e⟩⟩ <;> simp [e]

theorem setMaster_dir : (setMaster p s).state.dir = s.dir := by
  rcases setMaster_cases p s with ⟨-, -, e, -⟩ | ⟨_, -, e⟩ <;> simp [e]

theorem hush_dir : (hush p s).state.dir = s.dir := by
  rcases hush_cases p s with ⟨-, -, e, -⟩ | ⟨-, e⟩ <;> simp [e]

theorem setPolicy_dir : (setPolicy p s).state.dir = s.dir := by
  rcases setPolicy_cases p s with ⟨-, -, e, -⟩ | ⟨k, -, e⟩ <;> rw [e]
  rw [Answer.plain_state, State.evalFloor_dir]
  split
  · rw [State.cutSuspended_dir]
    rfl
  · rfl

theorem raiseAlert_dir : (raiseAlert p s).state.dir = s.dir := by
  rcases raiseAlert_cases p s with ⟨-, -, e, -⟩ | ⟨_, -, -, e⟩ <;> simp [e]

theorem clearAlert_dir : (clearAlert p s).state.dir = s.dir := by
  rcases clearAlert_cases p s with ⟨-, -, e, -⟩ | ⟨_, _, -, -, -, e⟩ <;> simp [e]

theorem loadCues_dir : (loadCues p s).state.dir = s.dir := by
  rcases loadCues_cases p s with ⟨-, -, e, -⟩ | ⟨_, _, -, -, -, -, e⟩ <;> simp [e]

theorem putScene_dir : (putScene p s).state.dir = s.dir := by
  rcases putScene_cases p s with ⟨-, -, e, -⟩ | ⟨-, -, e⟩ | ⟨_, -, -, -, -, e⟩ <;> simp [e]

theorem vehicleEvent_dir : (vehicleEvent p s).state.dir = s.dir := by
  rcases vehicleEvent_cases p s with ⟨-, -, e, -⟩ | ⟨k, x, -, e⟩ <;> rw [e]
  rw [Answer.plain_state]
  split <;> simp

theorem putTrigger_dir : (putTrigger p s).state.dir = s.dir := by
  rcases putTrigger_cases p s with ⟨-, -, e, -⟩ | ⟨_, _, -, e⟩ <;> simp [e]

theorem getCounters_dir : (getCounters p s).state.dir = s.dir := by
  unfold getCounters
  split
  · dsimp only
    split <;> rfl
  · rfl

theorem getLayer_dir : (getLayer p s).state.dir = s.dir := by unfold getLayer; split <;> rfl

theorem readCues_dir : (readCues p s).state.dir = s.dir := by unfold readCues; dsimp only; split <;> rfl

theorem getScene_dir : (getScene p s).state.dir = s.dir := by
  unfold getScene
  split
  · rfl
  · split <;> rfl

theorem getNode_dir : (getNode p s).state.dir = s.dir := by
  unfold getNode
  split
  · rfl
  · dsimp only
    split
    · rfl
    · split <;> rfl

theorem getCatalog_dir : (getCatalog p s).state.dir = s.dir := by unfold getCatalog; split <;> rfl

theorem getTrigger_dir : (getTrigger p s).state.dir = s.dir := by unfold getTrigger; split <;> rfl

theorem setCurve_dir : (setCurve p s).state.dir = s.dir := by unfold setCurve; dsimp only; split <;> rfl

theorem setAmbientOverride_dir : (setAmbientOverride p s).state.dir = s.dir := by
  unfold setAmbientOverride
  dsimp only
  split
  · rfl
  · split <;> rfl
  · rfl

theorem storeSettings_dir : (storeSettings p s).state.dir = s.dir := by
  unfold storeSettings
  split
  · rfl
  · split <;> rfl

theorem storeLibrary_dir : (storeLibrary s).state.dir = s.dir := by
  unfold storeLibrary
  split
  · rfl
  · split <;> rfl

theorem restart_dir : (restart s).state.dir = s.dir := by unfold restart; split <;> rfl

theorem sleep_dir : (sleep s).state.dir = s.dir := by
  rcases sleep_cases s with ⟨-, -, e, -⟩ | ⟨-, -, -, e⟩ <;> rw [e]
  exact s.fallAsleep_rest.2.2.2.1

theorem onChain_dir {owner : Chain → State → Answer} (h : ∀ c, (owner c s).state.dir = s.dir) :
    (onChain p s owner).state.dir = s.dir := by
  unfold onChain
  split
  · exact h _
  · rfl

theorem State.enumerate_dir (c : Chain) : (State.enumerate c s).state.dir = s.dir := by
  unfold State.enumerate; split <;> simp

theorem State.setTiming_dir (pre sel period : Nat) (c : Chain) : (State.setTiming pre sel period c s).state.dir = s.dir := by
  unfold State.setTiming; split <;> simp

theorem State.setBudget_dir (budget : Nat) (c : Chain) : (State.setBudget budget c s).state.dir = s.dir :=
  s.onPort_dir c _

theorem State.setChainState_dir (code : Nat) (c : Chain) : (State.setChainState code c s).state.dir = s.dir := by
  unfold State.setChainState State.switchOn State.switchOff
  split
  · split <;> simp
  · split <;> simp
  · rfl

theorem State.reclaim_dir (c : Chain) : (State.reclaim c s).state.dir = s.dir := by
  unfold State.reclaim
  dsimp only
  split
  · rfl
  · split <;> simp

end

/-- A request whose owner leaves the Directory alone leaves it alone. -/
theorem State.serve_dir {s : State} {f : LinkFrame} {mine : Bool} {owner : State → Answer}
    (h : ∀ t, (owner t).state.dir = t.dir) : (s.serve f mine owner).dir = s.dir :=
  State.serve_keeps (P := fun t => t.dir = s.dir) (fun _ _ => id) (fun t _ ht => (h t).trans ht) rfl

/-- The commands that can act on the Directory. -/
def actsOnDirectory : Instr → Bool
  | .powerOn _ | .startupComplete | .supplyRemoval | .restartTaken | .latchPoint _ | .shiftEnd _ _ | .collectEnd _ _
  | .putCatalog _ _ | .putZoneSpan _ _ | .lockCatalog _ _ => true
  | _ => false

/-- A command that does not act on the Directory leaves it as it is. -/
theorem exec_dir {c : Instr} (h : actsOnDirectory c = false) (s : State) : Leaves (exec c s) fun t => t.dir = s.dir := by
  cases c with
  | tick order => exact leaves_next.mpr (s.tick_dir order)
  | hushExpiry => exact leaves_next.mpr (by split <;> rfl)
  | egressLineChange asserted => exact leaves_next.mpr (by split <;> rfl)
  | debouncedAssertion =>
    refine leaves_next.mpr ?_
    split
    · dsimp only
      rw [State.settle_dir]
      split
      · rw [State.cancelSleep_dir, State.lightEgress_dir]
        rfl
      · rfl
    · rfl
  | debouncedDeassertion => exact leaves_next.mpr (by split <;> rfl)
  | luxEdge => exact leaves_next.mpr (by split <;> rfl)
  | gateWindowEnd => exact leaves_next.mpr (by split <;> rfl)
  | periodStart c => exact leaves_next.mpr (by split <;> simp)
  | renderComplete c =>
    refine leaves_next.mpr ?_
    split
    · split <;> simp
    · rfl
  | identifyRequestEnd c => exact leaves_next.mpr (by split <;> simp)
  | settleEnd c => exact leaves_next.mpr (by split <;> simp)
  | collectMarkerTimeout c => exact leaves_next.mpr (by split <;> simp)
  | foreignActivity c =>
    refine leaves_next.mpr ?_
    split
    · dsimp only
      rw [State.settle_dir]
      split <;> simp
    · rfl
  | foreignQuiet c => exact leaves_next.mpr (by split <;> simp)
  | frameReceived characters => exact leaves_next.mpr (by split <;> rfl)
  | framingError => exact leaves_next.mpr (by split <;> rfl)
  | interByteTimeout => exact leaves_next.mpr (by split <;> rfl)
  | linkBreak => exact leaves_next.mpr (by split <;> rfl)
  | waitIdleEnd => exact leaves_next.mpr (by split <;> rfl)
  | transmitComplete => exact leaves_next.mpr (by split <;> rfl)
  | unknownKind kind tag p => exact leaves_next.mpr (by split <;> rfl)
  | reportKindDiscard kind tag p => exact leaves_next.mpr (by split <;> rfl)
  | storeWriteEnd matched => exact leaves_next.mpr (by split <;> simp)
  | dormantEntry => exact leaves_next.mpr (by split <;> rfl)
  | wakeByLink => exact leaves_next.mpr (by split <;> rfl)
  | wakeByEgress => exact leaves_next.mpr (by split <;> rfl)
  | ping tag p | getStatus tag p | setEventMask tag p | clearEvents tag p | getAmbient tag p =>
    exact leaves_next.mpr (State.serve_dir fun _ => rfl)
  | getCounters tag p => exact leaves_next.mpr (State.serve_dir (getCounters_dir p))
  | startLayer tag p => exact leaves_next.mpr (State.serve_dir (startLayer_dir p))
  | startScene tag p => exact leaves_next.mpr (State.serve_dir (startScene_dir p))
  | stopLayerImmediate tag p | stopLayerAtEnd tag p => exact leaves_next.mpr (State.serve_dir (stopLayer_dir p))
  | setLevel tag p => exact leaves_next.mpr (State.serve_dir (setLevel_dir p))
  | getLayer tag p => exact leaves_next.mpr (State.serve_dir (getLayer_dir p))
  | setMaster tag p => exact leaves_next.mpr (State.serve_dir (setMaster_dir p))
  | hush tag p => exact leaves_next.mpr (State.serve_dir (hush_dir p))
  | setPolicy tag p => exact leaves_next.mpr (State.serve_dir (setPolicy_dir p))
  | raiseAlert tag p => exact leaves_next.mpr (State.serve_dir (raiseAlert_dir p))
  | clearAlertAtEnd tag p | clearAlertImmediate tag p => exact leaves_next.mpr (State.serve_dir (clearAlert_dir p))
  | loadCues tag p => exact leaves_next.mpr (State.serve_dir (loadCues_dir p))
  | readCues tag p => exact leaves_next.mpr (State.serve_dir (readCues_dir p))
  | putScene tag p | putSceneRemove tag p => exact leaves_next.mpr (State.serve_dir (putScene_dir p))
  | getScene tag p => exact leaves_next.mpr (State.serve_dir (getScene_dir p))
  | enumerate tag p => exact leaves_next.mpr (State.serve_dir fun t => onChain_dir p t t.enumerate_dir)
  | getNode tag p => exact leaves_next.mpr (State.serve_dir (getNode_dir p))
  | getCatalog tag p => exact leaves_next.mpr (State.serve_dir (getCatalog_dir p))
  | setChainTiming tag p => exact leaves_next.mpr (State.serve_dir fun t => onChain_dir p t (t.setTiming_dir _ _ _))
  | setChainBudget tag p => exact leaves_next.mpr (State.serve_dir fun t => onChain_dir p t (t.setBudget_dir _))
  | setChainStateOff tag p | setChainStateOn tag p =>
    exact leaves_next.mpr (State.serve_dir fun t => onChain_dir p t (t.setChainState_dir _))
  | reclaimChain tag p => exact leaves_next.mpr (State.serve_dir fun t => onChain_dir p t t.reclaim_dir)
  | setCurve tag p => exact leaves_next.mpr (State.serve_dir (setCurve_dir p))
  | setAmbientOverrideOn tag p | setAmbientOverrideOff tag p =>
    exact leaves_next.mpr (State.serve_dir (setAmbientOverride_dir p))
  | vehicleEvent tag p => exact leaves_next.mpr (State.serve_dir (vehicleEvent_dir p))
  | putTrigger tag p => exact leaves_next.mpr (State.serve_dir (putTrigger_dir p))
  | getTrigger tag p => exact leaves_next.mpr (State.serve_dir (getTrigger_dir p))
  | storeSettings tag p => exact leaves_next.mpr (State.serve_dir (storeSettings_dir p))
  | storeLibrary tag p => exact leaves_next.mpr (State.serve_dir storeLibrary_dir)
  | restart tag p => exact leaves_next.mpr (State.serve_dir restart_dir)
  | sleep tag p => exact leaves_next.mpr (State.serve_dir sleep_dir)
  | _ => cases h

end Sys2Proof.Machine

namespace Sys2Proof.Machine

/-! ### Calibration selection as a rewrite of five fields (R109, R110) -/

/-- What a pass reads of a node, and all that selection reads of its record: identity and block. -/
def Node.description (n : Node) : Bool × Nat × Nat × Nat × BlockState × Option Rgb × Option Rgb :=
  (n.identityValid, n.supplier, n.part, n.bin, n.block, n.blockGains, n.blockCurrents)

/-- The record `n` with the calibration of `m`. -/
def Node.withCalibration (n m : Node) : Node :=
  { n with catalogEntry := m.catalogEntry, source := m.source, gains := m.gains, currents := m.currents, cap := m.cap }

theorem matchingEntry_of_description {n m : Node} (k : Catalog) (h : m.description = n.description) :
    matchingEntry k m = matchingEntry k n := by
  simp only [Node.description, Prod.mk.injEq] at h
  obtain ⟨valid, supplier, part, bin, -⟩ := h
  simp only [matchingEntry, CatalogEntry.serves, valid, supplier, part, bin]

/-- Records of one description are given one calibration, and nothing else is written. -/
theorem Node.select_of_description {n m : Node} (k : Catalog) (h : m.description = n.description) :
    m.select k = m.withCalibration (n.select k) := by
  have found := (matchingEntry_of_description k h).symm
  have fields := h.symm
  simp only [Node.description, Prod.mk.injEq] at fields
  obtain ⟨valid, -, -, -, block, gains, currents⟩ := fields
  unfold Node.select
  simp only [found, valid, block, gains, currents]
  generalize matchingEntry k m = entry
  split
  · rfl
  · split
    · rfl
    · split <;> rfl
    · rfl
    · rfl

theorem Node.select_description (k : Catalog) (n : Node) : (n.select k).description = n.description := by
  rw [Node.select_of_description k (rfl : n.description = n.description)]
  rfl

/-- A record selected once is selected. -/
theorem Node.select_select (k : Catalog) (n : Node) : (n.select k).select k = n.select k := by
  rw [Node.select_of_description k (n.select_description k)]
  rfl

/-- A record that differs from a selected one in neither description nor calibration is selected. -/
theorem Node.select_fixed {k : Catalog} {n m : Node} (described : m.description = n.description)
    (calibrated : m.withCalibration n = m) (h : n.select k = n) : m.select k = m := by
  rw [Node.select_of_description k described, h, calibrated]

/-! ### Lists of records that are calibrated and zoned (R110, R111, R113) -/

/-- The record `m` is `n` but for its status and last-sent values. -/
def Node.remarked (n m : Node) : Prop :=
  m = { n with status := m.status, sent := m.sent, lastSent := m.lastSent, top := m.top }

theorem Node.remarked_refl (n : Node) : n.remarked n := rfl

theorem forall₂_remarked_refl (ns : List Node) : List.Forall₂ Node.remarked ns ns :=
  List.forall₂_same.mpr fun n _ => n.remarked_refl

theorem absorbAll_remarked (ns : List Node) (bs : List Byte) : List.Forall₂ Node.remarked ns (absorbAll ns bs) := by
  induction ns generalizing bs with
  | nil => exact .nil
  | cons n ns ih =>
    cases bs with
    | nil => exact forall₂_remarked_refl _
    | cons b bs =>
      refine .cons ?_ (ih bs)
      unfold Node.absorb
      split <;> rfl

theorem latchEntries_remarked (ns : List Node) (es : List Entry) :
    List.Forall₂ Node.remarked ns (latchEntries ns es) := by
  induction ns generalizing es with
  | nil => exact .nil
  | cons n ns ih =>
    cases es with
    | nil => exact forall₂_remarked_refl _
    | cons e es => exact .cons rfl (ih es)

theorem latchDark_remarked (ns : List Node) : List.Forall₂ Node.remarked ns (latchDark ns) :=
  List.forall₂_map_right_iff.mpr (List.forall₂_same.mpr fun _ _ => rfl)

/-- The records of chain `c` are at most 128, each calibrated from the catalog and zoned from the spans. -/
def RecordsCurrent (k : Catalog) (z : Spans) (c : Chain) (ns : List Node) : Prop :=
  ns.length ≤ Config.maxNodes ∧ ∀ p n, ns[p]? = some n → n.select k = n ∧ n.zone = zoneAt z c p

section
variable {k : Catalog} {z : Spans} {c : Chain} {ns ms : List Node}

theorem RecordsCurrent.remarked (h : RecordsCurrent k z c ns) (same : List.Forall₂ Node.remarked ns ms) :
    RecordsCurrent k z c ms := by
  obtain ⟨length, records⟩ := h
  refine ⟨same.length_eq ▸ length, fun p m held => ?_⟩
  obtain ⟨inside, rfl⟩ := List.getElem?_eq_some_iff.mp held
  have before : p < ns.length := same.length_eq ▸ inside
  have mark : (ns[p]).remarked ms[p] := by
    simpa using same.get before inside
  obtain ⟨selected, zoned⟩ := records p ns[p] (List.getElem?_eq_getElem before)
  refine ⟨Node.select_fixed ?_ ?_ selected, ?_⟩
  · rw [mark]; rfl
  · rw [mark]; rfl
  · rw [mark, zoned]

/-- Re-selection calibrates every record from the new catalog and leaves its zone code (R111). -/
theorem RecordsCurrent.reselect (h : RecordsCurrent k z c ns) (k' : Catalog) :
    RecordsCurrent k' z c (ns.map (Node.select k')) := by
  obtain ⟨length, records⟩ := h
  refine ⟨(List.length_map _).trans_le length, fun p m held => ?_⟩
  simp only [List.getElem?_map, Option.map_eq_some_iff] at held
  obtain ⟨n, place, rfl⟩ := held
  refine ⟨n.select_select k', ?_⟩
  rw [Node.select_of_description k' (rfl : n.description = n.description)]
  exact (records p n place).2

/-- Zone code application zones every record and leaves its calibration (R113). -/
theorem recordsCurrent_applyZones (length : ns.length ≤ Config.maxNodes) (selected : ∀ n ∈ ns, n.select k = n) :
    RecordsCurrent k z c (applyZones z c ns) := by
  refine ⟨(List.length_mapIdx).trans_le length, fun p m held => ?_⟩
  simp only [applyZones, List.getElem?_mapIdx, Option.map_eq_some_iff] at held
  obtain ⟨n, place, rfl⟩ := held
  exact ⟨Node.select_fixed (n := n) rfl rfl (selected n (List.mem_of_getElem? place)), rfl⟩

theorem RecordsCurrent.selected (h : RecordsCurrent k z c ns) : ∀ n ∈ ns, n.select k = n := fun n held => by
  obtain ⟨p, place⟩ := List.mem_iff_getElem?.mp held
  exact (h.2 p n place).1

end

/-! ### What is written in the Directory, and what each write keeps -/

/-- Every record of the Directory is calibrated from its catalog and zoned from its spans. -/
def Directory.Current (d : Directory) : Prop := ∀ c, RecordsCurrent d.catalog d.spans c (d.nodes c)

/-- The writes of the Directory after its load: status bytes and latched frames, the answers of a pass, and, unless the
catalog is locked, an entry or a span; and the lock itself (R111, R113, R114, R116, R119, R124). -/
inductive DirectoryWrite (d : Directory) : Directory → Prop
  | remark (c : Chain) {ns : List Node} (same : List.Forall₂ Node.remarked (d.nodes c) ns) :
      DirectoryWrite d (d.setNodes c ns)
  | complete (c : Chain) {answers : List NodeAnswer} (few : answers.length ≤ Config.maxNodes) :
      DirectoryWrite d (d.complete c answers)
  | catalog (k : Catalog) (free : d.locked = false) : DirectoryWrite d { d with catalog := k }.reselect
  | spans (z : Spans) (free : d.locked = false) : DirectoryWrite d { d with spans := z }.rezone
  | lock : DirectoryWrite d { d with locked := true }

@[simp] theorem Directory.setNodes_catalog (d : Directory) (c : Chain) (ns : List Node) :
    (d.setNodes c ns).catalog = d.catalog := by cases c <;> rfl
@[simp] theorem Directory.setNodes_spans (d : Directory) (c : Chain) (ns : List Node) :
    (d.setNodes c ns).spans = d.spans := by cases c <;> rfl
@[simp] theorem Directory.setNodes_locked (d : Directory) (c : Chain) (ns : List Node) :
    (d.setNodes c ns).locked = d.locked := by cases c <;> rfl

@[simp] theorem Directory.reselect_nodes (d : Directory) (c : Chain) :
    d.reselect.nodes c = (d.nodes c).map (Node.select d.catalog) := by cases c <;> rfl
@[simp] theorem Directory.rezone_nodes (d : Directory) (c : Chain) :
    d.rezone.nodes c = applyZones d.spans c (d.nodes c) := by cases c <;> rfl

theorem Directory.Current.setNodes {d : Directory} (h : d.Current) {c : Chain} {ns : List Node}
    (own : RecordsCurrent d.catalog d.spans c ns) : (d.setNodes c ns).Current := fun e => by
  rw [Directory.setNodes_catalog, Directory.setNodes_spans]
  by_cases same : c = e
  · subst same
    rwa [Directory.setNodes_nodes_same]
  · rw [Directory.setNodes_nodes_other d same]
    exact h e

theorem DirectoryWrite.current {d e : Directory} (write : DirectoryWrite d e) (h : d.Current) : e.Current := by
  cases write with
  | remark c same => exact h.setNodes ((h c).remarked same)
  | complete c few =>
    refine h.setNodes (recordsCurrent_applyZones ((List.length_map _).trans_le few) fun n listed => ?_)
    obtain ⟨w, -, rfl⟩ := List.mem_map.mp listed
    exact Node.select_select _ _
  | catalog k free =>
    intro c
    rw [Directory.reselect_nodes]
    cases c
    · exact (h .a).reselect k
    · exact (h .b).reselect k
  | spans z free =>
    intro c
    rw [Directory.rezone_nodes]
    cases c
    · exact recordsCurrent_applyZones (h .a).1 (h .a).selected
    · exact recordsCurrent_applyZones (h .b).1 (h .b).selected
  | lock => exact fun | .a => h .a | .b => h .b

/-- The lock stays through every write, and catalog and spans stay under it (R124). -/
theorem DirectoryWrite.locked {d e : Directory} (write : DirectoryWrite d e) (h : d.locked = true) :
    e.locked = true ∧ e.catalog = d.catalog ∧ e.spans = d.spans := by
  cases write with
  | remark c same => simpa using h
  | complete c few => simpa [Directory.complete] using h
  | catalog k free => exact absurd (h.symm.trans free) (by decide)
  | spans z free => exact absurd (h.symm.trans free) (by decide)
  | lock => exact ⟨rfl, rfl, rfl⟩

end Sys2Proof.Machine

namespace Sys2Proof.Machine

/-! ### What a command writes in the Directory -/

/-- The Directory of `t` is that of `s`, or `s` is AWAKE and one write has been made. -/
def State.WritesDirectory (s t : State) : Prop :=
  t.dir = s.dir ∨ (s.power.part = .awake ∧ DirectoryWrite s.dir t.dir)

/-- The Directory with a new catalog entry, and every record selected anew (R111, R121). -/
def Directory.withEntry (d : Directory) (i : Nat) (e : CatalogEntry) (inside : i < 16) : Directory :=
  { d with catalog := d.catalog.set i e }.reselect

/-- The Directory with a new zone span, and every record zoned anew (R113, R123). -/
def Directory.withSpan (d : Directory) (i : Nat) (z : ZoneSpan) (inside : i < 32) : Directory :=
  { d with spans := d.spans.set i z }.rezone

section
variable (p : List Byte) (s : State)

theorem putCatalog_cases :
    (putCatalog p s).Refuses s ∨
      ∃ (inside : byteAt p 0 < 16) (e : CatalogEntry), catalogOfBytes p = some e ∧ s.dir.locked = false ∧
        putCatalog p s = .plain { s with dir := s.dir.withEntry (byteAt p 0) e inside } .ok := by
  unfold putCatalog
  split
  · split
    · simp
    · split
      · simp
      · exact .inr ⟨‹_›, _, ‹_›, by simp_all, rfl⟩
  · simp

theorem putZoneSpan_cases :
    (putZoneSpan p s).Refuses s ∨
      ∃ (inside : byteAt p 0 < 32) (z : ZoneSpan), spanOfBytes p = some z ∧ s.dir.locked = false ∧
        putZoneSpan p s = .plain { s with dir := s.dir.withSpan (byteAt p 0) z inside } .ok := by
  unfold putZoneSpan
  split
  · split
    · simp
    · split
      · simp
      · exact .inr ⟨‹_›, _, ‹_›, by simp_all, rfl⟩
  · simp

theorem lockCatalog_cases :
    (s.dir.locked = true ∧ lockCatalog s = .plain s .already) ∨
      (s.dir.locked = false ∧ lockCatalog s = .plain { s with dir := { s.dir with locked := true } } .ok) := by
  unfold lockCatalog
  split
  · exact .inl ⟨‹_›, rfl⟩
  · exact .inr ⟨by simp_all, rfl⟩

end

/-- A request that is answered BUSY in STARTING makes at most the write of its owner. -/
theorem State.serve_writes {s : State} {f : LinkFrame} {mine : Bool} {owner : State → Answer}
    (busy : servedInStarting f.kind = false)
    (answer : ∀ t, (owner t).state.dir = t.dir ∨ DirectoryWrite t.dir (owner t).state.dir) :
    s.WritesDirectory (s.serve f mine owner) := by
  by_cases awake : s.power.part = .awake
  · rcases s.serve_cases f mine owner with e | ⟨-, -, e⟩ <;> rw [e]
    · exact .inl rfl
    · unfold State.WritesDirectory
      rw [State.settle_dir, State.reply_dir]
      rcases linkChecked_cases f owner s.takeFrame with ⟨e, -⟩ | ⟨e, -⟩ | ⟨e, -⟩ <;> rw [e]
      · exact .inl rfl
      · exact .inl rfl
      · exact (answer s.takeFrame).imp id fun write => ⟨awake, write⟩
  · refine .inl (State.serve_keeps_awake (P := fun t => t.power.part = s.power.part ∧ t.dir = s.dir) (fun _ _ => id) busy
      (fun t answering kept => ?_) ⟨rfl, rfl⟩).2
    exact absurd (kept.1.symm.trans answering) awake

theorem readAnswers_length (returned : List Byte) (left i : Nat) : (readAnswers returned left i).1.length ≤ left := by
  induction left generalizing i with
  | zero => exact Nat.le_refl 0
  | succ left ih =>
    unfold readAnswers
    split
    · exact Nat.succ_le_succ (ih _)
    · exact Nat.zero_le _

/-- The commands that reset the part, and the load. -/
def loadsDirectory : Instr → Bool
  | .powerOn _ | .startupComplete | .supplyRemoval | .restartTaken => true
  | _ => false

/-- Outside AWAKE an event on the wires writes nothing. -/
theorem exec_onWires_writes {c : Chain} {i : Instr} (wires : onWiresOf c i) {s : State}
    (h : s.power.part = .awake → Leaves (exec i s) s.WritesDirectory) : Leaves (exec i s) s.WritesDirectory := by
  by_cases awake : s.power.part = .awake
  · exact h awake
  · rw [exec_onWires_asleep wires awake]
    exact leaves_next.mpr (.inl rfl)

/-- A command makes at most one write in the Directory, and that in AWAKE, unless it resets or loads it. -/
theorem exec_writesDirectory {c : Instr} (h : loadsDirectory c = false) (s : State) :
    Leaves (exec c s) s.WritesDirectory := by
  by_cases acts : actsOnDirectory c = false
  · exact fun t leads => .inl (exec_dir acts s t leads)
  cases c with
  | latchPoint c =>
    refine exec_onWires_writes (c := c) (by exact rfl) fun awake => leaves_next.mpr ?_
    split
    · split
      · refine .inr ⟨awake, ?_⟩
        rw [State.latchDuty, State.onPort_dir]
        exact .remark c (latchEntries_remarked _ _)
      · refine .inr ⟨awake, ?_⟩
        rw [State.latchDarkFrame, State.onPort_dir]
        exact .remark c (latchDark_remarked _)
      · exact .inl rfl
    · exact .inl rfl
  | shiftEnd c trailer =>
    refine exec_onWires_writes (c := c) (by exact rfl) fun awake => leaves_next.mpr ?_
    split
    · split
      · unfold State.WritesDirectory
        rw [State.settle_dir, State.afterTransfer_dir, State.judgeTrailer_dir]
        split
        · exact .inr ⟨awake, .remark c (absorbAll_remarked _ _)⟩
        · exact .inl rfl
      · exact .inl rfl
    · exact .inl rfl
  | collectEnd c returned =>
    refine exec_onWires_writes (c := c) (by exact rfl) fun awake => leaves_next.mpr ?_
    split
    · refine .inr ⟨awake, ?_⟩
      rw [State.settle_dir, State.completePass, State.queueAll_dir, State.onPort_dir]
      exact .complete c (readAnswers_length _ _ _)
    · exact .inl rfl
  | putCatalog tag p =>
    refine leaves_next.mpr (State.serve_writes rfl fun t => ?_)
    rcases putCatalog_cases p t with ⟨-, -, e, -⟩ | ⟨_, k, -, free, e⟩ <;> rw [e]
    · exact .inl rfl
    · exact .inr (.catalog _ free)
  | putZoneSpan tag p =>
    refine leaves_next.mpr (State.serve_writes rfl fun t => ?_)
    rcases putZoneSpan_cases p t with ⟨-, -, e, -⟩ | ⟨_, z, -, free, e⟩ <;> rw [e]
    · exact .inl rfl
    · exact .inr (.spans _ free)
  | lockCatalog tag p =>
    refine leaves_next.mpr (State.serve_writes rfl fun t => ?_)
    rcases lockCatalog_cases t with ⟨-, e⟩ | ⟨-, e⟩ <;> rw [e]
    · exact .inl rfl
    · exact .inr .lock
  | powerOn hi | startupComplete | supplyRemoval | restartTaken => cases h
  | _ => exact absurd rfl acts

/-! ### The catalog lock (R124) -/

/-- The load leaves the lock as it is, or sets it (R124, R196). -/
theorem State.load_locked {s : State} (h : s.dir.locked = true) : s.load.dir.locked = true :=
  Bool.or_eq_true_iff.mpr (.inl h)

/-- Settles O13: every write keeps the lock, and none writes a table under it. -/
theorem catalogLockFreezes : Obligations.CatalogLockFreezes := by
  intro c s t locked leads noPower noRemoval
  by_cases loads : loadsDirectory c = false
  · rcases exec_writesDirectory loads s t leads with same | ⟨-, write⟩
    · rw [same]
      exact ⟨locked, fun _ _ => ⟨rfl, rfl⟩⟩
    · obtain ⟨kept, catalog, spans⟩ := write.locked locked
      exact ⟨kept, fun _ _ => ⟨catalog, spans⟩⟩
  cases c with
  | powerOn hi => exact absurd rfl (noPower hi)
  | supplyRemoval => exact absurd rfl noRemoval
  | startupComplete =>
    refine ⟨?_, fun load => absurd rfl load⟩
    refine (leaves_next (P := fun t => t.dir.locked = true)).mpr ?_ t leads
    split
    · rw [State.settle_dir, State.enterAwake_dir]
      exact State.load_locked locked
    · exact locked
  | restartTaken =>
    refine ⟨?_, fun _ taken => absurd rfl taken⟩
    refine (leaves_next (P := fun t => t.dir.locked = true)).mpr ?_ t leads
    split <;> exact locked
  | _ => exact absurd rfl loads

/-! ### The law of calibrated and zoned records -/

/-- The part has not yet come to AWAKE since its power-on, or is without supply. -/
def State.early (s : State) : Prop := s.power.part = .starting ∨ s.power.part = .unpowered

/-- Only the resets take the part back before AWAKE (10, part states). -/
theorem exec_early {c : Instr} (noReset : c = .startupComplete ∨ loadsDirectory c = false) (s : State) :
    Leaves (exec c s) fun t => t.early → s.early := by
  have keeps {t : State} (same : t.power.part = s.power.part) : t.early → s.early := by
    unfold State.early
    rw [same]
    exact id
  by_cases acts : (actsOnLayers c && actsOnPorts c) = false
  · intro t leads
    rcases Bool.and_eq_false_iff.mp acts with layers | ports
    · exact keeps (congrArg Power.part (exec_sameLayers layers s t leads).2.1)
    · exact keeps (congrArg Prod.fst (exec_chainState ports s t leads))
  cases c with
  | startupComplete =>
    refine leaves_next.mpr ?_
    split
    · exact fun _ => .inl ‹_›
    · exact id
  | tick order =>
    refine leaves_next.mpr (keeps ?_)
    by_cases awake : s.power.part = .awake
    · rw [(State.tick_sameButLayers awake order).2.1, s.ticked_power]
    · rcases State.tick_asleep awake order with e | e <;> rw [e]
  | debouncedAssertion =>
    refine leaves_next.mpr ?_
    split
    · refine keeps ?_
      dsimp only
      rw [State.settle_power]
      split
      · simp [State.cancelSleep_power]
      · rfl
    · exact id
  | sleep tag p =>
    refine leaves_next.mpr (keeps ?_)
    refine State.serve_keeps (P := fun t => t.power.part = s.power.part) (fun _ _ => id) (fun t _ ht => ?_) rfl
    rcases sleep_cases t with ⟨-, -, e, -⟩ | ⟨-, -, -, e⟩ <;> rw [e]
    · exact ht
    · simpa using ht
  | dormantEntry =>
    refine leaves_next.mpr ?_
    split
    · rintro (e | e) <;> cases e
    · exact id
  | wakeByLink | wakeByEgress =>
    refine leaves_next.mpr ?_
    split
    · rintro (e | e) <;> cases e
    · exact id
  | powerOn hi | supplyRemoval | restartTaken => rcases noReset with e | e <;> cases e
  | _ => exact absurd rfl acts

theorem directoryCurrent_iff {s : State} :
    DirectoryCurrent s ↔ s.dir.Current ∧ (s.early → s.dir.nodesA = [] ∧ s.dir.nodesB = []) := Iff.rfl

/-- A chain without records has none to calibrate. -/
theorem Directory.Current.of_empty {d : Directory} (a : d.nodesA = []) (b : d.nodesB = []) : d.Current := fun c => by
  have empty : d.nodes c = [] := by cases c <;> assumption
  rw [empty]
  exact ⟨Nat.zero_le _, fun p n held => by simp at held⟩

theorem exec_keeps_directory (c : Instr) (s : State) (h : DirectoryCurrent s) : Leaves (exec c s) DirectoryCurrent := by
  obtain ⟨current, empty⟩ := directoryCurrent_iff.mp h
  have reset : ∀ t : State, t.dir.nodesA = [] → t.dir.nodesB = [] → DirectoryCurrent t := fun t a b =>
    directoryCurrent_iff.mpr ⟨.of_empty a b, fun _ => ⟨a, b⟩⟩
  by_cases loads : loadsDirectory c = false
  · intro t leads
    rcases exec_writesDirectory loads s t leads with same | ⟨awake, write⟩
    · rw [directoryCurrent_iff, same]
      exact ⟨current, fun early => empty (exec_early (.inr loads) s t leads early)⟩
    · refine directoryCurrent_iff.mpr ⟨write.current current, fun early => ?_⟩
      rcases exec_early (.inr loads) s t leads early with e | e <;> cases awake.symm.trans e
  cases c with
  | powerOn hi => exact leaves_next.mpr (reset _ rfl rfl)
  | supplyRemoval => exact leaves_next.mpr (reset _ rfl rfl)
  | startupComplete =>
    refine leaves_next.mpr ?_
    split
    · obtain ⟨a, b⟩ := empty (.inl ‹_›)
      have dir : s.load.enterAwake.settle.dir = s.load.dir := by rw [State.settle_dir, State.enterAwake_dir]
      exact reset _ ((congrArg Directory.nodesA dir).trans a) ((congrArg Directory.nodesB dir).trans b)
    · exact h
  | restartTaken =>
    refine leaves_next.mpr ?_
    split
    · exact reset _ rfl rfl
    · exact h
  | _ => exact absurd rfl loads

/-- Settles O11: the tables are written with the records of both chains, other writes leave what selection reads, and the
load finds no records. -/
theorem stepKeepsDirectoryCurrent : Obligations.StepKeepsDirectoryCurrent :=
  step_keeps (P := DirectoryCurrent) (fun _ _ => id) exec_keeps_directory

end Sys2Proof.Machine

namespace Sys2Proof.Machine

/-! ### The bytes of answers (R140, R141) -/

/-- The bytes DIx returns for an answer: the mark, the identity record, and the block when there is one. -/
def NodeAnswer.bytes (w : NodeAnswer) : List Byte := answerMark :: w.identity ++ w.block.getD []

/-- The identity record has eight bytes, and the block is there, with sixteen, exactly when the record says so. -/
def NodeAnswer.wellFormed (w : NodeAnswer) : Prop :=
  w.identity.length = 8 ∧
    if blockPresent w.identity = true then ∃ b, w.block = some b ∧ b.length = 16 else w.block = none

theorem returnedByte_append (before : List Byte) (b : Byte) (after : List Byte) :
    returnedByte (before ++ b :: after) before.length = b := by
  simp [returnedByte]

theorem returnedBytes_append (before bytes after : List Byte) :
    returnedBytes (before ++ (bytes ++ after)) before.length bytes.length = bytes := by
  refine List.ext_getElem (by simp [returnedBytes]) fun k _ inside => ?_
  simp only [returnedBytes, returnedByte, List.getElem_map, List.getElem_range, List.getD_eq_getElem?_getD]
  rw [List.getElem?_append_right (Nat.le_add_right _ _), Nat.add_sub_cancel_left, List.getElem?_append_left inside,
    List.getElem?_eq_getElem inside, Option.getD_some]

/-- One answer is read as it was sent, and reading goes on behind its last byte. -/
theorem readAnswers_answer {w : NodeAnswer} (formed : w.wellFormed) (before after : List Byte) (left : Nat) :
    readAnswers (before ++ (w.bytes ++ after)) (left + 1) before.length =
      (w :: (readAnswers (before ++ (w.bytes ++ after)) left (before ++ w.bytes).length).1,
        (readAnswers (before ++ (w.bytes ++ after)) left (before ++ w.bytes).length).2) := by
  obtain ⟨length, block⟩ := formed
  generalize returned_eq : before ++ (w.bytes ++ after) = returned
  have mark : returnedByte returned before.length = answerMark := by
    rw [← returned_eq]
    exact returnedByte_append _ _ _
  have identity : returnedBytes returned (before.length + 1) 8 = w.identity := by
    have read := returnedBytes_append (before ++ [answerMark]) w.identity (w.block.getD [] ++ after)
    rw [length, List.length_append] at read
    rw [← returned_eq]
    simpa [NodeAnswer.bytes] using read
  rw [readAnswers, if_pos mark]
  simp only [identity]
  split at block
  · rename_i present
    obtain ⟨b, held, sixteen⟩ := block
    have read : returnedBytes returned (before.length + 9) 16 = b := by
      have read := returnedBytes_append (before ++ answerMark :: w.identity) b after
      rw [sixteen, List.length_append, List.length_cons, length] at read
      rw [← returned_eq]
      simpa [NodeAnswer.bytes, held] using read
    have next : (before ++ w.bytes).length = before.length + 25 := by
      simp [NodeAnswer.bytes, held, length, sixteen]
    rw [if_pos present, if_pos present, read, next, ← held]
  · rename_i absent
    have next : (before ++ w.bytes).length = before.length + 9 := by simp [NodeAnswer.bytes, block, length]
    rw [if_neg absent, if_neg absent, next, ← block]

/-- A pass reads the answers up to the byte that ends it, and is OVERLONG where that is the mark of one too many. -/
theorem readAnswers_run {answers : List NodeAnswer} (formed : ∀ w ∈ answers, w.wellFormed) {final : Byte}
    {left : Nat} (few : answers.length ≤ left) (ends : final = answerMark → answers.length = left)
    (before rest : List Byte) :
    readAnswers (before ++ (answers.flatMap NodeAnswer.bytes ++ final :: rest)) left before.length =
      (answers, if final = answerMark then .overlong else .complete) := by
  induction answers generalizing left before with
  | nil =>
    have last : returnedByte (before ++ final :: rest) before.length = final := returnedByte_append _ _ _
    cases left with
    | zero => simp [readAnswers, last]
    | succ left =>
      have other : final ≠ answerMark := fun mark => absurd (ends mark) (by simp)
      simp [readAnswers, last, other]
  | cons w answers ih =>
    cases left with
    | zero => cases few
    | succ left =>
      rw [List.flatMap_cons, List.append_assoc, readAnswers_answer (formed w List.mem_cons_self)]
      have tail := ih (fun v listed => formed v (List.mem_cons_of_mem w listed)) (Nat.le_of_succ_le_succ few)
        (fun mark => Nat.succ.inj (ends mark)) (before ++ w.bytes)
      rw [List.append_assoc] at tail
      rw [tail]

/-! ### Identify passes (R140 to R143) -/

section
variable {s : State} {c : Chain}

theorem exec_identifyRequestEnd_of_request (awake : s.power.part = .awake)
    (request : (s.port c).transfer = some .request) :
    exec (.identifyRequestEnd c) s = .next (s.setPort c { s.port c with transfer := none, settle := some 2 }) :=
  congrArg Host.Outcome.next (if_pos (by simp [State.awake, awake, request]))

theorem exec_settleEnd_of_due {k : Nat} (awake : s.power.part = .awake) (idle : (s.port c).transfer = none)
    (settle : (s.port c).settle = some k) (due : k ≤ 1) :
    exec (.settleEnd c) s = .next (s.setPort c { s.port c with transfer := some .collect, settle := none }) :=
  congrArg Host.Outcome.next (if_pos (by simp [State.awake, awake, idle, settle, timerDue, due]))

theorem exec_collectEnd_of_collect (awake : s.power.part = .awake) (collect : (s.port c).transfer = some .collect)
    (returned : List Byte) :
    exec (.collectEnd c returned) s =
      .next (s.completePass c (readAnswers returned 128 0).1 (readAnswers returned 128 0).2).settle :=
  congrArg Host.Outcome.next (if_pos (by simp [State.awake, awake, collect]))

theorem exec_collectMarkerTimeout_of_collect (awake : s.power.part = .awake)
    (collect : (s.port c).transfer = some .collect) :
    exec (.collectMarkerTimeout c) s =
      .next ((s.onPort c fun p => p.stopPass.run.beginNext (s.count c)).queueAll [s.abandonNotice c]).settle :=
  congrArg Host.Outcome.next (if_pos (by simp [State.awake, awake, collect]))

/-- The port that a complete pass leaves, before a transfer that waits begins (R134, R142). -/
def Port.enumerated (p : Port) : Port :=
  ({ p with loopBroken := false, failingRun := 0, correctRun := 0 } : Port).endTransfer.run

theorem State.completePass_port (answers : List NodeAnswer) (outcome : PassOutcome) :
    (s.completePass c answers outcome).port c = (s.port c).enumerated.beginNext answers.length := by
  rw [State.completePass, State.queueAll_port, State.onPort_port_same, State.withDir_port]
  rfl

theorem State.completePass_dir (answers : List NodeAnswer) (outcome : PassOutcome) :
    (s.completePass c answers outcome).dir = s.dir.complete c answers := by
  rw [State.completePass, State.queueAll_dir, State.onPort_dir]

theorem State.completePass_link (answers : List NodeAnswer) (outcome : PassOutcome) :
    (s.completePass c answers outcome).link = s.link.queue (.enumeration c answers.length outcome) := by
  unfold State.completePass
  show Link.queue (State.onPort _ _ _).link _ = _
  rw [State.onPort_link]

end

/-- Settles O37: each event of a pass by the transfer it ends, and the reading of answers by induction on them. -/
theorem identifyPassRuns : Obligations.IdentifyPassRuns := by
  refine ⟨fun c s => exec_identifyRequestEnd_of_request, fun c s k => exec_settleEnd_of_due,
    fun c returned s awake collect nothing => ?_, fun c s awake collect nothing => ?_,
    fun answers final rest formed => ⟨fun few other => ?_, fun many mark => ?_⟩⟩
  · have leads := exec_collectEnd_of_collect awake collect returned
    obtain ⟨arb, -, pool, -⟩ := exec_sameLayers (by rfl) s _ leads
    refine ⟨_, leads, ?_⟩
    generalize readAnswers returned 128 0 = found at arb pool ⊢
    have idle := Port.beginNext_nothing (p := (s.port c).enumerated) (n := found.1.length) rfl nothing
    obtain ⟨transfer, waiting, begun⟩ := (s.port c).enumerated.beginNext_eq found.1.length
    rw [State.settle_port, State.settle_dir, State.completePass_port, State.completePass_dir]
    rw [begun] at idle ⊢
    refine ⟨⟨?_, congrArg Link.startNext (s.completePass_link _ _)⟩, ?_, ?_, rfl, idle.1, rfl, rfl, rfl, rfl, arb, pool⟩
    · exact Directory.setNodes_nodes_same c _ _
    · exact Directory.setNodes_catalog _ _ _
    · exact Directory.setNodes_spans _ _ _
  · have leads := exec_collectMarkerTimeout_of_collect awake collect
    obtain ⟨arb, -⟩ := exec_sameLayers (by rfl) s _ leads
    refine ⟨_, leads, ?_⟩
    have idle := Port.beginNext_nothing (p := (s.port c).stopPass.run) (n := s.count c)
      (by simp [Port.run, Port.stopPass, collect]) (by simp [Port.run, Port.stopPass, nothing])
    obtain ⟨transfer, waiting, begun⟩ := (s.port c).stopPass.run.beginNext_eq (s.count c)
    rw [State.settle_port, State.queueAll_port, State.onPort_port_same]
    rw [begun] at idle ⊢
    refine ⟨by simp, rfl, idle.1, rfl, ?_, arb⟩
    exact congrArg (fun l : Link => (l.queue _).startNext) (s.onPort_link c _)
  · have other : final ≠ answerMark := other
    have run := readAnswers_run formed few (fun mark => absurd mark other) [] rest
    rwa [if_neg other] at run
  · have mark : final = answerMark := mark
    have run := readAnswers_run (final := final) formed many.le (fun _ => many) [] rest
    rwa [if_pos mark] at run

end Sys2Proof.Machine

namespace Sys2Proof.Machine

/-! ### PUT CATALOG and PUT ZONE SPAN (R121, R123) -/

theorem chainCode?_eq_none {n : Nat} : chainCode? n = none ↔ 1 < n := by
  unfold chainCode?
  split
  · simp; omega
  · split
    · simp; omega
    · simp; omega

theorem Directory.withEntry_catalog (d : Directory) {i : Nat} (e : CatalogEntry) (inside : i < 16) (k : Fin 16) :
    (d.withEntry i e inside).catalog[k] = if k.val = i then e else d.catalog[k] := by
  simp only [Directory.withEntry, Directory.reselect, Fin.getElem_fin, Vector.getElem_set, eq_comm]

theorem Directory.withSpan_spans (d : Directory) {i : Nat} (z : ZoneSpan) (inside : i < 32) (k : Fin 32) :
    (d.withSpan i z inside).spans[k] = if k.val = i then z else d.spans[k] := by
  simp only [Directory.withSpan, Directory.rezone, Fin.getElem_fin, Vector.getElem_set, eq_comm]

section
variable {p : List Byte} {s : State}

/-- The fields of an entry whose codes and currents pass checks 2 and 3 of R121. -/
theorem catalogOfBytes_eq_some {valid overrideSelf : Bool} (code : boolCode? (byteAt p 1) = some valid)
    (override : boolCode? (byteAt p 19) = some overrideSelf) (r : wordAt p 13 ≤ 1000) (g : wordAt p 15 ≤ 1000)
    (b : wordAt p 17 ≤ 1000) :
    catalogOfBytes p = some
      { valid := valid, supplier := wordAt p 2, part := wordAt p 4, bin := byteAt p 6,
        gains := ⟨wordAt p 7, wordAt p 9, wordAt p 11⟩, currents := ⟨wordAt p 13, wordAt p 15, wordAt p 17⟩,
        overrideSelf := overrideSelf } := by
  simp [catalogOfBytes, code, override, rgb16At, r, g, b]

theorem catalogOfBytes_eq_none :
    catalogOfBytes p = none ↔
      (1 < byteAt p 1 ∨ 1 < byteAt p 19) ∨ 1000 < wordAt p 13 ∨ 1000 < wordAt p 15 ∨ 1000 < wordAt p 17 := by
  rw [← boolCode?_eq_none, ← boolCode?_eq_none]
  unfold catalogOfBytes
  cases boolCode? (byteAt p 1) with
  | none => simp
  | some valid =>
    cases boolCode? (byteAt p 19) with
    | none => simp
    | some overrideSelf =>
      simp [rgb16At]
      omega

/-- The fields of a span whose codes and positions pass checks 2 to 4 of R123. -/
theorem spanOfBytes_eq_some {valid : Bool} {c : Chain} (code : boolCode? (byteAt p 1) = some valid)
    (chain : chainCode? (byteAt p 2) = some c) (last : byteAt p 4 ≤ 127) (order : byteAt p 3 ≤ byteAt p 4) :
    spanOfBytes p = some
      { valid := valid, chain := c, first := byteAt p 3, last := byteAt p 4, zone := p.getD 5 0 } := by
  have first : byteAt p 3 ≤ 127 := order.trans last
  simp [spanOfBytes, code, chain, first, last, order]

theorem spanOfBytes_eq_none :
    spanOfBytes p = none ↔
      (1 < byteAt p 1 ∨ 1 < byteAt p 2) ∨ (127 < byteAt p 3 ∨ 127 < byteAt p 4) ∨ byteAt p 4 < byteAt p 3 := by
  rw [← boolCode?_eq_none, ← chainCode?_eq_none]
  unfold spanOfBytes
  cases boolCode? (byteAt p 1) with
  | none => simp
  | some valid =>
    cases chainCode? (byteAt p 2) with
    | none => simp
    | some c =>
      simp
      omega

theorem putCatalog_of_entry {e : CatalogEntry} (inside : byteAt p 0 < 16) (entry : catalogOfBytes p = some e) :
    putCatalog p s =
      if s.dir.locked then .plain s .locked
      else .plain { s with dir := s.dir.withEntry (byteAt p 0) e inside } .ok := by
  rw [putCatalog, dif_pos inside, entry]
  rfl

theorem putZoneSpan_of_span {z : ZoneSpan} (inside : byteAt p 0 < 32) (span : spanOfBytes p = some z) :
    putZoneSpan p s =
      if s.dir.locked then .plain s .locked
      else .plain { s with dir := s.dir.withSpan (byteAt p 0) z inside } .ok := by
  rw [putZoneSpan, dif_pos inside, span]
  rfl

/-- The status of PUT CATALOG is that of the first failing check (R121). -/
theorem putCatalog_status (p : List Byte) (s : State) : (putCatalog p s).status = s.putCatalogStatus p := by
  unfold State.putCatalogStatus
  by_cases inside : byteAt p 0 < 16
  · rw [if_neg (by omega)]
    cases entry : catalogOfBytes p with
    | none =>
      have refused : (putCatalog p s).status = .invalid := by rw [putCatalog, dif_pos inside, entry]; rfl
      rcases catalogOfBytes_eq_none.mp entry with codes | currents
      · rw [refused, if_pos codes]
      · rw [refused, if_pos currents, ite_self]
    | some e =>
      have sound := mt catalogOfBytes_eq_none.mpr (by rw [entry]; exact Option.some_ne_none e)
      rw [not_or] at sound
      rw [putCatalog_of_entry inside entry, if_neg sound.1, if_neg sound.2]
      split <;> rfl
  · rw [putCatalog, dif_neg inside, if_pos (by omega)]
    rfl

/-- The status of PUT ZONE SPAN is that of the first failing check (R123). -/
theorem putZoneSpan_status (p : List Byte) (s : State) : (putZoneSpan p s).status = s.putSpanStatus p := by
  unfold State.putSpanStatus
  by_cases inside : byteAt p 0 < 32
  · rw [if_neg (by omega)]
    cases span : spanOfBytes p with
    | none =>
      have refused : (putZoneSpan p s).status = .invalid := by rw [putZoneSpan, dif_pos inside, span]; rfl
      rcases spanOfBytes_eq_none.mp span with codes | positions | order
      · rw [refused, if_pos codes]
      · rw [refused, if_pos positions, ite_self]
      · rw [refused, if_pos order, ite_self, ite_self]
    | some z =>
      have sound := mt spanOfBytes_eq_none.mpr (by rw [span]; exact Option.some_ne_none z)
      rw [not_or, not_or (p := _ ∨ _)] at sound
      obtain ⟨codes, positions, order⟩ := sound
      rw [putZoneSpan_of_span inside span, if_neg codes, if_neg positions, if_neg order]
      split <;> rfl
  · rw [putZoneSpan, dif_neg inside, if_pos (by omega)]
    rfl

/-- A PUT CATALOG that fails a check is refused without effect (R121). -/
theorem putCatalog_refuses (failed : s.putCatalogStatus p ≠ .ok) : (putCatalog p s).Refuses s := by
  rw [← putCatalog_status] at failed
  rcases putCatalog_cases p s with refuses | ⟨_, _, -, -, e⟩
  · exact refuses
  · exact absurd (congrArg Answer.status e) failed

/-- A PUT ZONE SPAN that fails a check is refused without effect (R123). -/
theorem putZoneSpan_refuses (failed : s.putSpanStatus p ≠ .ok) : (putZoneSpan p s).Refuses s := by
  rw [← putZoneSpan_status] at failed
  rcases putZoneSpan_cases p s with refuses | ⟨_, _, -, -, e⟩
  · exact refuses
  · exact absurd (congrArg Answer.status e) failed

end

/-! ### The matching entry and what selection makes of it (R109, R110) -/

section
variable {k : Catalog} {n : Node} {i : Fin 16} {g : Rgb}

theorem CatalogEntry.serves_iff {e : CatalogEntry} :
    e.serves n = true ↔
      e.valid = true ∧ e.supplier = n.supplier ∧ e.part = n.part ∧ (e.bin = n.bin ∨ e.bin = 255) := by
  simp [CatalogEntry.serves, and_assoc]

theorem matchingEntry_eq_none (none : ∀ i : Fin 16, (k[i]).serves n ≠ true) : matchingEntry k n = Option.none := by
  unfold matchingEntry
  split
  · exact List.find?_eq_none.mpr fun i _ => none i
  · rfl

theorem matchingEntry_eq_some (valid : n.identityValid = true) (serves : (k[i]).serves n = true)
    (first : ∀ j, j < i → (k[j]).serves n ≠ true) : matchingEntry k n = some i := by
  rw [matchingEntry, if_pos valid, List.find?_eq_some_iff_getElem]
  refine ⟨serves, i.val, by simp, by simp, fun j below => ?_⟩
  simpa using first ⟨j, below.trans i.isLt⟩ below

/-- The record `n` with a calibration. -/
def Node.calibrated (n : Node) (entry : Option Nat) (source : CalSource) (gains currents : Rgb) (cap : Nat) : Node :=
  { n with catalogEntry := entry, source := source, gains := gains, currents := currents, cap := cap }

theorem Node.select_invalid (invalid : n.identityValid = false) :
    n.select k = n.calibrated none .generic (Rgb.all 32768) (Rgb.all 200) 2047 := by
  simp [Node.select, matchingEntry, invalid, Node.generic, Node.calibrated]

theorem Node.select_self (valid : n.identityValid = true) (found : matchingEntry k n = none) (block : n.block = .valid)
    (gains : n.blockGains = some g) :
    n.select k = n.calibrated none .self g (n.blockCurrents.getD (Rgb.all 200)) 4095 := by
  simp [Node.select, found, valid, block, gains, Node.calibrated]

theorem Node.select_generic (valid : n.identityValid = true) (found : matchingEntry k n = none)
    (block : n.block ≠ .valid) : n.select k = n.calibrated none .generic (Rgb.all 32768) (Rgb.all 200) 2047 := by
  simp [Node.select, found, valid, block, Node.generic, Node.calibrated]

theorem Node.select_served_self (valid : n.identityValid = true) (found : matchingEntry k n = some i)
    (block : n.block = .valid) (gains : n.blockGains = some g) (keeps : (k[i]).overrideSelf = false) :
    n.select k = n.calibrated (some i.val) .self g (n.blockCurrents.getD (k[i]).currents) 4095 := by
  simp_all [Node.select, Node.calibrated]

theorem Node.select_catalog (valid : n.identityValid = true) (found : matchingEntry k n = some i)
    (takes : n.block ≠ .valid ∨ (k[i]).overrideSelf = true) :
    n.select k = n.calibrated (some i.val) .catalog (k[i]).gains (k[i]).currents 4095 := by
  by_cases block : n.block = .valid
  · have override : (k[i]).overrideSelf = true := takes.resolve_left fun other => other block
    cases gains : n.blockGains with
    | none => simp [Node.select, found, valid, block, gains, Node.calibrated]
    | some g => simp_all [Node.select, Node.calibrated]
  · simp [Node.select, found, valid, block, Node.calibrated]

end

/-! ### The zone code of a position (R113) -/

section
variable {c : Chain} {p : Nat}

theorem foldl_zone_of_none {l : List ZoneSpan} (none : ∀ z ∈ l, z.covers c p = false) (zone : BitVec 8) :
    l.foldl (fun zone z => if z.covers c p then z.zone else zone) zone = zone := by
  induction l generalizing zone with
  | nil => rfl
  | cons z l ih =>
    rw [List.foldl_cons, none z List.mem_cons_self]
    exact ih (fun y listed => none y (List.mem_cons_of_mem z listed)) zone

theorem zoneAt_of_none {z : Spans} (none : ∀ i : Fin 32, (z[i]).covers c p = false) : zoneAt z c p = 0 := by
  refine foldl_zone_of_none (fun y listed => ?_) 0
  obtain ⟨i, inside, rfl⟩ := Vector.mem_iff_getElem.mp (Vector.mem_toList_iff.mp listed)
  exact none ⟨i, inside⟩

/-- The spans are taken in the order of their indices, so that the last that covers the position decides. -/
theorem zoneAt_of_last {z : Spans} {i : Fin 32} (covers : (z[i]).covers c p = true)
    (last : ∀ j, i < j → (z[j]).covers c p = false) : zoneAt z c p = (z[i]).zone := by
  have split : z.toList = z.toList.take i.val ++ z.toList[i.val] :: z.toList.drop (i.val + 1) := by
    rw [List.cons_getElem_drop_succ, List.take_append_drop]
  rw [Vector.getElem_toList] at split
  unfold zoneAt
  rw [split, List.foldl_append, List.foldl_cons, if_pos (show (z[i.val]).covers c p = true from covers)]
  refine foldl_zone_of_none (fun y listed => ?_) _
  obtain ⟨j, inside, rfl⟩ := List.mem_drop_iff_getElem.mp listed
  rw [Vector.length_toList] at inside
  rw [Vector.getElem_toList]
  exact last ⟨i.val + 1 + j, by omega⟩ (Fin.lt_def.mpr (by dsimp only; omega))

theorem ZoneSpan.covers_iff {z : ZoneSpan} :
    z.covers c p = true ↔ z.valid = true ∧ z.chain = c ∧ z.first ≤ p ∧ p ≤ z.last := by
  simp [ZoneSpan.covers, and_assoc]

end

/-- Settles O52: each table is its owner's equation and each refusal the first failing check of its chain; selection by
the matching entry, zone codes by the last span that covers. -/
theorem tablesAreWritten : Obligations.TablesAreWritten := by
  refine ⟨fun tag p s valid overrideSelf ready length inside code override r g b => ?_,
    fun tag p s valid c ready length inside code chain last order => ?_,
    fun tag p s ready length failed => ?_, fun tag p s ready length failed => ?_, fun tag s ready => ⟨?_, ?_⟩,
    fun k n => ⟨Node.select_invalid, fun valid none => ?_, fun i valid serves first => ?_⟩, fun z c p => ⟨?_, ?_⟩⟩
  · have allowed : lengthAllowed 0x32 p.length = true := by rw [length]; rfl
    have writes := putCatalog_of_entry (s := s.takeFrame) inside (catalogOfBytes_eq_some code override r g b)
    rw [s.takeFrame_dir] at writes
    refine ⟨fun locked => ?_, fun free => ⟨s.dir.withEntry (byteAt p 0) _ inside, ?_, free, rfl,
      s.dir.withEntry_catalog _ inside, Directory.reselect_nodes _⟩⟩
    · exact congrArg Host.Outcome.next (State.serve_read ready allowed (writes.trans (if_pos locked)))
    · exact exec_answered _ ready rfl allowed (writes.trans (if_neg (by rw [free]; decide)))
  · have allowed : lengthAllowed 0x34 p.length = true := by rw [length]; rfl
    have writes := putZoneSpan_of_span (s := s.takeFrame) inside (spanOfBytes_eq_some code chain last order)
    rw [s.takeFrame_dir] at writes
    refine ⟨fun locked => ?_, fun free => ⟨s.dir.withSpan (byteAt p 0) _ inside, ?_, free, rfl,
      s.dir.withSpan_spans _ inside, Directory.rezone_nodes _⟩⟩
    · exact congrArg Host.Outcome.next (State.serve_read ready allowed (writes.trans (if_pos locked)))
    · exact exec_answered _ ready rfl allowed (writes.trans (if_neg (by rw [free]; decide)))
  · exact congrArg Host.Outcome.next (State.serve_refuses ready rfl (by rw [length]; rfl)
      (putCatalog_refuses failed) (putCatalog_status p s.takeFrame))
  · exact congrArg Host.Outcome.next (State.serve_refuses ready rfl (by rw [length]; rfl)
      (putZoneSpan_refuses failed) (putZoneSpan_status p s.takeFrame))
  · exact fun locked => congrArg Host.Outcome.next (State.serve_read ready rfl (if_pos locked))
  · exact fun free => exec_answered (fun t => { t with dir := { t.dir with locked := true } }) ready rfl rfl
      (if_neg (by rw [s.takeFrame_dir, free]; decide))
  · have found := matchingEntry_eq_none (n := n) fun i serves => none i (CatalogEntry.serves_iff.mp serves)
    exact ⟨fun g => Node.select_self valid found, Node.select_generic valid found⟩
  · have found := matchingEntry_eq_some valid (CatalogEntry.serves_iff.mpr serves) fun j below served =>
      first j below (CatalogEntry.serves_iff.mp served)
    exact ⟨fun g => Node.select_served_self valid found, Node.select_catalog valid found⟩
  · exact fun i covers last => zoneAt_of_last (ZoneSpan.covers_iff.mpr covers) fun j above =>
      Bool.eq_false_iff.mpr fun covered => last j above (ZoneSpan.covers_iff.mp covered)
  · exact fun none => zoneAt_of_none fun i => Bool.eq_false_iff.mpr fun covered => none i (ZoneSpan.covers_iff.mp covered)

end Sys2Proof.Machine

/-! # Proofs: SET CHAIN TIMING

What the retiming of a port does to its transfer in progress and to a pass that waits, and the answers of the request. -/

namespace Sys2Proof.Machine

/-! ### The port under new timing (R125, R135) -/

section
variable {p : Port} {n : Nat}

/-- The port with its three timing fields written, the period clamped (R128, R135). -/
def Port.timed (pre sel period : Nat) (p : Port) : Port := { p with pre := pre, sel := sel, period := clampPeriod period }

/-- With no transfer in progress and nothing waiting, nothing begins. -/
theorem Port.beginNext_idle (free : p.transfer = none) (nothing : p.waiting = []) : p.beginNext n = p := by
  obtain ⟨transfer, waiting, begun⟩ := p.beginNext_eq n
  obtain ⟨stays, none⟩ := Port.beginNext_nothing (n := n) free nothing
  rw [begun] at stays none ⊢
  dsimp only at stays none
  rw [stays, none, ← free, ← nothing]

/-- The first that waits begins where it can, and the rest go on waiting (R125). -/
theorem Port.beginNext_begins {w : Waiting} {ws : List Waiting} {x : Transfer} (free : p.transfer = none)
    (waits : p.waiting = w :: ws) (begins : p.transferFor n w = some x) :
    p.beginNext n = { p with transfer := some x, waiting := ws } := by
  obtain ⟨transfer, waiting, begun⟩ := p.beginNext_eq n
  obtain ⟨first, rest⟩ := Port.beginNext_first free waits begins
  rw [begun] at first rest ⊢
  dsimp only at first rest
  rw [first, rest]

/-- A pass under way that is stopped with nothing waiting begins anew at once (R135, R143). -/
theorem Port.stopPass_passing (nothing : p.waiting = [])
    (own : p.transfer = none ∨ p.transfer = some .request ∨ p.transfer = some .collect) :
    p.stopPass.passing n = { p with state := .enumerating, settle := none, transfer := some .request } := by
  have stopped : p.stopPass.transfer = none := by rcases own with h | h | h <;> simp [Port.stopPass, h]
  rw [Port.passing_free stopped (by simp [Port.stopPass, nothing])]
  simp [Port.stopPass, nothing]

theorem Port.inPass_iff :
    p.inPass = true ↔ p.settle ≠ none ∨ p.transfer = some .request ∨ p.transfer = some .collect := by
  simp [Port.inPass, Option.isSome_iff_ne_none, or_assoc]

section
variable {sleepPending : Bool}

/-- The port whose duty shift is aborted, counted and ended, and what begins next (R125, R132, R135, R207). -/
def Port.aborted (p : Port) (sleepPending : Bool) (n : Nat) : Port :=
  (p.countAbort.endTransfer.resumeIf sleepPending).beginNext n

/-- Without a wake mark, and before its dark frame, a port does not resume at the abort (R207). -/
theorem Port.aborted_stays (stays : p.wakeMark = false ∨ .dark ∈ p.waiting) :
    p.aborted sleepPending n = p.countAbort.endTransfer.beginNext n :=
  congrArg (·.beginNext n) (Port.resumeIf_stays (p := p.countAbort.endTransfer) (stays.imp_right .inr))

/-- A closing dark frame that waits for the aborted duty shift begins (R135). -/
theorem Port.aborted_dark {rest : List Waiting} (waits : p.waiting = .dark :: rest) :
    p.aborted sleepPending n = { p.countAbort with transfer := some (.dark n false), waiting := rest } :=
  (Port.aborted_stays (.inr (waits ▸ List.mem_cons_self))).trans
    (Port.beginNext_begins (p := p.countAbort.endTransfer) rfl waits rfl)

/-- A pass that waits for the aborted duty shift begins (R135; log 23). -/
theorem Port.aborted_identify (unmarked : p.wakeMark = false) (waits : p.waiting = [.identify]) :
    p.aborted sleepPending n = { p.countAbort with transfer := some .request, waiting := [] } :=
  (Port.aborted_stays (.inl unmarked)).trans (Port.beginNext_begins (p := p.countAbort.endTransfer) rfl waits rfl)

/-- With nothing waiting the aborted duty shift leaves nothing in transfer (R135). -/
theorem Port.aborted_idle (unmarked : p.wakeMark = false) (nothing : p.waiting = []) :
    p.aborted sleepPending n = { p.countAbort with transfer := none } :=
  (Port.aborted_stays (.inl unmarked)).trans (Port.beginNext_idle (p := p.countAbort.endTransfer) rfl nothing)

end

end

/-! ### The chain under new timing (R135, R143) -/

section
variable {s : State} {c : Chain} {p : Port}

theorem State.setPort_queueAll (ns : List Notice) :
    (s.setPort c p).queueAll ns = { s.setPort c p with link := s.link.queueAll ns } := by cases c <;> rfl

theorem State.copyFinished_of_none (buffer : (s.comp c).buffer = none) : s.copyFinished c = s := by
  simp [State.copyFinished, buffer]

/-- With no finished frame waiting, the end of a transfer touches the port alone. -/
theorem State.afterTransfer_setPort (buffer : (s.comp c).buffer = none) :
    (s.setPort c p).afterTransfer c =
      s.setPort c ((p.endTransfer.resumeIf s.power.sleepPending).beginNext (s.count c)) := by
  unfold State.afterTransfer
  rw [State.onPort_setPort, State.copyFinished_of_none (by rw [State.setPort_comp]; exact buffer)]
  dsimp only
  rw [State.onPort_setPort, State.setPort_power, State.setPort_count]

/-- The notice of a pass that waits is queued exactly when one waits (R143; log 23). -/
theorem State.waitingPassNotice_setPort :
    (s.setPort c p).waitingPassNotice c = if .identify ∈ p.waiting then [s.abandonNotice c] else [] := by
  simp [State.waitingPassNotice, State.abandonNotice, State.setPort_count]

/-- The notice of a pass that waits joins the queue, whatever the port has become (R143; log 23). -/
theorem State.setPort_queueWaiting (q : Port) :
    (s.setPort c q).queueAll ((s.setPort c p).waitingPassNotice c) =
      { s.setPort c q with
        link := if .identify ∈ p.waiting then s.link.queue (s.abandonNotice c) else s.link } := by
  rw [State.setPort_queueAll, State.waitingPassNotice_setPort]
  split <;> rfl

section
variable {f : Frame} {o : Origin} {l : Bool} {n : Nat}

/-- A duty shift is aborted, and the notice of a pass that waits joins. -/
theorem State.retime_duty (shift : p.transfer = some (.duty f o l)) (buffer : (s.comp c).buffer = none) :
    (s.setPort c p).retime c =
      { s.setPort c (p.aborted s.power.sleepPending (s.count c)) with
        link := if .identify ∈ p.waiting then s.link.queue (s.abandonNotice c) else s.link } := by
  rw [← State.setPort_queueWaiting]
  unfold State.retime
  rw [State.setPort_port_same, shift]
  dsimp only
  rw [State.onPort_setPort, State.afterTransfer_setPort buffer]
  rfl

/-- A dark frame is shifted again from its start, also past its latch word (log 22). -/
theorem State.retime_dark (shift : p.transfer = some (.dark n l)) :
    (s.setPort c p).retime c =
      { s.setPort c { p.countAbort with transfer := some (.dark n false) } with
        link := if .identify ∈ p.waiting then s.link.queue (s.abandonNotice c) else s.link } := by
  rw [← State.setPort_queueWaiting]
  unfold State.retime
  rw [State.setPort_port_same, shift]
  dsimp only
  rw [State.onPort_setPort]

/-- A closing dark frame that waits begins at the abort; a pass that waits behind it is abandoned for a
new one in its place (R135, R143; log 23). -/
theorem State.retime_duty_dark {rest : List Waiting} (shift : p.transfer = some (.duty f o l))
    (buffer : (s.comp c).buffer = none) (waits : p.waiting = .dark :: rest) :
    (s.setPort c p).retime c =
      { s.setPort c { p.countAbort with transfer := some (.dark (s.count c) false), waiting := rest } with
        link := if .identify ∈ rest then s.link.queue (s.abandonNotice c) else s.link } := by
  have behind : .identify ∈ p.waiting ↔ .identify ∈ rest := by simp [waits]
  rw [State.retime_duty shift buffer, Port.aborted_dark waits]
  simp only [behind]

/-- A pass that waits is abandoned, and the new one begins at the abort (R143; log 23). -/
theorem State.retime_duty_identify (shift : p.transfer = some (.duty f o l)) (buffer : (s.comp c).buffer = none)
    (unmarked : p.wakeMark = false) (waits : p.waiting = [.identify]) :
    (s.setPort c p).retime c =
      { s.setPort c { p.countAbort with transfer := some .request, waiting := [] } with
        link := s.link.queue (s.abandonNotice c) } := by
  rw [State.retime_duty shift buffer, Port.aborted_identify unmarked waits,
    if_pos (waits ▸ List.mem_singleton_self _)]

theorem State.retime_duty_idle (shift : p.transfer = some (.duty f o l)) (buffer : (s.comp c).buffer = none)
    (unmarked : p.wakeMark = false) (nothing : p.waiting = []) :
    (s.setPort c p).retime c = s.setPort c { p.countAbort with transfer := none } := by
  rw [State.retime_duty shift buffer, Port.aborted_idle unmarked nothing, if_neg (by simp [nothing]),
    ← State.setPort_link]

/-- A pass that waits behind the dark frame is abandoned, and the new one waits in its place (R143; log 23). -/
theorem State.retime_dark_identify (shift : p.transfer = some (.dark n l)) (waits : .identify ∈ p.waiting) :
    (s.setPort c p).retime c =
      { s.setPort c { p.countAbort with transfer := some (.dark n false) } with
        link := s.link.queue (s.abandonNotice c) } := by
  rw [State.retime_dark shift, if_pos waits]

theorem State.retime_dark_idle (shift : p.transfer = some (.dark n l)) (nothing : p.waiting = []) :
    (s.setPort c p).retime c = s.setPort c { p.countAbort with transfer := some (.dark n false) } := by
  rw [State.retime_dark shift, if_neg (by simp [nothing]), ← State.setPort_link]

end

/-- Between transfers and outside a pass nothing more is done. -/
theorem State.retime_idle (free : p.transfer = none) (settled : p.settle = none) :
    (s.setPort c p).retime c = s.setPort c p := by
  simp [State.retime, Port.inPass, free, settled]

/-- A pass under way is abandoned and begun anew (R143). -/
theorem State.retime_pass (pass : p.state = .enumerating) (nothing : p.waiting = [])
    (under : (p.transfer = none ∧ p.settle ≠ none) ∨ p.transfer = some .request ∨ p.transfer = some .collect) :
    (s.setPort c p).retime c =
      { s.setPort c { p with state := .enumerating, settle := none, transfer := some .request } with
        link := s.link.queue (s.abandonNotice c) } := by
  have own : p.transfer = none ∨ p.transfer = some .request ∨ p.transfer = some .collect := under.imp_left And.left
  have inPass : p.inPass = true := Port.inPass_iff.mpr (under.imp_left And.right)
  have outside : (s.setPort c p).leaveRunning c = s.setPort c p :=
    State.leaveRunning_of_other (by rw [State.setPort_port_same, pass]; decide)
  have anew : (s.setPort c p).retime c =
      ((((s.setPort c p).leaveRunning c).onPort c Port.stopPass).beginPass c).queueAll
        [(s.setPort c p).abandonNotice c] := by
    unfold State.retime
    rw [State.setPort_port_same]
    rcases own with h | h | h <;> rw [h] <;> exact if_pos inPass
  rw [anew, outside, State.onPort_setPort, State.beginPass_setPort, Port.stopPass_passing nothing own,
    State.setPort_queueAll, State.abandonNotice, State.setPort_count]
  rfl

end

/-! ### Answers of SET CHAIN TIMING (R135, R210) -/

section
variable {s : State} {c : Chain} {p : List Byte}

/-- A pre or sel within 7 is written, and the port acts on what it does. -/
theorem State.setTiming_writes {pre sel : Nat} (period : Nat) (inPre : pre ≤ 7) (inSel : sel ≤ 7) :
    State.setTiming pre sel period c s =
      ⟨(s.setPort c ((s.port c).timed pre sel period)).retime c, .ok,
        be16 (divisorOf pre sel) ++ be8 (clampPeriod period)⟩ :=
  if_neg (by omega)

/-- Another chain, or a pre or sel above 7, is INVALID. -/
theorem setChainTiming_invalid (bad : 1 < byteAt p 0 ∨ 7 < byteAt p 1 ∨ 7 < byteAt p 2) (s : State) (period : Nat) :
    onChain p s (State.setTiming (byteAt p 1) (byteAt p 2) period) = .plain s .invalid := by
  rcases bad with other | fields
  · exact onChain_invalid other _ _
  · unfold onChain
    split
    · exact if_pos fields
    · rfl

/-- A ready SET CHAIN TIMING of fitting fields is answered with the applied divisor and period over the retimed chain. -/
theorem exec_setChainTiming_ok {tag : Byte} (effect : State → State) (ready : s.ready ⟨0x40, tag, p⟩ = true)
    (length : p.length = 4) (code : chainCode? (byteAt p 0) = some c) (pre : byteAt p 1 ≤ 7) (sel : byteAt p 2 ≤ 7)
    (acts : (s.takeFrame.setPort c ((s.takeFrame.port c).timed (byteAt p 1) (byteAt p 2) (byteAt p 3))).retime c =
      effect s.takeFrame) :
    exec (.setChainTiming tag p) s = .next (s.answered ⟨0x40, tag, p⟩ .ok
      (be16 (divisorOf (byteAt p 1) (byteAt p 2)) ++ be8 (clampPeriod (byteAt p 3))) effect) := by
  refine exec_answered effect ready rfl (by rw [length]; rfl) ?_
  rw [onChain_of_code code, State.setTiming_writes _ pre sel, acts]

end

/-- Settles O54: each answer by the port's transfer in progress and what waits behind it. -/
theorem timingActsOnTransfers : Obligations.TimingActsOnTransfers := by
  refine ⟨fun tag p s ready length bad => ?_, fun tag p s c ready length code pre sel => ?_,
    fun tag p s c ready length code pre sel nothing => ?_⟩
  · exact exec_answered id ready rfl (by rw [length]; rfl) (setChainTiming_invalid bad _ _)
  · rw [← s.takeFrame_port c, ← s.takeFrame_comp c]
    have served (effect : State → State) := exec_setChainTiming_ok effect ready length code pre sel
    exact ⟨fun f o l shift buffer => ⟨fun rest waits => served _ (State.retime_duty_dark shift buffer waits),
        fun waits unmarked => served _ (State.retime_duty_identify shift buffer unmarked waits)⟩,
      fun n l shift waits => served _ (State.retime_dark_identify shift waits)⟩
  · rw [← s.takeFrame_port c] at nothing ⊢
    rw [← s.takeFrame_comp c]
    have served (effect : State → State) := exec_setChainTiming_ok effect ready length code pre sel
    exact ⟨fun free settled => served _ (State.retime_idle free settled),
      fun f o l shift buffer unmarked => served _ (State.retime_duty_idle shift buffer unmarked nothing),
      fun n l shift => served _ (State.retime_dark_idle shift nothing),
      fun pass under => served _ (State.retime_pass pass nothing under)⟩

end Sys2Proof.Machine

/-! # Proofs: the Ambient Unit

What the end of a gate window makes of its count, and the answers of SET CURVE and SET AMBIENT OVERRIDE. -/

namespace Sys2Proof.Machine

/-! ### The rows of R151 -/

section
variable {m : Ambient} {n : Nat}

/-- A nonzero count ends the run of zeros; it seeds Ls afresh where the unit was stale (R150, R151). -/
theorem Ambient.judge_light (light : n ≠ 0) :
    m.judge n =
      (({ m with stale := false, staleCount := 0, seeded := m.seeded && !m.stale } : Ambient).update n, false) := by
  cases stale : m.stale <;> simp [Ambient.judge, stale, light]

/-- The first nine zeros in a row are readings of darkness. -/
theorem Ambient.judge_dark (fresh : m.stale = false) (early : m.staleCount < 9) :
    m.judge 0 = (({ m with staleCount := m.staleCount + 1 } : Ambient).update 0, false) := by
  simp [Ambient.judge, fresh, early]

/-- The tenth zero makes the unit stale and moves nothing else. -/
theorem Ambient.judge_tenth (fresh : m.stale = false) (run : m.staleCount = 9) :
    m.judge 0 = ({ m with staleCount := 10, stale := true }, true) := by
  simp [Ambient.judge, fresh, run]

/-- A stale unit holds through further zeros. -/
theorem Ambient.judge_held (stale : m.stale = true) : m.judge 0 = (m, false) := by
  simp [Ambient.judge, stale]

/-- Whatever its count, a window end leaves the curve and whether a window is open. -/
theorem Ambient.judge_frame (m : Ambient) (n : Nat) :
    (m.judge n).1.curve = m.curve ∧ (m.judge n).1.windowOpen = m.windowOpen := by
  unfold Ambient.judge
  split_ifs <;> exact ⟨rfl, rfl⟩

end

/-! ### The end of a gate window (R149) -/

/-- The unit after a window end: the window's count is judged and kept as N, and the next window begins. -/
def Ambient.windowEnded (m : Ambient) : Ambient :=
  { (m.judge m.counter).1 with
    lastCount := m.counter, counter := 0, windowTimer := timerAgain m.windowTimer Config.windowTicks }

/-- A window end that may be taken writes the Ambient Unit, and sets SENSOR_STALE where the unit became stale. -/
theorem exec_gateWindowEnd {s : State} (awake : s.power.part = .awake) (opened : s.amb.windowOpen = true)
    (due : s.amb.windowTimer ≤ 1) :
    exec .gateWindowEnd s =
      .next ((({ s with amb := s.amb.windowEnded } : State).raiseIf (s.amb.judge s.amb.counter).2 .sensorStale).settle) :=
  congrArg Host.Outcome.next (if_pos (by simp [State.awake, awake, opened, timerDue, due]))

/-- Settles O32: the window end's own fields, and the rows of R151 by the count, the staleness and the run of zeros. -/
theorem gateWindowEnds : Obligations.GateWindowEnds := by
  intro s awake opened due
  obtain ⟨curve, window⟩ := s.amb.judge_frame s.amb.counter
  refine ⟨_, exec_gateWindowEnd awake opened due, rfl, rfl, window.trans opened, rfl, curve,
    ⟨fun light => ?_, fun dark fresh early => ?_, fun dark fresh run => ?_, fun dark stale => ?_⟩, rfl, rfl⟩
  · simp [Ambient.windowEnded, Ambient.judge_light light, Ambient.update, smooth]
  · simp [Ambient.windowEnded, dark, Ambient.judge_dark fresh early, Ambient.update, smooth, fresh]
  · have judged := Ambient.judge_tenth fresh run
    have becameStale : (s.amb.judge s.amb.counter).2 = true := by rw [dark, judged]
    refine ⟨?_, ?_, ?_, ?_, Link.flag_startNext (Link.flag_raiseIf_same _ _ becameStale)⟩ <;>
      simp [Ambient.windowEnded, dark, judged]
  · simp [Ambient.windowEnded, dark, Ambient.judge_held stale, stale]

/-! ### The owners of SET CURVE and SET AMBIENT OVERRIDE (R156, R157) -/

section
variable {p : List Byte} {s : State}

/-- The payload's counts ascend where each of the four sections does (R152). -/
theorem curveOfBytes_ascending_iff :
    (curveOfBytes p).ascending = true ↔ ∀ k < 4, wordAt p (4 * k) < wordAt p (4 * (k + 1)) := by
  simp only [Curve.ascending, Bool.and_eq_true, decide_eq_true_eq, and_assoc]
  refine ⟨fun ⟨first, second, third, fourth⟩ k inside => ?_,
    fun h => ⟨h 0 (by decide), h 1 (by decide), h 2 (by decide), h 3 (by decide)⟩⟩
  interval_cases k
  exacts [first, second, third, fourth]

theorem curveOfBytes_points :
    (curveOfBytes p).points =
      (List.range 5).map fun k => ⟨wordAt p (4 * k), min (wordAt p (4 * k + 2)) 1024⟩ := rfl

/-- The unit under a new curve: measured A follows it unless the unit is stale (R156). -/
def Ambient.withCurve (m : Ambient) (k : Curve) : Ambient :=
  { m with curve := k, measured := if m.stale then m.measured else k.value (if m.seeded then m.ls else 0) }

theorem setCurve_accepted (ascending : (curveOfBytes p).ascending = true) :
    setCurve p s =
      ⟨{ s with amb := s.amb.withCurve (curveOfBytes p) }, .ok, (curveOfBytes p).points.flatMap fun q => be16 q.factor⟩ :=
  if_neg (by simp [ascending])

theorem setCurve_refused (unsorted : (curveOfBytes p).ascending = false) : setCurve p s = .plain s .invalid :=
  if_pos unsorted

theorem setAmbientOverride_on (mode : byteAt p 0 = 1) :
    setAmbientOverride p s =
      ⟨{ s with amb := { s.amb with overrideOn := true, overrideValue := min (wordAt p 1) 1024 } }, .ok,
        be16 (min (wordAt p 1) 1024)⟩ := by
  unfold setAmbientOverride
  rw [mode]
  rfl

theorem setAmbientOverride_off (mode : byteAt p 0 = 0) (on : s.amb.overrideOn = true) :
    setAmbientOverride p s = ⟨{ s with amb := { s.amb with overrideOn := false } }, .ok, be16 s.amb.measured⟩ := by
  unfold setAmbientOverride
  rw [mode]
  exact if_pos on

theorem setAmbientOverride_already (mode : byteAt p 0 = 0) (off : s.amb.overrideOn = false) :
    setAmbientOverride p s = .plain s .already := by
  unfold setAmbientOverride
  rw [mode]
  exact if_neg (by simp [off])

theorem setAmbientOverride_invalid (mode : 1 < byteAt p 0) : setAmbientOverride p s = .plain s .invalid := by
  unfold setAmbientOverride
  rw [boolCode?_eq_none.mpr mode]

end

/-! ### Their answers -/

/-- Settles O55: each owner's answer behind the checks of its fields. -/
theorem ambientRequestsAct : Obligations.AmbientRequestsAct := by
  refine ⟨fun tag p s ready length => ⟨fun ascending => ?_, fun unsorted => ?_⟩, fun tag p s ready length mode => ?_,
    fun c tag p s form ready length mode => ?_, fun tag p s ready length mode => ⟨fun on => ?_, fun off => ?_⟩⟩
  · exact ⟨curveOfBytes p, curveOfBytes_points, exec_answered _ ready rfl (by rw [length]; rfl)
      (setCurve_accepted (curveOfBytes_ascending_iff.mpr ascending))⟩
  · exact exec_answered id ready rfl (by rw [length]; rfl)
      (setCurve_refused (Bool.eq_false_iff.mpr (mt curveOfBytes_ascending_iff.mp unsorted)))
  · exact exec_answered _ ready (variant_of_field (decide_eq_true (by rw [mode]; decide))) (by rw [length]; rfl)
      (setAmbientOverride_on mode)
  · rcases form with rfl | rfl <;>
      exact exec_answered id ready (variant_of_field (decide_eq_true (by omega))) (by rw [length]; rfl)
        (setAmbientOverride_invalid mode)
  · exact exec_answered _ ready (variant_of_field (decide_eq_true (by rw [mode]; decide))) (by rw [length]; rfl)
      (setAmbientOverride_off mode on)
  · exact exec_answered id ready (variant_of_field (decide_eq_true (by rw [mode]; decide))) (by rw [length]; rfl)
      (setAmbientOverride_already mode off)

end Sys2Proof.Machine

/-! # Proofs: vehicle events and triggers

The bytes of a cue record and of a trigger entry, the scan of the trigger table, and the answers of VEHICLE EVENT and PUT
TRIGGER. -/

namespace Sys2Proof.Machine

/-! ### The fields of a row of bytes -/

section
variable {p : List Byte} {i n : Nat}

/-- A one-byte field is the number that its byte carries. -/
theorem byteAt_of_byte (byte : p.getD i 0 = BitVec.ofNat 8 n) (small : n < 256) : byteAt p i = n := by
  rw [byteAt, byte, BitVec.toNat_ofNat, Nat.mod_eq_of_lt small]

/-- A two-byte field is the number that its bytes carry, most significant byte first. -/
theorem wordAt_of_bytes (high : p.getD i 0 = BitVec.ofNat 8 (n / 256)) (low : p.getD (i + 1) 0 = BitVec.ofNat 8 n)
    (small : n < 65536) : wordAt p i = n := by
  rw [wordAt, byteAt_of_byte high (by omega), byteAt, low, BitVec.toNat_ofNat]
  omega

theorem byteAt_lt (p : List Byte) (i : Nat) : byteAt p i < 256 := (p.getD i 0).isLt

theorem byteAt_drop (p : List Byte) (i j : Nat) : byteAt (p.drop i) j = byteAt p (i + j) := by
  simp [byteAt, List.getD_eq_getElem?_getD, List.getElem?_drop]

theorem wordAt_drop (p : List Byte) (i j : Nat) : wordAt (p.drop i) j = wordAt p (i + j) := by
  simp only [wordAt, byteAt_drop, Nat.add_assoc]

end

/-! ### Codes that read back (11.2, 11.8) -/

section
variable {n : Nat}

theorem ofBool_le (b : Bool) : ofBool b ≤ 1 := by cases b <;> decide

theorem ofBool_eq_one (b : Bool) : decide (ofBool b = 1) = b := by cases b <;> rfl

theorem boolCode?_eq_some {b : Bool} : boolCode? n = some b ↔ n ≤ 1 ∧ b = decide (n = 1) :=
  match n with
  | 0 | 1 => by simp [boolCode?, eq_comm]
  | n + 2 => by simp [boolCode?]

theorem actionCode_lt (a : Action) : actionCode a < 256 := by cases a <;> decide

theorem action?_eq_some {a : Action} : action? n = some a ↔ n = actionCode a :=
  match n with
  | 0 | 1 | 2 | 3 | 4 => by cases a <;> simp [action?, actionCode]
  | n + 5 => by cases a <;> simp [action?, actionCode]

theorem action?_eq_none : action? n = none ↔ 4 < n :=
  match n with
  | 0 | 1 | 2 | 3 | 4 => by simp [action?]
  | n + 5 => by simp [action?]

end

theorem cueKindCode_lt (k : CueKind) : cueKindCode k < 256 := by cases k <;> decide

theorem cueKind?_cueKindCode (k : CueKind) : cueKind? (cueKindCode k) = some k := by cases k <;> rfl

/-- The flags byte holds each flag at its bit (R212). -/
theorem cueFlags_bits (c : Cue) :
    let flags := BitVec.ofNat 8 (cueFlags c)
    flags.getLsbD 0 = c.ready ∧ flags.getLsbD 1 = c.wrap ∧ flags.getLsbD 2 = c.notify ∧ flags.getLsbD 3 = c.trail ∧
      flags.getLsbD 4 = c.reverse := by
  have bits : ∀ ready wrap notify trail reverse : Bool,
      let flags := BitVec.ofNat 8
        (ofBool ready + 2 * ofBool wrap + 4 * ofBool notify + 8 * ofBool trail + 16 * ofBool reverse)
      flags.getLsbD 0 = ready ∧ flags.getLsbD 1 = wrap ∧ flags.getLsbD 2 = notify ∧ flags.getLsbD 3 = trail ∧
        flags.getLsbD 4 = reverse := by decide
  exact bits _ _ _ _ _

/-! ### The cue record reads back (R212) -/

theorem cueOfBytes_cueToBytes {c : Cue} (r : c.colour.r < 256) (g : c.colour.g < 256) (b : c.colour.b < 256)
    (opacity : c.opacity < 256) (duration : c.duration < 65536) (width : c.width < 256) (target : c.loopTarget < 256) :
    cueOfBytes (cueToBytes c) = some { c with status := .none } := by
  have kindByte : byteAt (cueToBytes c) 0 = cueKindCode c.kind := byteAt_of_byte rfl (cueKindCode_lt _)
  have flagsByte : (cueToBytes c).getD 1 0 = BitVec.ofNat 8 (cueFlags c) := rfl
  have value : (cueToBytes c).getD 2 0 = c.selector.value := rfl
  have mask : (cueToBytes c).getD 3 0 = c.selector.mask := rfl
  have rByte : byteAt (cueToBytes c) 4 = c.colour.r := byteAt_of_byte rfl r
  have gByte : byteAt (cueToBytes c) 5 = c.colour.g := byteAt_of_byte rfl g
  have bByte : byteAt (cueToBytes c) 6 = c.colour.b := byteAt_of_byte rfl b
  have opacityByte : byteAt (cueToBytes c) 7 = c.opacity := byteAt_of_byte rfl opacity
  have durationWord : wordAt (cueToBytes c) 8 = c.duration := wordAt_of_bytes rfl rfl duration
  have widthByte : byteAt (cueToBytes c) 10 = c.width := byteAt_of_byte rfl width
  have targetByte : byteAt (cueToBytes c) 11 = c.loopTarget := byteAt_of_byte rfl target
  obtain ⟨ready, wrap, notify, trail, reverse⟩ := cueFlags_bits c
  rw [cueOfBytes, kindByte, cueKind?_cueKindCode, flagsByte, value, mask, rByte, gByte, bByte, opacityByte,
    durationWord, widthByte, targetByte, Option.map_some]
  dsimp only
  rw [ready, wrap, notify, trail, reverse]

/-! ### The trigger entry (R159, R170) -/

/-- Check 2 of R170: the five yes/no bytes of an entry have a code. -/
def EntryCoded (p : List Byte) : Prop :=
  byteAt p 0 ≤ 1 ∧ byteAt p 1 ≤ 1 ∧ byteAt p 11 ≤ 1 ∧ byteAt p 12 ≤ 1 ∧ byteAt p 10 ≤ 1

/-- The entry of action `a` whose other fields are those of the thirteen bytes. -/
def entryAs (p : List Byte) (a : Action) : Trigger :=
  { valid := byteAt p 0 = 1, endOfTable := byteAt p 1 = 1, code := BitVec.ofNat 16 (wordAt p 2),
    mask := BitVec.ofNat 16 (wordAt p 4), action := a, slot := byteAt p 7, sceneId := byteAt p 8, level := byteAt p 9,
    exclusive := byteAt p 10 = 1, replace := byteAt p 11 = 1, report := byteAt p 12 = 1 }

/-- Checks 4 to 7 of R170: the fields that the entry's action reads are in range. -/
def Trigger.InRange (t : Trigger) : Prop :=
  match t.action with
  | .none => True
  | .startScene => t.slot ≤ 9 ∧ t.sceneId ≠ 0 ∧ (t.level ≤ 7 ∨ t.level = levelDefault)
  | .stopAtEnd => t.slot ≤ 9
  | .raiseAlert => t.sceneId ≠ 0
  | .clearAlert => t.slot = 10 ∨ t.slot = 11

section
variable {p : List Byte} {t : Trigger}

/-- The thirteen bytes are an entry when they pass checks 2 to 7 of R170, and then its fields are as given. -/
theorem triggerOfBytes_eq_some :
    triggerOfBytes p = some t ↔
      EntryCoded p ∧ ∃ a, action? (byteAt p 6) = some a ∧ entryAs p a = t ∧ t.InRange := by
  simp only [triggerOfBytes, Option.bind_eq_bind, Option.bind_eq_some_iff, boolCode?_eq_some]
  constructor
  · rintro ⟨_, ⟨valid, rfl⟩, _, ⟨endOfTable, rfl⟩, _, ⟨replace, rfl⟩, _, ⟨report, rfl⟩, _, ⟨exclusive, rfl⟩, a, action,
      taken⟩
    obtain ⟨good, made⟩ := Option.ite_none_left_eq_some.mp taken
    obtain rfl := Option.some.inj made
    refine ⟨⟨valid, endOfTable, replace, report, exclusive⟩, a, action, rfl, ?_⟩
    cases a with
    | none => trivial
    | _ => simpa [Trigger.InRange, or_iff_not_imp_left, and_assoc] using good
  · rintro ⟨⟨valid, endOfTable, replace, report, exclusive⟩, a, action, rfl, inRange⟩
    refine ⟨_, ⟨valid, rfl⟩, _, ⟨endOfTable, rfl⟩, _, ⟨replace, rfl⟩, _, ⟨report, rfl⟩, _, ⟨exclusive, rfl⟩, a, action,
      if_neg ?_⟩
    cases a with
    | none => exact Bool.false_ne_true
    | _ => simpa [Trigger.InRange, entryAs, or_iff_not_imp_left, and_assoc] using inRange

/-- An entry in range whose numbers fit their bytes reads back from them (R170, R172). -/
theorem triggerOfBytes_triggerToBytes (slot : t.slot < 256) (sceneId : t.sceneId < 256) (level : t.level < 256)
    (inRange : t.InRange) : triggerOfBytes (triggerToBytes t) = some t := by
  have code (b : Bool) : ofBool b < 256 := (ofBool_le b).trans_lt (by decide)
  have validByte : byteAt (triggerToBytes t) 0 = ofBool t.valid := byteAt_of_byte rfl (code _)
  have endByte : byteAt (triggerToBytes t) 1 = ofBool t.endOfTable := byteAt_of_byte rfl (code _)
  have codeWord : wordAt (triggerToBytes t) 2 = t.code.toNat := wordAt_of_bytes rfl rfl t.code.isLt
  have maskWord : wordAt (triggerToBytes t) 4 = t.mask.toNat := wordAt_of_bytes rfl rfl t.mask.isLt
  have actionByte : byteAt (triggerToBytes t) 6 = actionCode t.action := byteAt_of_byte rfl (actionCode_lt _)
  have slotByte : byteAt (triggerToBytes t) 7 = t.slot := byteAt_of_byte rfl slot
  have idByte : byteAt (triggerToBytes t) 8 = t.sceneId := byteAt_of_byte rfl sceneId
  have levelByte : byteAt (triggerToBytes t) 9 = t.level := byteAt_of_byte rfl level
  have exclusiveByte : byteAt (triggerToBytes t) 10 = ofBool t.exclusive := byteAt_of_byte rfl (code _)
  have replaceByte : byteAt (triggerToBytes t) 11 = ofBool t.replace := byteAt_of_byte rfl (code _)
  have reportByte : byteAt (triggerToBytes t) 12 = ofBool t.report := byteAt_of_byte rfl (code _)
  refine triggerOfBytes_eq_some.mpr ⟨?_, t.action, action?_eq_some.mpr actionByte, ?_, inRange⟩
  · rw [EntryCoded, validByte, endByte, replaceByte, reportByte, exclusiveByte]
    exact ⟨ofBool_le _, ofBool_le _, ofBool_le _, ofBool_le _, ofBool_le _⟩
  · simp only [entryAs, validByte, endByte, codeWord, maskWord, slotByte, idByte, levelByte, exclusiveByte, replaceByte,
      reportByte, ofBool_eq_one, BitVec.ofNat_toNat, BitVec.setWidth_eq]

end

/-- Settles O19: field by field at the offsets of 11.8 and 11.5; what PUT TRIGGER takes fits its bytes. -/
theorem recordsRoundTrip : Obligations.RecordsRoundTrip := by
  refine ⟨fun c r g b opacity duration width target =>
    ⟨rfl, cueOfBytes_cueToBytes r g b opacity duration width target⟩, fun p t read => ⟨rfl, ?_⟩⟩
  obtain ⟨-, a, -, rfl, inRange⟩ := triggerOfBytes_eq_some.mp read
  exact triggerOfBytes_triggerToBytes (byteAt_lt _ _) (byteAt_lt _ _) (byteAt_lt _ _) inRange

/-! ### The scan (R161) -/

section
variable {code : BitVec 16} {x : Trigger}

/-- The scan goes past the entry: it neither ends the table nor takes the code. -/
def Trigger.Passes (x : Trigger) (code : BitVec 16) : Prop :=
  x.endOfTable = false ∧ ¬(x.valid = true ∧ code &&& x.mask = x.code &&& x.mask)

/-- The scan that reaches the entry ends there with a match. -/
def Trigger.Matches (x : Trigger) (code : BitVec 16) : Prop :=
  x.endOfTable = false ∧ x.valid = true ∧ code &&& x.mask = x.code &&& x.mask

theorem Trigger.takes_iff : x.takes code = true ↔ x.valid = true ∧ code &&& x.mask = x.code &&& x.mask := by
  simp [Trigger.takes]

theorem scanFrom_cons_of_end (rest : List Trigger) (i : Nat) (ends : x.endOfTable = true) :
    scanFrom code (x :: rest) i = none := if_pos ends

theorem scanFrom_cons_of_matches (rest : List Trigger) (i : Nat) (hit : x.Matches code) :
    scanFrom code (x :: rest) i = some (i, x) := by
  obtain ⟨goesOn, takes⟩ := hit
  rw [scanFrom, goesOn, if_neg Bool.false_ne_true, if_pos (Trigger.takes_iff.mpr takes)]

theorem scanFrom_cons_of_passes (rest : List Trigger) (i : Nat) (passes : x.Passes code) :
    scanFrom code (x :: rest) i = scanFrom code rest (i + 1) := by
  obtain ⟨goesOn, takesNot⟩ := passes
  rw [scanFrom, goesOn, if_neg Bool.false_ne_true, if_neg (mt Trigger.takes_iff.mp takesNot)]

/-- The match is the first entry of the list that matches behind entries that pass. -/
theorem scanFrom_eq_some {l : List Trigger} {i k : Nat} :
    scanFrom code l i = some (k, x) ↔
      ∃ j, k = i + j ∧ l[j]? = some x ∧ x.Matches code ∧ ∀ m < j, ∀ y, l[m]? = some y → y.Passes code := by
  induction l generalizing i with
  | nil => simp [scanFrom]
  | cons y rest ih =>
    rw [← Nat.or_exists_add_one]
    simp only [Nat.forall_lt_succ_left, List.getElem?_cons_zero, List.getElem?_cons_succ, Option.some.injEq, forall_eq']
    cases ends : y.endOfTable with
    | true =>
      have misses : ¬y.Matches code := by simp [Trigger.Matches, ends]
      have stops : ¬y.Passes code := by simp [Trigger.Passes, ends]
      rw [scanFrom_cons_of_end rest i ends]
      grind
    | false =>
      by_cases takes : y.valid = true ∧ code &&& y.mask = y.code &&& y.mask
      · have hit : y.Matches code := ⟨ends, takes⟩
        have stops : ¬y.Passes code := fun passes => passes.2 takes
        rw [scanFrom_cons_of_matches rest i hit]
        grind
      · have passes : y.Passes code := ⟨ends, takes⟩
        have misses : ¬y.Matches code := fun hit => takes hit.2
        rw [scanFrom_cons_of_passes rest i passes, ih]
        grind

end

/-- Settles O56: by the scan of the table's list, its entries taken by index. -/
theorem scanFindsFirstMatch : Obligations.ScanFindsFirstMatch := by
  refine fun table code => ⟨fun k x => ?_, ?_⟩
  · rw [scan, scanFrom_eq_some]
    simp only [Nat.zero_add, Vector.getElem?_toList, Vector.getElem?_eq_some_iff]
    constructor
    · rintro ⟨_, rfl, ⟨inside, entry⟩, ⟨goesOn, valid, masked⟩, before⟩
      exact ⟨inside, entry, goesOn, valid, masked, fun j below => before j below _ ⟨below.trans inside, rfl⟩⟩
    · rintro ⟨inside, entry, goesOn, valid, masked, before⟩
      exact ⟨k, rfl, ⟨inside, entry⟩, ⟨goesOn, valid, masked⟩, fun m below y ⟨_, e⟩ => e ▸ before m below⟩
  · simp only [Option.eq_none_iff_forall_ne_some, Prod.forall, ne_eq, not_exists]

/-! ### VEHICLE EVENT and PUT TRIGGER (R162, R169 to R171) -/

section
variable {p : List Byte} {s : State} {x : Trigger}

theorem vehicleEvent_of_none (none : scan s.triggers (BitVec.ofNat 16 (wordAt p 0)) = none) :
    vehicleEvent p s = .plain s .notFound := by
  rw [vehicleEvent, none]

theorem vehicleEvent_of_match {k : Nat} (found : scan s.triggers (BitVec.ofNat 16 (wordAt p 0)) = some (k, x)) :
    vehicleEvent p s = .plain
      (if x.report then
        { (s.act x).1 with
          link := (s.act x).1.link.queue (.trigger (BitVec.ofNat 16 (wordAt p 0)) k (s.act x).2) }
      else (s.act x).1) .ok := by
  rw [vehicleEvent, found]
  rfl

theorem putTrigger_of_entry {k : Fin 24} (entry : byteAt p 0 = k.val) (read : triggerOfBytes (p.drop 1) = some x) :
    putTrigger p s = .plain { s with triggers := s.triggers.set k x } .ok := by
  simp only [putTrigger, read, entry, k.isLt, dite_true]

theorem putTrigger_invalid (bad : ¬(byteAt p 0 < 24 ∧ ∃ x, triggerOfBytes (p.drop 1) = some x)) :
    putTrigger p s = .plain s .invalid := by
  unfold putTrigger
  split
  · split
    · exact absurd ⟨‹_›, _, ‹_›⟩ bad
    · rfl
  · rfl

/-- A check that answers INVALID is passed on the way to OK. -/
theorem ite_invalid_eq_ok {c : Prop} [Decidable c] {rest : Status} :
    (if c then .invalid else rest) = Status.ok ↔ ¬c ∧ rest = .ok := by
  split <;> simp [*]

/-- PUT TRIGGER is OK when its entry number, its codes and the fields that its action reads are in range (R170). -/
theorem putTriggerStatus_eq_ok :
    putTriggerStatus p = .ok ↔
      byteAt p 0 < 24 ∧ EntryCoded (p.drop 1) ∧
        ∃ a, action? (byteAt p 7) = some a ∧ (entryAs (p.drop 1) a).InRange := by
  simp only [putTriggerStatus, ite_invalid_eq_ok, EntryCoded, Trigger.InRange, entryAs, byteAt_drop]
  cases known : action? (byteAt p 7) with
  | none => simp [action?_eq_none.mp known]
  | some a =>
    simp only [action?_eq_some.mp known, Option.some.injEq, exists_eq_left']
    cases a <;> simp [actionCode, levelDefault] <;> omega

/-- The checks of R170 are those of the entry's number and of the reading of its bytes. -/
theorem putTriggerStatus_eq_ok_iff_read :
    putTriggerStatus p = .ok ↔ byteAt p 0 < 24 ∧ ∃ x, triggerOfBytes (p.drop 1) = some x := by
  simp only [putTriggerStatus_eq_ok, triggerOfBytes_eq_some, byteAt_drop]
  exact ⟨fun ⟨inside, coded, a, known, inRange⟩ => ⟨inside, _, coded, a, known, rfl, inRange⟩,
    fun ⟨inside, _, coded, a, known, e, inRange⟩ => ⟨inside, coded, a, known, e ▸ inRange⟩⟩

end

/-- Settles O57: each owner by the scan of the table and by the reading of the entry's bytes. -/
theorem vehicleEventsAct : Obligations.VehicleEventsAct := by
  refine ⟨fun tag p s ready length => ⟨fun none => ?_, fun k x found => ?_⟩,
    fun tag p s x k ready length entry read => ?_, fun tag p s ready length => ⟨fun failed => ?_,
    fun k action ok entry code => ?_⟩⟩
  · exact exec_answered id ready rfl (by rw [length]; rfl) (vehicleEvent_of_none none)
  · exact exec_answered _ ready rfl (by rw [length]; rfl) (vehicleEvent_of_match found)
  · exact exec_answered _ ready rfl (by rw [length]; rfl) (putTrigger_of_entry entry read)
  · exact exec_answered id ready rfl (by rw [length]; rfl)
      (putTrigger_invalid (mt putTriggerStatus_eq_ok_iff_read.mpr failed))
  · obtain ⟨-, coded, a, known, inRange⟩ := putTriggerStatus_eq_ok.mp ok
    obtain rfl : action = a := Option.some.inj (code.symm.trans known)
    have read := triggerOfBytes_eq_some.mpr ⟨coded, action, byteAt_drop p 1 6 ▸ code, rfl, inRange⟩
    simp only [entryAs, byteAt_drop, wordAt_drop] at read
    exact exec_answered _ ready rfl (by rw [length]; rfl) (putTrigger_of_entry entry read)

end Sys2Proof.Machine

/-! # Proofs: the scene link

What events and owners do to the link, the bounds of its queues and the course of its flags; the receiver and the
transmitter; the link checks and PING; and the requests and events of the Settings Store. -/

namespace Sys2Proof.Machine

/-! ### What keeps the queues and the flags (R180, R184, R185) -/

/-- A flag in state `b` has not gone back from state `a`: it is not cleared, and not SET anew once REPORTED (R185,
R186). -/
def FlagState.Stands (a b : FlagState) : Prop := (a ≠ .clear → b ≠ .clear) ∧ (a = .reported → b = .reported)

theorem FlagState.stands_refl (a : FlagState) : a.Stands a := ⟨id, id⟩

theorem FlagState.Stands.trans {a b c : FlagState} (h : a.Stands b) (g : b.Stands c) : a.Stands c :=
  ⟨g.1 ∘ h.1, g.2 ∘ h.2⟩

theorem FlagState.stands_raise (a : FlagState) : a.Stands a.raise := by cases a <;> simp [Stands, raise]

/-- The bounds of the link's queues (R180, R184). -/
def Link.Bounded (l : Link) : Prop :=
  l.notices.length ≤ Config.maxNotices ∧ l.rxBuffer.length ≤ Config.maxFrames ∧ l.unsent ≤ Config.maxUnsent

/-- No flag of `l` has gone back in `k`. -/
def Link.FlagsStand (l k : Link) : Prop := ∀ f, (l.flag f).Stands (k.flag f)

/-- On the way from `l` to `k` no reply is added and the other queues stay in their bounds. -/
structure Link.QueuesHold (l k : Link) : Prop where
  notices : l.notices.length ≤ Config.maxNotices → k.notices.length ≤ Config.maxNotices
  frames : l.rxBuffer.length ≤ Config.maxFrames → k.rxBuffer.length ≤ Config.maxFrames
  unsent : k.unsent ≤ l.unsent

/-- On the way from `l` to `k` no reply is added, the other queues stay in their bounds, and no flag goes back. -/
structure Link.Keeps (l k : Link) : Prop extends l.QueuesHold k where
  flags : l.FlagsStand k

theorem Link.QueuesHold.bounded {l k : Link} (h : l.QueuesHold k) (b : l.Bounded) : k.Bounded :=
  ⟨h.notices b.1, h.frames b.2.1, h.unsent.trans b.2.2⟩

theorem Link.keeps_refl (l : Link) : l.Keeps l := ⟨⟨id, id, Nat.le_refl _⟩, fun _ => FlagState.stands_refl _⟩

theorem Link.QueuesHold.trans {l k m : Link} (h : l.QueuesHold k) (g : k.QueuesHold m) : l.QueuesHold m :=
  ⟨g.notices ∘ h.notices, g.frames ∘ h.frames, g.unsent.trans h.unsent⟩

theorem Link.Keeps.trans {l k m : Link} (h : l.Keeps k) (g : k.Keeps m) : l.Keeps m :=
  ⟨h.toQueuesHold.trans g.toQueuesHold, fun f => (h.flags f).trans (g.flags f)⟩

/-- A change of fields that neither the queues nor the flags read. -/
theorem Link.Keeps.same {l k m : Link} (h : l.Keeps k) (notices : m.notices = k.notices := by rfl)
    (frames : m.rxBuffer = k.rxBuffer := by rfl) (unsent : m.unsent = k.unsent := by rfl)
    (flags : m.flags = k.flags := by rfl) : l.Keeps m :=
  h.trans ⟨⟨fun b => by rwa [notices], fun b => by rwa [frames], unsent.le⟩,
    fun f => by rw [Link.flag, Link.flag, flags]; exact FlagState.stands_refl _⟩

section
variable (l : Link)

theorem Link.keeps_raise (f : Flag) : l.Keeps (l.raise f) where
  notices := id
  frames := id
  unsent := Nat.le_refl _
  flags g := by
    by_cases e : f = g
    · rw [← e, l.raise_flag_same]; exact FlagState.stands_raise _
    · rw [l.raise_flag_other e]; exact FlagState.stands_refl _

theorem Link.keeps_raiseIf (b : Bool) (f : Flag) : l.Keeps (l.raiseIf b f) := by
  unfold Link.raiseIf
  split
  · exact l.keeps_raise f
  · exact l.keeps_refl

theorem Link.keeps_queue (n : Notice) : l.Keeps (l.queue n) := by
  refine ⟨⟨l.queue_length n, fun h => by rwa [l.queue_rxBuffer], (l.queue_unsent n).le⟩, fun f => ?_⟩
  rcases l.queue_cases n with ⟨-, e⟩ | ⟨-, e⟩ <;> rw [e]
  · exact FlagState.stands_refl _
  · exact (l.keeps_raise .noticeLost).flags f

theorem Link.keeps_queueAll (ns : List Notice) : l.Keeps (l.queueAll ns) :=
  List.foldlRecOn (motive := l.Keeps) ns Link.queue l.keeps_refl fun k hk n _ => hk.trans (k.keeps_queue n)

/-- An EVENT REPORT turns flags SET into REPORTED, and changes no other (R186). -/
theorem Link.reportFlags_flag (f : Flag) :
    l.reportFlags.flag f =
      if l.flag f = .set ∧ l.mask.getLsbD f.bit.val = false then .reported else l.flag f := by
  simp [Link.reportFlags, Link.flag]

theorem Link.keeps_startNext : l.Keeps l.startNext := by
  refine ⟨⟨fun h => (l.startNext_notices).trans h, fun h => by rwa [l.startNext_rxBuffer], l.startNext_unsent.le⟩,
    fun f => ?_⟩
  rcases l.startNext_cases with e | ⟨-, r, rs, -, e⟩ | ⟨-, -, n, ns, -, e⟩ | ⟨-, -, -, -, e⟩ <;> rw [e]
  · exact FlagState.stands_refl _
  · exact FlagState.stands_refl _
  · exact FlagState.stands_refl _
  · show (l.flag f).Stands (l.reportFlags.flag f)
    rw [l.reportFlags_flag]
    split <;> simp_all [FlagState.Stands]

end

/-! ### The queues and the flags under the shared operations -/

namespace Link.Keeps

variable {l : Link} {t : State} (h : l.Keeps t.link)
include h

theorem raise (f : Flag) : l.Keeps (t.raise f).link := h.trans (t.link.keeps_raise f)
theorem raiseIf (b : Bool) (f : Flag) : l.Keeps (t.raiseIf b f).link := h.trans (t.link.keeps_raiseIf b f)
theorem queueAll (ns : List Notice) : l.Keeps (t.queueAll ns).link := h.trans (t.link.keeps_queueAll ns)
theorem settle : l.Keeps t.settle.link := h.trans t.link.keeps_startNext

theorem queueOpen (ns : List Notice) : l.Keeps (t.queueOpen ns).link := by
  unfold State.queueOpen
  split
  · exact h.queueAll _
  · exact h.queueAll _

theorem takeFrame : l.Keeps t.takeFrame.link :=
  h.trans ⟨⟨id, fun k => by simp only [State.takeFrame, List.length_tail]; omega, Nat.le_refl _⟩,
    fun _ => FlagState.stands_refl _⟩

theorem evalFloor : l.Keeps t.evalFloor.link := by
  cases policy : t.arb.policy with
  | resume => simpa only [State.evalFloor, policy] using h
  | cancel =>
    rw [State.evalFloor_cancel policy]
    exact Link.Keeps.queueOpen (t := { (t.endLayers t.belowFloorOf .cut).1 with arb := _ }) h _

theorem startRing (i : Slot) (r : RingStart) : l.Keeps (t.startRing i r).link :=
  Link.Keeps.evalFloor (t := t.setLayer i _) h

theorem startEgress : l.Keeps t.startEgress.link := h.startRing _ _

theorem lightEgress : l.Keeps t.lightEgress.link := by
  unfold State.lightEgress
  split
  · exact h.startEgress
  · exact h

theorem stopSlot (i : Slot) (r : EndReason) : l.Keeps (t.stopSlot i r).link := by
  rw [State.stopSlot_eq]
  exact Link.Keeps.evalFloor (Link.Keeps.queueAll (t := (t.endLayers _ r).1) h _)

theorem replaced (i : Slot) : l.Keeps (t.replaced i).link := by
  unfold State.replaced
  split
  · exact h
  · exact Link.Keeps.queueAll (t := (t.endLayers _ _).1) h _

theorem cutSuspended : l.Keeps t.cutSuspended.link := by
  rw [State.cutSuspended_eq]
  exact Link.Keeps.queueOpen (t := (t.endLayers _ _).1) h _

theorem raiseAlert (id : Nat) (exclusive : Bool) : l.Keeps (t.raiseAlert id exclusive).state.link := by
  rcases t.raiseAlert_cases id exclusive with ⟨-, -, e, -⟩ | ⟨c, -, -, -, e⟩ | ⟨c, -, -, -, e⟩ <;> rw [e]
  · exact h
  · exact h
  · exact Link.Keeps.startRing (t := t.setLayer alertSlot _) h _ _

theorem clearAlert (i : Slot) (atEnd : Bool) : l.Keeps (t.clearAlert i atEnd).state.link := by
  rcases t.clearAlert_cases i atEnd with ⟨-, -, e, -⟩ | ⟨-, ⟨-, -, e⟩ | ⟨-, -, e⟩ | ⟨-, -, e⟩⟩ <;> rw [e]
  · exact h
  · exact h
  · exact h
  · exact Link.Keeps.stopSlot (t := t.setLayer i _) h i _

theorem act (x : Trigger) : l.Keeps (t.act x).1.link := by
  rcases t.act_cases x with e | ⟨i, c, -, -, -, e | e⟩ | ⟨i, -, -, e⟩ | e | ⟨i, atEnd, -, e⟩ <;> rw [e]
  · exact h
  · rcases t.triggerStart_cases i c (c.resolve x.level) with e | ⟨-, -, -, e⟩ <;> rw [e]
    · exact h
    · exact h.startRing i _
  · rcases t.triggerReplace_cases i c (c.resolve x.level) with e | ⟨-, -, e⟩ <;> rw [e]
    · exact h
    · exact (h.replaced i).startRing i _
  · exact h
  · exact h.raiseAlert _ _
  · exact h.clearAlert i atEnd

/-- A handling of a slot raises flags and queues notices (R51). -/
theorem played (i : Slot) : l.Keeps (t.played i).link :=
  Play.handle_link (P := l.Keeps) (fun k f hk => hk.trans (k.keeps_raise f)) (fun k n hk => hk.trans (k.keeps_queue n))
    ⟨t.layer i, t.pool, t.link⟩ i h

theorem handleSlot (i : Slot) : l.Keeps (t.handleSlot i).link := by
  have played := h.played i
  have runaway := played.raise .layerRunaway
  rcases t.handleSlot_cases i with ⟨-, e⟩ | ⟨-, e | e | e | ⟨-, -, e⟩⟩ <;> rw [e]
  · exact h
  · exact played
  · exact Link.Keeps.evalFloor (t := (t.played i).setLayer i _) played
  · exact Link.Keeps.evalFloor (t := ((t.played i).raise _).setLayer i _) runaway
  · exact Link.Keeps.evalFloor (t := ((t.played i).raise _).setLayer i _) runaway

theorem tick (order : List Nat) : l.Keeps (t.tick order).link := by
  by_cases awake : t.power.part = .awake
  · have ticked : l.Keeps t.ticked.link := by
      rw [t.ticked_link]
      split
      · exact h.raise _
      · exact h
    rw [State.tick_awake awake]
    exact (State.handleLayers_keeps (P := fun u => l.Keeps u.link) (fun _ i hu => hu.handleSlot i) ticked order).settle
  · rcases State.tick_asleep awake order with e | e <;> rw [e]
    · exact h
    · exact h

/-- A hold and the transmitter's stop concern no queue and no flag. -/
theorem cancelSleep : l.Keeps t.cancelSleep.link := by
  unfold State.cancelSleep
  split
  · dsimp only
    split
    · exact h.same
    · exact h
  · exact h

theorem load : l.Keeps t.load.link := h.raiseIf t.store.failing .storeInvalid

theorem enterAwake : l.Keeps t.enterAwake.link := by
  rw [State.enterAwake_eq]
  simp only [State.beginPass, State.setPort_link]
  split
  · exact Link.Keeps.startEgress (t := t.awakened) h
  · exact h

theorem wake : l.Keeps t.wake.link :=
  (h.same : l.Keeps { t.link with receiver := .waitIdle, txStopped := false }).trans (Link.keeps_startNext _)

theorem endWrite (matched : Bool) : l.Keeps (t.endWrite matched).link := by
  unfold State.endWrite
  split
  · exact h
  · exact Link.Keeps.queueAll (t := { t with store := _ }) h _
  · exact Link.Keeps.queueAll (t := { t with store := _ }) h _

theorem fallAsleep : l.Keeps t.fallAsleep.link := by
  obtain ⟨taken, -, link⟩ := t.fallAsleep_link
  rw [link]
  exact (h.same : l.Keeps { t.link with hold := .sleep, replySent := false }).trans (Link.keeps_queueAll _ taken)

end Link.Keeps

/-! ### The queues and the flags under the events on the wires -/

namespace Link.Keeps

variable {l : Link} {t : State} (h : l.Keeps t.link) (c : Chain)
include h

theorem completeRender (f : Frame) : l.Keeps (t.completeRender c f).link := by
  rw [State.completeRender_link]
  exact h.raiseIf _ _

theorem finishRender (f : Frame) : l.Keeps (t.finishRender c f).link := by
  unfold State.finishRender
  split
  · rwa [State.setComp_link]
  · exact h.completeRender c f

theorem copyFinished : l.Keeps (t.copyFinished c).link := by
  unfold State.copyFinished
  split
  · split
    · exact h
    · exact h.completeRender c _
  · exact h

theorem afterTransfer : l.Keeps (t.afterTransfer c).link := by
  unfold State.afterTransfer
  rw [State.onPort_link]
  exact Link.Keeps.copyFinished (by rwa [State.onPort_link]) c

theorem judgeTrailer (trailer : List Byte) (n : Nat) : l.Keeps (t.judgeTrailer c trailer n).link := by
  rw [State.judgeTrailer_link]
  exact (h.trans (Link.keeps_raiseIf _ _ _)).trans (Link.keeps_raiseIf _ _ _)

theorem release : l.Keeps (t.release c).link := by
  rw [State.release_link]
  exact (h.trans (Link.keeps_queueAll _ _)).trans (Link.keeps_raise _ _)

theorem periodStart : l.Keeps (t.periodStart c).link := by
  unfold State.periodStart State.latePeriod State.promptPeriod
  split
  · exact h
  · split
    · exact Link.Keeps.raiseIf (by rwa [State.setComp_link, State.onPort_link]) _ _
    · rwa [State.setComp_link, State.onPort_link]

theorem completePass (answers : List NodeAnswer) (outcome : PassOutcome) :
    l.Keeps (t.completePass c answers outcome).link :=
  Link.Keeps.queueAll (by rwa [State.onPort_link]) _

theorem retime : l.Keeps (t.retime c).link := by
  unfold State.retime
  split
  · exact (Link.Keeps.afterTransfer (by rwa [State.onPort_link]) c).queueAll _
  · exact Link.Keeps.queueAll (by rwa [State.onPort_link]) _
  · split
    · refine Link.Keeps.queueAll ?_ _
      rwa [State.beginPass, State.setPort_link, State.onPort_link, State.leaveRunning_link]
    · exact h

theorem takeOff : l.Keeps (t.takeOff c).1.link := by
  unfold State.takeOff
  split <;> simpa [State.closePort] using h

end Link.Keeps
end Sys2Proof.Machine

namespace Sys2Proof.Machine

/-! ### The queues and the flags under the line's events (R175 to R179, R183) -/

section
variable {l k : Link} (h : l.Keeps k)
include h

/-- A frame joins the receive buffer only where it finds room (R177). -/
theorem Link.Keeps.deliver (f : LinkFrame) : l.Keeps (k.deliver f) := by
  unfold Link.deliver
  split
  · rename_i room
    exact h.trans ⟨⟨id, fun _ => by simp only [List.length_append, List.length_singleton]; omega, Nat.le_refl _⟩,
      fun _ => FlagState.stands_refl _⟩
  · exact (h.trans (k.keeps_raise .rxOverrun)).same

theorem Link.Keeps.judgeFrame (f : LinkFrame) (crc : Nat) : l.Keeps (k.judgeFrame f crc) := by
  unfold Link.judgeFrame
  dsimp only
  split
  · exact Link.Keeps.deliver (k := { k with receiver := .hunt }) h.same f
  · exact (h.trans (k.keeps_raise .rxError)).same

theorem Link.Keeps.takeByte (b : Byte) : l.Keeps (k.takeByte b) := by
  unfold Link.takeByte
  split
  · exact h
  · split
    · exact h.same
    · exact h
  · split
    · exact (h.trans (k.keeps_raise .rxError)).same
    · exact h.same
  · exact h.same
  · exact h.same
  · exact h.same
  · exact h.same
  · exact h.judgeFrame _ _

theorem Link.Keeps.takeCharacters (bytes : List Byte) :
    l.Keeps (bytes.foldl (fun k b => k.takeCharacter (characterBits b)) k) := by
  refine List.foldlRecOn bytes _ h fun m hm b _ => ?_
  rw [Link.takeCharacter_bits]
  exact hm.takeByte b

theorem Link.Keeps.framingError : l.Keeps k.framingError := by
  unfold Link.framingError
  split
  · exact h
  · exact (h.trans (k.keeps_raise .rxError)).same

theorem Link.Keeps.holdReplyDone (sleepPending : Bool) : l.Keeps (k.holdReplyDone sleepPending) := by
  unfold Link.holdReplyDone
  split
  · exact h
  · exact h.same
  · split <;> exact h.same

/-- The end of a frame in transmission leaves no reply unsent more (R180, R183). -/
theorem Link.Keeps.sent (sleepPending : Bool) : l.Keeps (k.sent sleepPending) := by
  unfold Link.sent
  split
  · exact h
  · have free : l.Keeps { k with tx := none } :=
      h.trans ⟨⟨id, id, by simp [Link.unsent]⟩, fun _ => FlagState.stands_refl _⟩
    dsimp only
    split
    · exact free.holdReplyDone _
    · exact free

end

/-! ### The queues and the flags under requests -/

/-- An owner whose answer adds no reply, holds the other queues in their bounds, and takes no flag back. -/
def OwnerKeeps (owner : State → Answer) : Prop := ∀ t : State, t.link.Keeps (owner t).state.link

/-- An owner that leaves the link as it is. -/
theorem OwnerKeeps.of_same {owner : State → Answer} (h : ∀ t : State, (owner t).state.link = t.link) :
    OwnerKeeps owner :=
  fun t => by rw [h t]; exact t.link.keeps_refl

/-- A reply is one more unsent (R180, R181). -/
theorem State.reply_unsent (t : State) (f : LinkFrame) (k : Status) (d : List Byte) :
    (t.reply f k d).link.unsent = t.link.unsent + 1 := by
  unfold State.reply Link.unsent
  dsimp only
  rw [List.length_append]
  exact Nat.add_right_comm _ _ _

/-- A frame is dispatched only while fewer than 2 replies are unsent (R180). -/
theorem State.unsent_of_atDispatch {s : State} {f : LinkFrame} (h : s.atDispatch f = true) :
    s.link.unsent < Config.maxUnsent := by
  simp only [State.atDispatch, State.dispatching, Bool.and_eq_true, decide_eq_true_eq] at h
  exact h.1.2

section
variable {l : Link} {t : State}

/-- One reply more leaves the queues in their bounds where fewer than 2 were unsent. -/
theorem Link.QueuesHold.replied (h : l.QueuesHold t.link) (room : l.unsent < Config.maxUnsent) (b : l.Bounded)
    (f : LinkFrame) (k : Status) (d : List Byte) : (t.reply f k d).settle.link.Bounded := by
  refine (Link.keeps_startNext _).toQueuesHold.bounded ⟨h.notices b.1, h.frames b.2.1, ?_⟩
  rw [State.reply_unsent]
  exact Nat.succ_le_of_lt (h.unsent.trans_lt room)

/-- A reply concerns no flag. -/
theorem Link.FlagsStand.replied (h : l.FlagsStand t.link) (f : LinkFrame) (k : Status) (d : List Byte) :
    l.FlagsStand (t.reply f k d).settle.link := fun g => (h g).trans ((t.reply f k d).link.keeps_startNext.flags g)

end

/-- A request's dispatch leaves the queues in their bounds. -/
theorem State.serve_bounded {s : State} {f : LinkFrame} {mine : Bool} {owner : State → Answer}
    (answer : ∀ t : State, t.link.QueuesHold (owner t).state.link) (h : s.link.Bounded) :
    (s.serve f mine owner).link.Bounded := by
  have taken := (Link.Keeps.takeFrame s.link.keeps_refl).toQueuesHold
  rcases s.serve_cases f mine owner with e | ⟨-, dispatched, e⟩ <;> rw [e]
  · exact h
  · refine Link.QueuesHold.replied ?_ (State.unsent_of_atDispatch dispatched) h _ _ _
    rcases linkChecked_cases f owner s.takeFrame with ⟨e, -⟩ | ⟨e, -⟩ | ⟨e, -⟩ <;> rw [e]
    exacts [taken, taken, taken.trans (answer _)]

/-- A request's dispatch takes a flag back only where its owner does. -/
theorem State.serve_flags {s : State} {f : LinkFrame} {mine : Bool} {owner : State → Answer}
    (answer : OwnerKeeps owner) : s.link.FlagsStand (s.serve f mine owner).link := by
  have taken := Link.Keeps.takeFrame s.link.keeps_refl
  rcases s.serve_cases f mine owner with e | ⟨-, -, e⟩ <;> rw [e]
  · exact s.link.keeps_refl.flags
  · refine Link.FlagsStand.replied ?_ _ _ _
    rcases linkChecked_cases f owner s.takeFrame with ⟨e, -⟩ | ⟨e, -⟩ | ⟨e, -⟩ <;> rw [e]
    exacts [taken.flags, taken.flags, (taken.trans (answer _)).flags]

section
variable (p : List Byte)

theorem startLayer_keeps : OwnerKeeps (startLayer p) := fun t => by
  rcases startLayer_cases p t with ⟨-, -, e, -⟩ | ⟨_, i, r, -, -, -, -, -, -, -, -, e⟩ <;> rw [e]
  exacts [t.link.keeps_refl, t.link.keeps_refl.startRing i r]

theorem startScene_keeps : OwnerKeeps (startScene p) := fun t => by
  rcases startScene_cases p t with ⟨-, -, e, -⟩ | ⟨i, c, -, -, -, -, -, -, -, e⟩ <;> rw [e]
  exacts [t.link.keeps_refl, t.link.keeps_refl.startRing i _]

theorem stopLayer_keeps : OwnerKeeps (stopLayer p) := fun t => by
  rcases stopLayer_cases p t with ⟨-, -, e, -⟩ | ⟨i, -, -, -, ⟨-, -, e⟩ | ⟨-, e⟩⟩ <;> rw [e]
  exacts [t.link.keeps_refl, t.link.keeps_refl, t.link.keeps_refl.stopSlot i _]

theorem setLevel_keeps : OwnerKeeps (setLevel p) := fun t => by
  rcases setLevel_cases p t with ⟨-, -, e, -⟩ | ⟨i, -, -, -, ⟨-, e⟩ | ⟨-, -, e⟩⟩ <;> rw [e]
  exacts [t.link.keeps_refl, t.link.keeps_refl, Link.Keeps.evalFloor (t := t.setLayer i _) t.link.keeps_refl]

theorem setPolicy_keeps : OwnerKeeps (setPolicy p) := fun t => by
  rcases setPolicy_cases p t with ⟨-, -, e, -⟩ | ⟨k, -, e⟩ <;> rw [e]
  · exact t.link.keeps_refl
  · apply Link.Keeps.evalFloor
    split
    · exact Link.Keeps.cutSuspended (t := t.withPolicy k) t.link.keeps_refl
    · exact t.link.keeps_refl

theorem raiseAlert_keeps : OwnerKeeps (raiseAlert p) := fun t => by
  rcases raiseAlert_cases p t with ⟨-, -, e, -⟩ | ⟨exclusive, -, -, e⟩ <;> rw [e]
  exacts [t.link.keeps_refl, t.link.keeps_refl.raiseAlert _ _]

theorem clearAlert_keeps : OwnerKeeps (clearAlert p) := fun t => by
  rcases clearAlert_cases p t with ⟨-, -, e, -⟩ | ⟨i, atEnd, -, -, -, e⟩ <;> rw [e]
  exacts [t.link.keeps_refl, t.link.keeps_refl.clearAlert i atEnd]

theorem vehicleEvent_keeps : OwnerKeeps (vehicleEvent p) := fun t => by
  rcases vehicleEvent_cases p t with ⟨-, -, e, -⟩ | ⟨k, x, -, e⟩ <;> rw [e]
  · exact t.link.keeps_refl
  · rw [Answer.plain_state]
    split
    exacts [(t.link.keeps_refl.act x).queueAll _, t.link.keeps_refl.act x]

theorem getCounters_keeps : OwnerKeeps (getCounters p) := fun t => by
  unfold getCounters
  split
  · dsimp only
    split
    · exact t.link.keeps_refl.same
    · exact t.link.keeps_refl
  · exact t.link.keeps_refl

theorem setEventMask_keeps : OwnerKeeps (setEventMask p) := fun _ =>
  (Link.keeps_refl _).same

theorem restart_keeps : OwnerKeeps restart := fun t => by
  unfold restart
  split
  · exact t.link.keeps_refl
  · exact t.link.keeps_refl.same

theorem sleep_keeps : OwnerKeeps sleep := fun t => by
  rcases sleep_cases t with ⟨-, -, e, -⟩ | ⟨-, -, -, e⟩ <;> rw [e]
  exacts [t.link.keeps_refl, t.link.keeps_refl.fallAsleep]

theorem onChain_keeps {owner : Chain → State → Answer} (h : ∀ c, OwnerKeeps (owner c)) :
    OwnerKeeps fun t => onChain p t owner := fun t => by
  dsimp only
  unfold onChain
  split
  · exact h _ t
  · exact t.link.keeps_refl

theorem State.enumerate_keeps (c : Chain) : OwnerKeeps (State.enumerate c) := .of_same fun t => by
  unfold State.enumerate
  split <;> simp [State.beginPass]

theorem State.setTiming_keeps (pre sel period : Nat) (c : Chain) :
    OwnerKeeps (State.setTiming pre sel period c) := fun t => by
  unfold State.setTiming
  split
  · exact t.link.keeps_refl
  · refine Link.Keeps.retime ?_ c
    rw [State.onPort_link]
    exact t.link.keeps_refl

theorem State.setBudget_keeps (budget : Nat) (c : Chain) : OwnerKeeps (State.setBudget budget c) :=
  .of_same fun t => t.onPort_link c _

theorem State.setChainState_keeps (code : Nat) (c : Chain) : OwnerKeeps (State.setChainState code c) := fun t => by
  unfold State.setChainState State.switchOn State.switchOff
  split
  · split
    · rw [Answer.plain_state, State.onPort_link]
      exact t.link.keeps_refl
    · exact t.link.keeps_refl
    · exact t.link.keeps_refl
  · split
    · exact t.link.keeps_refl
    · exact t.link.keeps_refl
    · exact (t.link.keeps_refl.takeOff c).queueAll _
  · exact t.link.keeps_refl

theorem State.reclaim_keeps (c : Chain) : OwnerKeeps (State.reclaim c) := .of_same fun t => by
  unfold State.reclaim
  dsimp only
  split
  · rfl
  · split <;> simp

end

/-! Owners that leave the link as it is -/

section
variable (p : List Byte) (s : State)

theorem getLayer_link : (getLayer p s).state.link = s.link := by unfold getLayer; split <;> rfl

theorem setMaster_link : (setMaster p s).state.link = s.link := by
  rcases setMaster_cases p s with ⟨-, -, e, -⟩ | ⟨_, -, e⟩ <;> rw [e]

theorem hush_link : (hush p s).state.link = s.link := by
  rcases hush_cases p s with ⟨-, -, e, -⟩ | ⟨-, e⟩ <;> rw [e]

theorem loadCues_link : (loadCues p s).state.link = s.link := by
  rcases loadCues_cases p s with ⟨-, -, e, -⟩ | ⟨_, _, -, -, -, -, e⟩ <;> rw [e]
  rfl

theorem readCues_link : (readCues p s).state.link = s.link := by unfold readCues; dsimp only; split <;> rfl

theorem putScene_link : (putScene p s).state.link = s.link := by
  rcases putScene_cases p s with ⟨-, -, e, -⟩ | ⟨-, -, e⟩ | ⟨_, -, -, -, -, e⟩ <;> rw [e] <;> rfl

theorem getScene_link : (getScene p s).state.link = s.link := by
  unfold getScene
  split
  · rfl
  · split <;> rfl

theorem getNode_link : (getNode p s).state.link = s.link := by
  unfold getNode
  split
  · rfl
  · dsimp only
    split
    · rfl
    · split <;> rfl

theorem putCatalog_link : (putCatalog p s).state.link = s.link := by
  rcases putCatalog_cases p s with ⟨-, -, e, -⟩ | ⟨_, k, -, -, e⟩ <;> rw [e]
  rfl

theorem getCatalog_link : (getCatalog p s).state.link = s.link := by unfold getCatalog; split <;> rfl

theorem putZoneSpan_link : (putZoneSpan p s).state.link = s.link := by
  rcases putZoneSpan_cases p s with ⟨-, -, e, -⟩ | ⟨_, z, -, -, e⟩ <;> rw [e]
  rfl

theorem lockCatalog_link : (lockCatalog s).state.link = s.link := by
  rcases lockCatalog_cases s with ⟨-, e⟩ | ⟨-, e⟩ <;> rw [e]
  · rfl
  · rfl

theorem setCurve_link : (setCurve p s).state.link = s.link := by unfold setCurve; dsimp only; split <;> rfl

theorem setAmbientOverride_link : (setAmbientOverride p s).state.link = s.link := by
  unfold setAmbientOverride
  dsimp only
  split
  · rfl
  · split <;> rfl
  · rfl

theorem putTrigger_link : (putTrigger p s).state.link = s.link := by
  rcases putTrigger_cases p s with ⟨-, -, e, -⟩ | ⟨_, _, -, e⟩ <;> rw [e]
  rfl

theorem getTrigger_link : (getTrigger p s).state.link = s.link := by unfold getTrigger; split <;> rfl

theorem storeSettings_link : (storeSettings p s).state.link = s.link := by
  unfold storeSettings
  split
  · rfl
  · split <;> rfl

theorem storeLibrary_link : (storeLibrary s).state.link = s.link := by
  unfold storeLibrary
  split
  · rfl
  · split <;> rfl

end

end Sys2Proof.Machine

namespace Sys2Proof.Machine

/-! ### The queues and the flags under every command -/

/-- The commands that bring flags back to CLEAR: the resets and CLEAR EVENTS (R188, R192). -/
def clearsFlags : Instr → Bool
  | .powerOn _ | .supplyRemoval | .restartTaken | .clearEvents _ _ => true
  | _ => false

/-- From `l` to `k` the queues stay in their bounds and no flag goes back. -/
def Link.Onward (l k : Link) : Prop := (l.Bounded → k.Bounded) ∧ l.FlagsStand k

theorem Link.Keeps.onward {l k : Link} (h : l.Keeps k) : l.Onward k := ⟨h.toQueuesHold.bounded, h.flags⟩

theorem leaves_of_keeps {s t : State} (h : s.link.Keeps t.link) :
    Leaves (.next t) fun t => s.link.Onward t.link := leaves_next.mpr h.onward

theorem leaves_serve {s : State} {f : LinkFrame} {mine : Bool} {owner : State → Answer} (h : OwnerKeeps owner) :
    Leaves (.next (s.serve f mine owner)) fun t => s.link.Onward t.link :=
  leaves_next.mpr ⟨State.serve_bounded fun t => (h t).toQueuesHold, State.serve_flags h⟩

/-- A command that does not clear flags holds the queues in their bounds and takes no flag back. -/
theorem exec_onward {c : Instr} (h : clearsFlags c = false) (s : State) :
    Leaves (exec c s) fun t => s.link.Onward t.link := by
  have same := s.link.keeps_refl
  cases c with
  | powerOn hi => cases h
  | supplyRemoval => cases h
  | restartTaken => cases h
  | clearEvents tag p => cases h
  | startupComplete => exact leaves_of_keeps (by split; exacts [same.load.enterAwake.settle, same])
  | tick order => exact leaves_of_keeps (same.tick order)
  | hushExpiry =>
    refine leaves_of_keeps ?_
    split
    · exact (Link.Keeps.raise (t := { s with arb := _ }) same _).settle
    · exact same
  | egressLineChange asserted => exact leaves_of_keeps (by split <;> exact same)
  | debouncedAssertion =>
    refine leaves_of_keeps ?_
    split
    · have latched : s.link.Keeps s.takeEgressLevel.latchEgress.link :=
        Link.Keeps.raise (t := s.takeEgressLevel.setLayer egressSlot _) same _
      apply Link.Keeps.settle
      split
      · exact latched.lightEgress.cancelSleep
      · exact latched
    · exact same
  | debouncedDeassertion => exact leaves_of_keeps (by split <;> exact same)
  | luxEdge => exact leaves_of_keeps (by split <;> exact same)
  | gateWindowEnd =>
    refine leaves_of_keeps ?_
    split
    · exact (Link.Keeps.raiseIf (t := { s with amb := _ }) same _ _).settle
    · exact same
  | periodStart c =>
    refine leaves_of_keeps ?_
    split
    · exact (Link.Keeps.periodStart (by rwa [State.nextPeriod, State.onPort_link]) c).settle
    · exact same
  | renderComplete c =>
    refine leaves_of_keeps ?_
    split
    · split
      · exact (same.finishRender c _).settle
      · exact same
    · exact same
  | latchPoint c =>
    refine leaves_of_keeps ?_
    split
    · split
      · rwa [State.latchDuty, State.onPort_link]
      · rwa [State.latchDarkFrame, State.onPort_link]
      · exact same
    · exact same
  | shiftEnd c trailer =>
    refine leaves_of_keeps ?_
    split
    · split
      · exact ((same.judgeTrailer c _ _).afterTransfer c).settle
      · exact same
    · exact same
  | identifyRequestEnd c => exact leaves_of_keeps (by split; exacts [by rwa [State.onPort_link], same])
  | settleEnd c => exact leaves_of_keeps (by split; exacts [by rwa [State.onPort_link], same])
  | collectEnd c returned => exact leaves_of_keeps (by split; exacts [(same.completePass c _ _).settle, same])
  | collectMarkerTimeout c =>
    refine leaves_of_keeps ?_
    split
    · exact (Link.Keeps.queueAll (by rwa [State.onPort_link]) _).settle
    · exact same
  | foreignActivity c =>
    refine leaves_of_keeps ?_
    split
    · apply Link.Keeps.settle
      split
      · rwa [State.onPort_link]
      · exact Link.Keeps.release (by rwa [State.onPort_link]) c
    · exact same
  | foreignQuiet c => exact leaves_of_keeps (by split; exacts [by rwa [State.onPort_link], same])
  | frameReceived characters =>
    exact leaves_of_keeps (by split; exacts [(same.takeCharacters characters).trans (Link.keeps_startNext _), same])
  | framingError =>
    exact leaves_of_keeps (by split; exacts [same.framingError.trans (Link.keeps_startNext _), same])
  | interByteTimeout =>
    refine leaves_of_keeps ?_
    split
    · exact (same.trans (s.link.keeps_raise .rxError)).same.trans (Link.keeps_startNext _)
    · exact same
  | linkBreak => exact leaves_of_keeps (by split; exacts [same.same, same])
  | waitIdleEnd => exact leaves_of_keeps (by split; exacts [same.same, same])
  | transmitComplete => exact leaves_of_keeps (by split; exacts [(same.sent _).trans (Link.keeps_startNext _), same])
  | unknownKind kind tag p =>
    refine leaves_next.mpr ?_
    split
    · rename_i dispatched
      rw [Bool.and_eq_true] at dispatched
      have taken := same.takeFrame
      exact ⟨fun b => taken.toQueuesHold.replied (State.unsent_of_atDispatch dispatched.2) b _ _ _,
        taken.flags.replied _ _ _⟩
    · exact same.onward
  | reportKindDiscard kind tag p => exact leaves_of_keeps (by split; exacts [(same.takeFrame.raise _).settle, same])
  | ping tag p | getStatus tag p | getAmbient tag p => exact leaves_serve (.of_same fun _ => rfl)
  | getCounters tag p => exact leaves_serve (getCounters_keeps p)
  | setEventMask tag p => exact leaves_serve (setEventMask_keeps p)
  | startLayer tag p => exact leaves_serve (startLayer_keeps p)
  | startScene tag p => exact leaves_serve (startScene_keeps p)
  | stopLayerImmediate tag p | stopLayerAtEnd tag p => exact leaves_serve (stopLayer_keeps p)
  | setLevel tag p => exact leaves_serve (setLevel_keeps p)
  | getLayer tag p => exact leaves_serve (.of_same (getLayer_link p))
  | setMaster tag p => exact leaves_serve (.of_same (setMaster_link p))
  | hush tag p => exact leaves_serve (.of_same (hush_link p))
  | setPolicy tag p => exact leaves_serve (setPolicy_keeps p)
  | raiseAlert tag p => exact leaves_serve (raiseAlert_keeps p)
  | clearAlertAtEnd tag p | clearAlertImmediate tag p => exact leaves_serve (clearAlert_keeps p)
  | loadCues tag p => exact leaves_serve (.of_same (loadCues_link p))
  | readCues tag p => exact leaves_serve (.of_same (readCues_link p))
  | putScene tag p | putSceneRemove tag p => exact leaves_serve (.of_same (putScene_link p))
  | getScene tag p => exact leaves_serve (.of_same (getScene_link p))
  | enumerate tag p => exact leaves_serve (onChain_keeps p State.enumerate_keeps)
  | getNode tag p => exact leaves_serve (.of_same (getNode_link p))
  | putCatalog tag p => exact leaves_serve (.of_same (putCatalog_link p))
  | getCatalog tag p => exact leaves_serve (.of_same (getCatalog_link p))
  | putZoneSpan tag p => exact leaves_serve (.of_same (putZoneSpan_link p))
  | lockCatalog tag p => exact leaves_serve (.of_same lockCatalog_link)
  | setChainTiming tag p => exact leaves_serve (onChain_keeps p (State.setTiming_keeps _ _ _))
  | setChainBudget tag p => exact leaves_serve (onChain_keeps p (State.setBudget_keeps _))
  | setChainStateOff tag p | setChainStateOn tag p => exact leaves_serve (onChain_keeps p (State.setChainState_keeps _))
  | reclaimChain tag p => exact leaves_serve (onChain_keeps p State.reclaim_keeps)
  | setCurve tag p => exact leaves_serve (.of_same (setCurve_link p))
  | setAmbientOverrideOn tag p | setAmbientOverrideOff tag p => exact leaves_serve (.of_same (setAmbientOverride_link p))
  | vehicleEvent tag p => exact leaves_serve (vehicleEvent_keeps p)
  | putTrigger tag p => exact leaves_serve (.of_same (putTrigger_link p))
  | getTrigger tag p => exact leaves_serve (.of_same (getTrigger_link p))
  | storeSettings tag p => exact leaves_serve (.of_same (storeSettings_link p))
  | storeLibrary tag p => exact leaves_serve (.of_same storeLibrary_link)
  | storeWriteEnd matched => exact leaves_of_keeps (by split; exacts [(same.endWrite matched).settle, same])
  | restart tag p => exact leaves_serve restart_keeps
  | sleep tag p => exact leaves_serve sleep_keeps
  | dormantEntry =>
    refine leaves_of_keeps ?_
    split
    · exact same.trans ⟨⟨id, fun _ => Nat.zero_le _, Nat.le_refl _⟩, fun _ => FlagState.stands_refl _⟩
    · exact same
  | wakeByLink => exact leaves_of_keeps (by split; exacts [same.wake, same])
  | wakeByEgress => exact leaves_of_keeps (by split; exacts [same.wake, same])

/-- Settles O14: no command but a reset and CLEAR EVENTS takes a flag back. -/
theorem flagsPersist : Obligations.FlagsPersist := by
  intro c s t f leads notClear notOn notOff notRestart
  have keeps : clearsFlags c = false := by
    cases c with
    | powerOn hi => exact absurd rfl (notOn hi)
    | supplyRemoval => exact absurd rfl notOff
    | restartTaken => exact absurd rfl notRestart
    | clearEvents tag p => exact absurd rfl (notClear tag p)
    | _ => rfl
  exact (exec_onward keeps s t leads).2 f

theorem Link.reset_bounded : Link.reset.Bounded := by simp [Link.Bounded, Link.reset, Link.unsent]

theorem Link.clearFlags_unsent (l : Link) (named : BitVec 16) : (l.clearFlags named).unsent = l.unsent := rfl

/-- CLEAR EVENTS adds nothing to the queues (R188). -/
theorem Link.clearFlags_queuesHold (l : Link) (named : BitVec 16) : l.QueuesHold (l.clearFlags named) :=
  ⟨id, id, (l.clearFlags_unsent named).le⟩

theorem exec_bounded (c : Instr) {s : State} (h : s.link.Bounded) : Leaves (exec c s) fun t => t.link.Bounded := by
  by_cases keeps : clearsFlags c = false
  · exact fun t leads => (exec_onward keeps s t leads).1 h
  cases c with
  | powerOn hi => exact leaves_next.mpr Link.reset_bounded
  | supplyRemoval => exact leaves_next.mpr Link.reset_bounded
  | restartTaken => exact leaves_next.mpr (by split; exacts [Link.reset_bounded, h])
  | clearEvents tag p => exact leaves_next.mpr (State.serve_bounded (fun t => t.link.clearFlags_queuesHold _) h)
  | _ => exact absurd rfl keeps

/-- Settles O4: dispatch waits for room among the replies, the two other queues drop what finds none, and a reset empties
all three. -/
theorem stepKeepsLinkBounded : Obligations.StepKeepsLinkBounded :=
  step_keeps (P := LinkBounded) (fun _ _ => id) fun c _ h => exec_bounded c h

end Sys2Proof.Machine

namespace Sys2Proof.Machine

/-! ### What a choice of the next frame leaves alone (R183) -/

section
variable (l : Link)

/-- The choice writes the transmitter, the replies, the notices and the flags alone. -/
theorem Link.startNext_writes :
    ∃ tx replies notices flags,
      l.startNext = { l with tx := tx, replies := replies, notices := notices, flags := flags } := by
  rcases l.startNext_cases with e | ⟨-, r, rs, -, e⟩ | ⟨-, -, n, ns, -, e⟩ | ⟨-, -, -, -, e⟩ <;>
    exact ⟨_, _, _, _, e⟩

@[simp] theorem Link.startNext_receiver : l.startNext.receiver = l.receiver := by
  obtain ⟨_, _, _, _, e⟩ := l.startNext_writes; rw [e]

@[simp] theorem Link.startNext_crcErrors : l.startNext.crcErrors = l.crcErrors := by
  obtain ⟨_, _, _, _, e⟩ := l.startNext_writes; rw [e]

@[simp] theorem Link.startNext_framingErrors : l.startNext.framingErrors = l.framingErrors := by
  obtain ⟨_, _, _, _, e⟩ := l.startNext_writes; rw [e]

@[simp] theorem Link.startNext_timeouts : l.startNext.timeouts = l.timeouts := by
  obtain ⟨_, _, _, _, e⟩ := l.startNext_writes; rw [e]

@[simp] theorem Link.startNext_overlength : l.startNext.overlength = l.overlength := by
  obtain ⟨_, _, _, _, e⟩ := l.startNext_writes; rw [e]

@[simp] theorem Link.startNext_overruns : l.startNext.overruns = l.overruns := by
  obtain ⟨_, _, _, _, e⟩ := l.startNext_writes; rw [e]

end

/-! ### The choice of a transmitter that is free (R183, R186) -/

section
variable {l : Link}

/-- A transmitter that has stopped begins no frame (R182). -/
theorem Link.startNext_of_stopped (stopped : l.txStopped = true) : l.startNext = l := by
  simp [Link.startNext, stopped]

variable (free : l.tx = none) (runs : l.txStopped = false)
include free runs

theorem Link.startNext_of_reply {r : LinkFrame} {rs : List LinkFrame} (replies : l.replies = r :: rs) :
    l.startNext = { l with tx := some ⟨true, r⟩, replies := rs } := by
  simp [Link.startNext, free, runs, replies]

variable (noReply : l.replies = [])
include noReply

theorem Link.startNext_of_notice {n : Notice} {ns : List Notice} (notices : l.notices = n :: ns) :
    l.startNext = { l with tx := some ⟨false, n.frame⟩, notices := ns } := by
  simp [Link.startNext, free, runs, noReply, notices]

variable (noNotice : l.notices = [])
include noNotice

theorem Link.startNext_of_flags (flags : l.newSet ≠ 0) :
    l.startNext = { l.reportFlags with tx := some ⟨false, l.eventReport⟩ } := by
  simp only [Link.startNext, free, runs, noReply, noNotice, if_neg flags, Option.isSome_none, Bool.or_self,
    Bool.false_eq_true, if_false]

theorem Link.startNext_of_nothing (flags : l.newSet = 0) : l.startNext = l := by
  simp [Link.startNext, free, runs, noReply, noNotice, flags]

end

/-! ### The receiver takes a frame (R174 to R177) -/

section
variable (l : Link)

/-- Each byte of a payload joins those taken, and the last of them ends PAYLOAD (R176). -/
theorem Link.foldl_takeByte_payload (length kind tag : Byte) {rest taken : List Byte} (nonempty : rest ≠ [])
    (whole : taken.length + rest.length = length.toNat) :
    rest.foldl Link.takeByte { l with receiver := .payload length kind tag taken } =
      { l with receiver := .check length kind tag (taken ++ rest) none } := by
  induction rest generalizing taken with
  | nil => exact absurd rfl nonempty
  | cons b rest ih =>
    rw [List.length_cons] at whole
    rw [List.foldl_cons]
    cases rest with
    | nil => simp [Link.takeByte, ← whole]
    | cons c rest =>
      have more : (taken ++ [b]).length < length.toNat := by
        simp only [List.length_append, List.length_cons, List.length_nil] at whole ⊢; omega
      have step : Link.takeByte { l with receiver := .payload length kind tag taken } b =
          { l with receiver := .payload length kind tag (taken ++ [b]) } := by
        simp only [Link.takeByte, if_pos more]
      rw [step, ih (by simp) (by simp only [List.length_append, List.length_cons, List.length_nil] at whole ⊢; omega),
        List.append_assoc, List.singleton_append]

/-- KIND and TAG end HEADER: the payload follows or, where LENGTH is 0, the CRC (R176). -/
theorem Link.foldl_takeByte_header (f : LinkFrame) (fits : f.payload.length ≤ Config.maxPayload) :
    f.covered.foldl Link.takeByte { l with receiver := .header [] } =
      { l with receiver := .check (BitVec.ofNat 8 f.payload.length) f.kind f.tag f.payload none } := by
  have length : (BitVec.ofNat 8 f.payload.length).toNat = f.payload.length := by
    simp only [Config.maxPayload] at fits
    rw [BitVec.toNat_ofNat, Nat.mod_eq_of_lt (by omega)]
  have header : [BitVec.ofNat 8 f.payload.length, f.kind, f.tag].foldl Link.takeByte { l with receiver := .header [] } =
      { l with receiver :=
          if f.payload.length = 0 then .check (BitVec.ofNat 8 f.payload.length) f.kind f.tag [] none
          else .payload (BitVec.ofNat 8 f.payload.length) f.kind f.tag [] } := by
    simp only [List.foldl_cons, List.foldl_nil, Link.takeByte, length, if_neg (Nat.not_lt.mpr fits)]
  have covered : f.covered = [BitVec.ofNat 8 f.payload.length, f.kind, f.tag] ++ f.payload := rfl
  rw [covered, List.foldl_append, header]
  by_cases empty : f.payload = []
  · simp [empty]
  · rw [if_neg (by simpa using empty)]
    exact l.foldl_takeByte_payload _ _ _ empty (by simp [length])

/-- The bytes of `f` with the CRC `crc`: in HUNT the receiver judges `f` by that CRC (R174, R176, R177). -/
theorem Link.foldl_takeByte_frame (hunt : l.receiver = .hunt) (f : LinkFrame)
    (fits : f.payload.length ≤ Config.maxPayload) {crc : Nat} (word : crc < 65536) :
    (syncByte :: f.covered ++ be16 crc).foldl Link.takeByte l = l.judgeFrame f crc := by
  have sync : l.takeByte syncByte = { l with receiver := .header [] } := by simp [Link.takeByte, hunt]
  have value : (BitVec.ofNat 8 (crc / 256)).toNat * 256 + (BitVec.ofNat 8 crc).toNat = crc := by
    simp only [BitVec.toNat_ofNat]; omega
  rw [List.cons_append, List.foldl_cons, sync, List.foldl_append, l.foldl_takeByte_header f fits]
  simp only [be16, be8, List.cons_append, List.nil_append, List.foldl_cons, List.foldl_nil, Link.takeByte, value]
  rfl

variable {l} (hunt : l.receiver = .hunt) (f : LinkFrame)
include hunt

/-- The right CRC delivers the frame (R177). -/
theorem Link.judgeFrame_good : l.judgeFrame f (crc16 f.covered).toNat = l.deliver f := by
  have same : { l with receiver := .hunt } = l := by rw [← hunt]
  simp only [Link.judgeFrame, if_true, same]

/-- Another CRC discards the frame with a CRC error (R177). -/
theorem Link.judgeFrame_bad {crc : Nat} (wrong : crc ≠ (crc16 f.covered).toNat) :
    l.judgeFrame f crc = { l.raise .rxError with crcErrors := countUp l.crcErrors } := by
  have same : { l with receiver := .hunt } = l := by rw [← hunt]
  simp only [Link.judgeFrame, if_neg wrong.symm, same]

/-- A LENGTH above 240 ends the frame at once (R176). -/
theorem Link.foldl_takeByte_overlong {length : Byte} (long : Config.maxPayload < length.toNat) :
    [syncByte, length].foldl Link.takeByte l = { l.raise .rxError with overlength := countUp l.overlength } := by
  simp only [List.foldl_cons, List.foldl_nil, Link.takeByte, hunt, if_true, if_pos long]
  rw [← hunt]
  rfl

end

/-- Settles O18: the receiver judges the frame by the CRC that its own bytes carry. -/
theorem receiverTakesFrame : Obligations.ReceiverTakesFrame := fun l f hunt fits =>
  (l.foldl_takeByte_frame hunt f fits (crc16 f.covered).isLt).trans (Link.judgeFrame_good hunt f)

/-! ### The events of the line (R173 to R179) -/

section
variable {s : State} (running : s.running = true)
include running

theorem exec_frameReceived (bytes : List Byte) :
    exec (.frameReceived bytes) s = .next ({ s with link := bytes.foldl Link.takeByte s.link } : State).settle := by
  show execFrameReceived bytes s = _
  rw [execFrameReceived, if_pos running, Link.foldl_takeCharacter]

theorem exec_framingError (busy : s.link.receiver ≠ .waitIdle) :
    exec .framingError s = .next ({ s with link := { s.link.raise .rxError with
      receiver := .hunt, framingErrors := countUp s.link.framingErrors } } : State).settle := by
  show execFramingError s = _
  rw [execFramingError, if_pos (by simp [running, busy]), Link.framingError, if_neg busy]

theorem exec_interByteTimeout (inFrame : s.link.receiver.inFrame = true) :
    exec .interByteTimeout s = .next ({ s with link := { s.link.raise .rxError with
      receiver := .hunt, timeouts := countUp s.link.timeouts } } : State).settle :=
  congrArg Host.Outcome.next (if_pos (by rw [running, inFrame]; rfl))

end

/-- A frame that finds room joins the receive buffer (R177). -/
theorem Link.deliver_of_room {l : Link} (room : l.rxBuffer.length < 2) (f : LinkFrame) :
    l.deliver f = { l with rxBuffer := l.rxBuffer ++ [f] } := if_pos room

/-- A frame that finds none is dropped as an overrun (R177). -/
theorem Link.deliver_of_full {l : Link} (full : 2 ≤ l.rxBuffer.length) (f : LinkFrame) :
    l.deliver f = { l.raise .rxOverrun with overruns := countUp l.overruns } := if_neg (Nat.not_lt.mpr full)

theorem Link.deliver_receiver (l : Link) (f : LinkFrame) : (l.deliver f).receiver = l.receiver := by
  unfold Link.deliver; split <;> rfl

/-- Settles O39: a frame is delivered, or discarded by its CRC or its LENGTH. -/
theorem frameIsReceived : Obligations.FrameIsReceived := by
  refine ⟨fun f s running hunt fits => ?_, fun f crc s running hunt fits word wrong => ?_,
    fun length s running hunt long => ?_⟩
  · refine ⟨_, exec_frameReceived running f.bytes, ?_⟩
    rw [receiverTakesFrame s.link f hunt fits]
    refine ⟨?_, fun room => ?_, fun full => ?_, rfl, rfl, rfl⟩
    · exact (Link.startNext_receiver _).trans ((s.link.deliver_receiver f).trans hunt)
    · rw [Link.deliver_of_room room]
      exact ⟨Link.startNext_rxBuffer _, Link.startNext_overruns _⟩
    · rw [Link.deliver_of_full full]
      exact ⟨Link.startNext_rxBuffer _, Link.startNext_overruns _,
        Link.flag_startNext (s.link.flag_raise_same .rxOverrun)⟩
  · refine ⟨_, exec_frameReceived running _, ?_⟩
    have taken := s.link.foldl_takeByte_frame hunt f fits word
    rw [Link.judgeFrame_bad hunt f wrong] at taken
    rw [show ((0xA5 : Byte) :: f.covered ++ be16 crc).foldl Link.takeByte s.link = _ from taken]
    exact ⟨(Link.startNext_receiver _).trans hunt, Link.startNext_rxBuffer _, Link.startNext_crcErrors _,
      Link.startNext_overruns _, Link.flag_startNext (s.link.flag_raise_same .rxError), rfl, rfl⟩
  · refine ⟨_, exec_frameReceived running _, ?_⟩
    rw [show [(0xA5 : Byte), length].foldl Link.takeByte s.link = _ from Link.foldl_takeByte_overlong hunt long]
    exact ⟨(Link.startNext_receiver _).trans hunt, Link.startNext_rxBuffer _, Link.startNext_overlength _,
      Link.startNext_crcErrors _, Link.flag_startNext (s.link.flag_raise_same .rxError), rfl, rfl⟩

/-- Settles O40: each event is its arm, and the choice of the next frame leaves what the receiver counts. -/
theorem lineFaults : Obligations.LineFaults := by
  refine ⟨fun s running busy => ⟨_, exec_framingError running busy, ?_⟩,
    fun s running inFrame => ⟨_, exec_interByteTimeout running inFrame, ?_⟩, fun s running => ?_,
    fun s running idle => ?_⟩
  · exact ⟨Link.startNext_receiver _, Link.startNext_framingErrors _,
      Link.flag_startNext (s.link.flag_raise_same .rxError), Link.startNext_rxBuffer _, Link.startNext_timeouts _, rfl⟩
  · exact ⟨Link.startNext_receiver _, Link.startNext_timeouts _,
      Link.flag_startNext (s.link.flag_raise_same .rxError), Link.startNext_rxBuffer _, Link.startNext_framingErrors _,
      rfl⟩
  · exact congrArg Host.Outcome.next (if_pos running)
  · exact congrArg Host.Outcome.next (if_pos (by simp [running, idle]))

/-! ### The end of a frame in transmission (R182, R183, R207) -/

section
variable {l : Link} {f : TxFrame} (sending : l.tx = some f)
include sending

theorem Link.sent_of_no_hold (hold : l.hold = .none) (sleepPending : Bool) :
    l.sent sleepPending = { l with tx := none } := by
  simp [Link.sent, sending, Link.holdReplyDone, hold]

theorem Link.sent_before_reply {r : LinkFrame} {rs : List LinkFrame} (replies : l.replies = r :: rs)
    (sleepPending : Bool) : l.sent sleepPending = { l with tx := none } := by
  simp [Link.sent, sending, replies]

variable (last : l.replies = []) (reply : f.isReply = true)
include last reply

/-- The reply of the request that imposed the hold has been sent: the transmitter stops (R182). -/
theorem Link.sent_stops {sleepPending : Bool} (held : l.hold ≠ .none) (stays : l.hold = .restart ∨ sleepPending = true) :
    l.sent sleepPending = { l with tx := none, txStopped := true, replySent := true } := by
  cases hold : l.hold with
  | none => exact absurd hold held
  | restart => simp [Link.sent, sending, last, reply, Link.holdReplyDone, hold]
  | sleep =>
    obtain rfl : sleepPending = true := stays.resolve_left (by rw [hold]; decide)
    simp [Link.sent, sending, last, reply, Link.holdReplyDone, hold]

/-- In a cancelled sleep the hold ends with its reply (R207). -/
theorem Link.sent_releases (hold : l.hold = .sleep) : l.sent false = { l with tx := none, hold := .none } := by
  simp [Link.sent, sending, last, reply, Link.holdReplyDone, hold]

end

theorem exec_transmitComplete {s : State} {f : TxFrame} (running : s.running = true) (sending : s.link.tx = some f) :
    exec .transmitComplete s = .next ({ s with link := s.link.sent s.power.sleepPending } : State).settle :=
  congrArg Host.Outcome.next (if_pos (by rw [running, sending]; rfl))

/-- Settles O41: the frame sent leaves the transmitter free, stopped or released from the hold, and the choice follows. -/
theorem transmitterChooses : Obligations.TransmitterChooses := by
  refine ⟨fun s f running sending hold runs => ?_, fun s f running sending held runs => ?_⟩
  · refine ⟨_, exec_transmitComplete running sending, rfl, rfl, ?_⟩
    rw [Link.sent_of_no_hold sending hold]
    have free : ({ s.link with tx := none } : Link).tx = none := rfl
    refine ⟨fun r rs replies => ?_, fun noReply n ns notices => ?_, fun noReply noNotice flags => ?_,
      fun noReply noNotice flags => ?_⟩
    · rw [State.settle, Link.startNext_of_reply free runs replies]
      exact ⟨rfl, rfl, rfl⟩
    · rw [State.settle, Link.startNext_of_notice free runs noReply notices]
      exact ⟨rfl, rfl⟩
    · rw [State.settle, Link.startNext_of_flags free runs noReply noNotice flags]
      exact ⟨rfl, s.link.reportFlags_flag⟩
    · rw [State.settle, Link.startNext_of_nothing free runs noReply noNotice flags]
      exact ⟨rfl, rfl⟩
  · refine ⟨_, exec_transmitComplete running sending, rfl, rfl, rfl, fun r rs replies => ?_, fun last reply stays => ?_,
      fun last reply hold awake => ?_⟩
    · rw [Link.sent_before_reply sending replies]
      exact Link.startNext_of_reply (l := { s.link with tx := none }) rfl runs replies
    · rw [Link.sent_stops sending last reply held stays]
      exact Link.startNext_of_stopped (l := { s.link with tx := none, txStopped := true, replySent := true }) rfl
    · rw [awake, Link.sent_releases sending last reply hold]
      rfl

end Sys2Proof.Machine

namespace Sys2Proof.Machine

/-! ### The link checks of a request (R181) -/

/-- A payload of the length that the variant's field needs decides the variant by its field; any other length is answered
under either (R211; log 3). -/
theorem variant_of_allowed {kind : Byte} {p : List Byte} {n : Nat} {field : List Byte → Bool}
    (needed : lengthAllowed kind n = true) (h : lengthAllowed kind p.length = true → variant p n field = true) :
    variant p n field = true := by
  by_cases length : p.length = n
  · exact h (length ▸ needed)
  · simp [variant, length]

/-- A request command is the dispatch of its frame to an owner, where its length is refused or its row describes it. -/
theorem exec_request {c : Instr} {f : LinkFrame} (h : requestFrame? c = some f)
    (described : lengthAllowed f.kind f.payload.length = true → c.wellFormed = true) :
    ∃ owner, ∀ s, exec c s = .next (s.serve f true owner) := by
  have ofVariant : ∀ {mine : Bool} {owner : State → Answer}, (∀ s, exec c s = .next (s.serve f mine owner)) →
      mine = true → ∃ owner, ∀ s, exec c s = .next (s.serve f true owner) := fun runs own => ⟨_, own ▸ runs⟩
  cases c with
  | stopLayerImmediate tag p | stopLayerAtEnd tag p | clearAlertAtEnd tag p | clearAlertImmediate tag p
  | putScene tag p | putSceneRemove tag p | setChainStateOff tag p | setChainStateOn tag p
  | setAmbientOverrideOn tag p | setAmbientOverrideOff tag p =>
    obtain rfl := Option.some.inj h
    exact ofVariant (fun _ => rfl)
      (variant_of_allowed rfl fun length => (Bool.and_eq_true_iff.mp (described length)).2)
  | ping tag p | getStatus tag p | getCounters tag p | setEventMask tag p | clearEvents tag p | startLayer tag p
  | startScene tag p | setLevel tag p | getLayer tag p | setMaster tag p | hush tag p | setPolicy tag p | raiseAlert tag p
  | loadCues tag p | readCues tag p | getScene tag p | enumerate tag p | getNode tag p | putCatalog tag p
  | getCatalog tag p | putZoneSpan tag p | lockCatalog tag p | setChainTiming tag p | setChainBudget tag p
  | reclaimChain tag p | setCurve tag p | getAmbient tag p | vehicleEvent tag p | putTrigger tag p | getTrigger tag p
  | storeSettings tag p | storeLibrary tag p | restart tag p | sleep tag p =>
    obtain rfl := Option.some.inj h
    exact ⟨_, fun _ => rfl⟩
  | _ => cases h

section
variable {s : State} {f : LinkFrame} {owner : State → Answer}

/-- A request that a link check refuses is answered with the check's status, without effect (R181). -/
theorem State.serve_of_check {k : Status} (dispatched : s.atDispatch f = true)
    (checked : linkChecked f owner s.takeFrame = .plain s.takeFrame k) : s.serve f true owner = s.answered f k [] id := by
  simp only [State.serve, dispatched, Bool.and_self, if_true, checked]
  rfl

theorem linkChecked_badLength (length : lengthAllowed f.kind f.payload.length = false) :
    linkChecked f owner s = .plain s .length := if_pos length

theorem linkChecked_starting (length : lengthAllowed f.kind f.payload.length = true) (starting : s.power.part = .starting)
    (unserved : servedInStarting f.kind = false) : linkChecked f owner s = .plain s .busy := by
  simp [linkChecked, length, starting, unserved]

end

/-- A reply carries its data with OK and ACCEPTED alone (R181). -/
theorem Status.carriesData_iff (k : Status) : k.carriesData = true ↔ k = .ok ∨ k = .accepted := by cases k <;> decide

/-- Settles O42: a request is served by its frame, each check answers before the owner, and the reply joins the unsent. -/
theorem linkChecksAnswer : Obligations.LinkChecksAnswer := by
  refine ⟨fun k tag p s report dispatched => ?_, fun k tag p s low unnamed dispatched => ?_,
    fun c f s request dispatched length => ?_, fun c f s request described dispatched length starting ping status => ?_,
    fun f status data effect s => ⟨rfl, fun busy => ?_, fun free runs x xs unsent => ?_⟩⟩
  · have kind : isReportKind k = true := decide_eq_true report
    exact congrArg Host.Outcome.next (if_pos (by rw [kind, dispatched]; rfl))
  · have kind : isReportKind k = false := decide_eq_false (Nat.not_le.mpr low)
    exact congrArg Host.Outcome.next (if_pos (by rw [kind, unnamed, dispatched]; rfl))
  · obtain ⟨owner, runs⟩ := exec_request request fun allowed => absurd (length.symm.trans allowed) Bool.false_ne_true
    rw [runs, State.serve_of_check dispatched (linkChecked_badLength length)]
  · obtain ⟨owner, runs⟩ := exec_request request fun _ => described
    have unserved : servedInStarting f.kind = false := by
      rw [← Bool.not_eq_true, servedInStarting, Bool.or_eq_true, decide_eq_true_eq, decide_eq_true_eq]
      exact not_or.mpr ⟨ping, status⟩
    rw [runs, State.serve_of_check dispatched (linkChecked_starting length starting unserved)]
  · have replied : ((effect s.takeFrame).reply f status data).link.startNext = _ := Link.startNext_of_busy busy
    refine replied.trans ?_
    simp only [State.reply, Status.carriesData_iff]
    rfl
  · refine Link.startNext_of_reply (l := ((effect s.takeFrame).reply f status data).link) free runs ?_
    rw [← unsent]
    simp only [State.reply, Status.carriesData_iff]
    rfl

/-- Settles O44: PING is served in STARTING and in AWAKE, and its owner reads the part state alone. -/
theorem pingAnswers : Obligations.PingAnswers := by
  intro tag p s dispatched
  have allowed : lengthAllowed 0x01 p.length = true ↔ p.length ≤ 16 := by simp [lengthAllowed, requestLengths]
  refine ⟨fun fits => ?_, fun long => ?_⟩
  · refine congrArg Host.Outcome.next (State.serve_starting dispatched (allowed.mpr fits) rfl ?_)
    simp [partCode_eq]
  · have length : lengthAllowed 0x01 p.length = false := by
      rw [← Bool.not_eq_true, allowed]; omega
    exact congrArg Host.Outcome.next (State.serve_of_check dispatched (linkChecked_badLength length))

/-! ### The owners of the store requests (R200 to R202, R204) -/

section
variable {p : List Byte} {s : State}

theorem storeSettings_of_lock {lock : Bool} (field : boolCode? (byteAt p 1) = some lock) :
    storeSettings p s =
      if s.store.op ≠ .idle then .plain s .busy
      else .plain { s with store := { s.store with
          egressScene := byteAt p 0, lockAfterStartUp := lock, settingsRegion := none
          op := .settings { s.settingsSnapshot with egressScene := byteAt p 0, lockAfterStartUp := lock } } }
        .accepted := by
  rw [storeSettings, field]
  rfl

theorem policy?_policyCode (k : Policy) : policy? (policyCode k) = some k := by cases k <;> rfl

theorem storeLibrary_of_idle (idle : s.store.op = .idle) :
    storeLibrary s =
      if Config.maxStoredCues < (s.library.map (·.length)).sum then .plain s .invalid
      else .plain { s with store := { s.store with libraryRegion := none, op := .library s.librarySnapshot } } .accepted :=
  if_neg (not_not.mpr idle)

theorem exec_storeWriteEnd (awake : s.power.part = .awake) (writing : s.store.op ≠ .idle) (matched : Bool) :
    exec (.storeWriteEnd matched) s = .next (s.endWrite matched).settle :=
  congrArg Host.Outcome.next (if_pos (by simp [State.awake, awake, writing]))

theorem exec_restartTaken (awake : s.power.part = .awake) (hold : s.link.hold = .restart)
    (sent : s.link.replySent = true) :
    exec .restartTaken s = .next { s.rebooted s.power.plantHigh with
      dir := { (s.rebooted s.power.plantHigh).dir with locked := s.dir.locked } } :=
  congrArg Host.Outcome.next (if_pos (by simp [State.awake, awake, hold, sent]))

end

/-- Settles O59: each request by its owner's equation, the end of a write by the region it wrote, and the restart as a
power-on. -/
theorem storesAndRestartsRun : Obligations.StoresAndRestartsRun := by
  refine ⟨fun tag p s lock ready length field => ⟨fun busy => ?_, fun idle => ?_⟩,
    fun tag p s ready length bad => ?_,
    fun tag s ready => ⟨fun busy => ?_, fun idle exceeds => ?_, fun idle fits => ?_⟩,
    fun matched s awake => ⟨fun k op => ?_, fun l op => ?_⟩,
    fun tag s ready => ⟨fun busy => ?_, fun idle => ?_⟩, fun s awake hold sent => ?_⟩
  · exact exec_answered id ready rfl (by rw [length]; rfl) ((storeSettings_of_lock field).trans (if_pos busy))
  · exact ⟨{ s.settingsSnapshot with egressScene := byteAt p 0, lockAfterStartUp := lock },
      exec_answered _ ready rfl (by rw [length]; rfl) ((storeSettings_of_lock field).trans (if_neg (not_not.mpr idle))),
      rfl, rfl, rfl, rfl, rfl, rfl, rfl, policy?_policyCode _, rfl, rfl⟩
  · refine exec_answered id ready rfl (by rw [length]; rfl) ?_
    rw [storeSettings, boolCode?_eq_none.mpr bad]
    rfl
  · exact exec_answered id ready rfl rfl (if_pos busy)
  · exact exec_answered id ready rfl rfl ((storeLibrary_of_idle (s := s.takeFrame) idle).trans (if_pos exceeds))
  · exact exec_answered _ ready rfl rfl
      ((storeLibrary_of_idle (s := s.takeFrame) idle).trans (if_neg (Nat.not_lt.mpr fits)))
  · rw [exec_storeWriteEnd awake (by rw [op]; nofun), State.endWrite, op]
    rfl
  · rw [exec_storeWriteEnd awake (by rw [op]; nofun), State.endWrite, op]
    rfl
  · exact exec_answered id ready rfl rfl (if_pos busy)
  · exact exec_answered _ ready rfl rfl (if_neg (not_not.mpr idle))
  · refine ⟨_, exec_restartTaken awake hold sent, rfl, rfl, s.rebooted_layer s.power.plantHigh, rfl, rfl, rfl, fun _ => rfl,
      fun c => ?_, rfl, rfl, rfl, rfl, rfl⟩
    cases c <;> exact ⟨rfl, rfl, rfl, rfl⟩

end Sys2Proof.Machine

/-! # Proofs: the part state and the stored regions

The transitions of chapter 10 by the commands that make them, and what the commands do to the Settings Store: which leave
it alone, and which region each of the others writes. -/

namespace Sys2Proof.Machine

/-! ### The part state (R196, R203, R204, R206, R208) -/

/-- A tick moves neither the part state nor a pending sleep (R197). -/
theorem State.tick_power (s : State) (order : List Nat) : (s.tick order).power = s.power := by
  by_cases awake : s.power.part = .awake
  · rw [(State.tick_sameButLayers awake order).2.1, s.ticked_power]
  · rcases State.tick_asleep awake order with e | e <;> rw [e]

/-- The commands of the transitions of chapter 10. -/
def movesPart : Instr → Bool
  | .powerOn _ | .startupComplete | .supplyRemoval | .restartTaken | .dormantEntry | .wakeByLink | .wakeByEgress => true
  | _ => false

/-- Every other command leaves the part state, also where it acts on layers and ports at once. -/
theorem exec_part {c : Instr} (h : movesPart c = false) (s : State) :
    Leaves (exec c s) fun t => t.power.part = s.power.part := by
  by_cases acts : (actsOnLayers c && actsOnPorts c) = false
  · intro t leads
    rcases Bool.and_eq_false_iff.mp acts with layers | ports
    · exact congrArg Power.part (exec_sameLayers layers s t leads).2.1
    · exact congrArg Prod.fst (exec_chainState ports s t leads)
  cases c with
  | tick order => exact leaves_next.mpr (congrArg Power.part (s.tick_power order))
  | debouncedAssertion =>
    refine leaves_next.mpr ?_
    split
    · dsimp only
      rw [State.settle_power]
      split
      · rw [State.cancelSleep_power, State.lightEgress_power]
        rfl
      · rfl
    · rfl
  | sleep tag p =>
    refine leaves_next.mpr ?_
    refine State.serve_keeps (P := fun t => t.power.part = s.power.part) (fun _ _ => id) (fun t _ same => ?_) rfl
    rcases sleep_cases t with ⟨-, -, e, -⟩ | ⟨-, -, -, e⟩ <;> rw [e]
    · exact same
    · simpa using same
  | powerOn _ | startupComplete | supplyRemoval | restartTaken | dormantEntry | wakeByLink | wakeByEgress => cases h
  | _ => exact absurd rfl acts

/-- A guarded event that moves the part state has met its guard. -/
theorem guard_of_moves {guard : Prop} [Decidable guard] {s t u : State}
    (leads : (.next (if guard then u else s) : Result) = .next t) (moves : t.power.part ≠ s.power.part) :
    guard ∧ t = u := by
  rw [Host.Outcome.next.injEq] at leads
  by_cases met : guard
  · exact ⟨met, leads.symm.trans (if_pos met)⟩
  · exact absurd (congrArg (·.power.part) (leads.symm.trans (if_neg met))) moves

theorem State.enterAwake_part (s : State) : s.enterAwake.power.part = .awake := by
  rw [State.enterAwake_eq, State.beginPass_power, State.beginPass_power]
  split
  · rw [State.startEgress_power]
    rfl
  · rfl

/-- Settles O16: a command that is none of a transition leaves the part state, and each of the others moves it under its
guard. -/
theorem partStateMoves : Obligations.PartStateMoves := by
  intro c s t leads moves
  by_cases stays : movesPart c = false
  · exact absurd (exec_part stays s t leads) moves
  cases c with
  | powerOn plantHigh =>
    cases leads
    exact .inl ⟨⟨plantHigh, rfl⟩, rfl⟩
  | supplyRemoval =>
    cases leads
    exact .inr (.inl ⟨rfl, rfl⟩)
  | restartTaken =>
    obtain ⟨taken, rfl⟩ := guard_of_moves leads moves
    simp only [State.awake, Bool.and_eq_true, decide_eq_true_eq] at taken
    obtain ⟨⟨awake, -⟩, -⟩ := taken
    exact .inr (.inr (.inl ⟨rfl, awake, rfl⟩))
  | startupComplete =>
    obtain ⟨starting, rfl⟩ := guard_of_moves leads moves
    exact .inr (.inr (.inr (.inl ⟨rfl, starting, State.enterAwake_part _⟩)))
  | dormantEntry =>
    obtain ⟨done, rfl⟩ := guard_of_moves leads moves
    simp only [State.sleepDone, State.awake, Bool.and_eq_true, decide_eq_true_eq] at done
    obtain ⟨⟨⟨⟨⟨awake, -⟩, -⟩, -⟩, -⟩, -⟩ := done
    exact .inr (.inr (.inr (.inr (.inl ⟨rfl, awake, rfl⟩))))
  | wakeByLink =>
    obtain ⟨dormant, rfl⟩ := guard_of_moves leads moves
    exact .inr (.inr (.inr (.inr (.inr ⟨.inl rfl, dormant, rfl⟩))))
  | wakeByEgress =>
    obtain ⟨asserted, rfl⟩ := guard_of_moves leads moves
    simp only [Bool.and_eq_true, decide_eq_true_eq] at asserted
    exact .inr (.inr (.inr (.inr (.inr ⟨.inr rfl, asserted.1, rfl⟩))))
  | _ => exact absurd rfl stays

end Sys2Proof.Machine

namespace Sys2Proof.Machine

/-! ### The operations that leave the Store alone -/

section
variable (s : State)

@[simp] theorem State.startRing_store (i : Slot) (r : RingStart) : (s.startRing i r).store = s.store := by
  simp [State.startRing]

@[simp] theorem State.stopSlot_store (i : Slot) (r : EndReason) : (s.stopSlot i r).store = s.store := by
  simp [State.stopSlot_eq]

@[simp] theorem State.cutSuspended_store : s.cutSuspended.store = s.store := by simp [State.cutSuspended_eq]

@[simp] theorem State.replaced_store (i : Slot) : (s.replaced i).store = s.store := by
  unfold State.replaced; split <;> simp

@[simp] theorem State.raiseAlert_store (id : Nat) (exclusive : Bool) :
    (s.raiseAlert id exclusive).state.store = s.store := by
  rcases s.raiseAlert_cases id exclusive with ⟨-, -, e, -⟩ | ⟨c, -, -, -, e⟩ | ⟨c, -, -, -, e⟩ <;> simp [e]

@[simp] theorem State.clearAlert_store (i : Slot) (atEnd : Bool) : (s.clearAlert i atEnd).state.store = s.store := by
  rcases s.clearAlert_cases i atEnd with ⟨-, -, e, -⟩ | ⟨-, ⟨-, -, e⟩ | ⟨-, -, e⟩ | ⟨-, -, e⟩⟩ <;> simp [e]

@[simp] theorem State.act_store (x : Trigger) : (s.act x).1.store = s.store := by
  rcases s.act_cases x with e | ⟨i, c, -, -, -, e | e⟩ | ⟨i, -, -, e⟩ | e | ⟨i, atEnd, -, e⟩ <;> rw [e]
  · rcases s.triggerStart_cases i c (c.resolve x.level) with e | ⟨-, -, -, e⟩ <;> simp [e]
  · rcases s.triggerReplace_cases i c (c.resolve x.level) with e | ⟨-, -, e⟩ <;> simp [e]
  · rfl
  · simp
  · simp

@[simp] theorem State.lightEgress_store : s.lightEgress.store = s.store := by
  unfold State.lightEgress
  split
  · exact State.startRing_store _ _ _
  · rfl

@[simp] theorem State.cancelSleep_store : s.cancelSleep.store = s.store := by unfold State.cancelSleep; split <;> rfl

theorem State.tick_store (order : List Nat) : (s.tick order).store = s.store := by
  by_cases awake : s.power.part = .awake
  · obtain ⟨-, -, -, -, -, -, -, -, -, -, store, -⟩ := State.tick_sameButLayers awake order
    obtain ⟨-, -, -, -, -, -, -, ticked⟩ := s.ticked_frame
    exact store.trans ticked
  · rcases State.tick_asleep awake order with e | e <;> rw [e]

variable (c : Chain)

@[simp] theorem State.leaveRunning_store : (s.leaveRunning c).store = s.store := by
  unfold State.leaveRunning; split <;> simp

@[simp] theorem State.beginPass_store : (s.beginPass c).store = s.store := by simp [State.beginPass]

@[simp] theorem State.takeOff_store : (s.takeOff c).1.store = s.store := by
  unfold State.takeOff State.closePort; split <;> simp

@[simp] theorem State.completeRender_store (f : Frame) : (s.completeRender c f).store = s.store := by
  simp [State.completeRender]

@[simp] theorem State.finishRender_store (f : Frame) : (s.finishRender c f).store = s.store := by
  unfold State.finishRender; split <;> simp

@[simp] theorem State.periodStart_store : (s.periodStart c).store = s.store := by
  unfold State.periodStart State.latePeriod State.promptPeriod
  split
  · rfl
  · split <;> simp

@[simp] theorem State.afterTransfer_store : (s.afterTransfer c).store = s.store := by
  unfold State.afterTransfer State.copyFinished
  rw [State.onPort_store]
  split
  · split <;> simp
  · simp

@[simp] theorem State.judgeTrailer_store (trailer : List Byte) (n : Nat) :
    (s.judgeTrailer c trailer n).store = s.store := by
  unfold State.judgeTrailer State.absorb
  dsimp only
  split <;> simp

@[simp] theorem State.release_store : (s.release c).store = s.store := by simp [State.release]

@[simp] theorem State.retime_store : (s.retime c).store = s.store := by
  unfold State.retime
  split
  · simp
  · simp
  · split <;> simp

end

/-! ### The owners that leave the Store alone -/

/-- What a request's dispatch leaves of the Store is, in every view, what its owner's answer leaves. -/
theorem State.serve_store {α : Type} (view : Store → α) {owner : State → Answer}
    (answer : ∀ t, view (owner t).state.store = view t.store) (s : State) (f : LinkFrame) (mine : Bool) :
    view (s.serve f mine owner).store = view s.store :=
  State.serve_keeps (P := fun t => view t.store = view s.store) (fun _ _ => id)
    (fun t _ same => (answer t).trans same) rfl

/-- The owner's answer leaves the Store as it is. -/
def SparesStore (owner : State → Answer) : Prop := ∀ t, (owner t).state.store = t.store

/-- A request whose owner leaves the Store as it is leaves it as it is. -/
theorem SparesStore.serve {owner : State → Answer} (h : SparesStore owner) {s : State} {f : LinkFrame} {mine : Bool} :
    Leaves (.next (s.serve f mine owner)) fun t => t.store = s.store :=
  leaves_next.mpr (State.serve_store id h s f mine)

/-- A request on a chain leaves the Store as it is when its owner for each chain does. -/
theorem SparesStore.onChain {owner : Chain → State → Answer} (h : ∀ c, SparesStore (owner c)) (p : List Byte) :
    SparesStore fun t => onChain p t owner := fun t => by
  dsimp only
  unfold Machine.onChain
  split
  · exact h _ t
  · rfl

/-! Requests that read leave the whole state as it is. -/

section
variable (p : List Byte) (s : State)

@[simp] theorem getLayer_state : (getLayer p s).state = s := by unfold getLayer; split <;> rfl

@[simp] theorem readCues_state : (readCues p s).state = s := by unfold readCues; dsimp only; split <;> rfl

@[simp] theorem getScene_state : (getScene p s).state = s := by
  unfold getScene
  split
  · rfl
  · split <;> rfl

@[simp] theorem getNode_state : (getNode p s).state = s := by
  unfold getNode
  split
  · rfl
  · dsimp only
    split
    · rfl
    · split <;> rfl

@[simp] theorem getCatalog_state : (getCatalog p s).state = s := by unfold getCatalog; split <;> rfl

@[simp] theorem getTrigger_state : (getTrigger p s).state = s := by unfold getTrigger; split <;> rfl

end

section
variable (p : List Byte)

theorem startLayer_sparesStore : SparesStore (startLayer p) := fun t => by
  rcases startLayer_cases p t with ⟨-, -, e, -⟩ | ⟨_, _, _, -, -, -, -, -, -, -, -, e⟩ <;> simp [e]

theorem startScene_sparesStore : SparesStore (startScene p) := fun t => by
  rcases startScene_cases p t with ⟨-, -, e, -⟩ | ⟨_, _, -, -, -, -, -, -, -, e⟩ <;> simp [e]

theorem stopLayer_sparesStore : SparesStore (stopLayer p) := fun t => by
  rcases stopLayer_cases p t with ⟨-, -, e, -⟩ | ⟨_, -, -, -, ⟨-, -, e⟩ | ⟨-, e⟩⟩ <;> simp [e, State.finish]

theorem setLevel_sparesStore : SparesStore (setLevel p) := fun t => by
  rcases setLevel_cases p t with ⟨-, -, e, -⟩ | ⟨_, -, -, -, ⟨-, e⟩ | ⟨-, -, e⟩⟩ <;> simp [e]

theorem setMaster_sparesStore : SparesStore (setMaster p) := fun t => by
  rcases setMaster_cases p t with ⟨-, -, e, -⟩ | ⟨_, -, e⟩ <;> simp [e]

theorem hush_sparesStore : SparesStore (hush p) := fun t => by
  rcases hush_cases p t with ⟨-, -, e, -⟩ | ⟨-, e⟩ <;> simp [e]

theorem setPolicy_sparesStore : SparesStore (setPolicy p) := fun t => by
  rcases setPolicy_cases p t with ⟨-, -, e, -⟩ | ⟨k, -, e⟩ <;> rw [e]
  rw [Answer.plain_state, State.evalFloor_store]
  split
  · exact State.cutSuspended_store _
  · rfl

theorem raiseAlert_sparesStore : SparesStore (raiseAlert p) := fun t => by
  rcases raiseAlert_cases p t with ⟨-, -, e, -⟩ | ⟨_, -, -, e⟩ <;> simp [e]

theorem clearAlert_sparesStore : SparesStore (clearAlert p) := fun t => by
  rcases clearAlert_cases p t with ⟨-, -, e, -⟩ | ⟨_, _, -, -, -, e⟩ <;> simp [e]

theorem loadCues_sparesStore : SparesStore (loadCues p) := fun t => by
  rcases loadCues_cases p t with ⟨-, -, e, -⟩ | ⟨_, _, -, -, -, -, e⟩ <;> simp [e]

theorem putScene_sparesStore : SparesStore (putScene p) := fun t => by
  rcases putScene_cases p t with ⟨-, -, e, -⟩ | ⟨-, -, e⟩ | ⟨_, -, -, -, -, e⟩ <;> simp [e]

theorem vehicleEvent_sparesStore : SparesStore (vehicleEvent p) := fun t => by
  rcases vehicleEvent_cases p t with ⟨-, -, e, -⟩ | ⟨k, x, -, e⟩ <;> rw [e]
  rw [Answer.plain_state]
  split <;> simp

theorem putTrigger_sparesStore : SparesStore (putTrigger p) := fun t => by
  rcases putTrigger_cases p t with ⟨-, -, e, -⟩ | ⟨_, _, -, e⟩ <;> simp [e]

theorem putCatalog_sparesStore : SparesStore (putCatalog p) := fun t => by
  rcases putCatalog_cases p t with ⟨-, -, e, -⟩ | ⟨_, _, -, -, e⟩ <;> simp [e]

theorem putZoneSpan_sparesStore : SparesStore (putZoneSpan p) := fun t => by
  rcases putZoneSpan_cases p t with ⟨-, -, e, -⟩ | ⟨_, _, -, -, e⟩ <;> simp [e]

theorem lockCatalog_sparesStore : SparesStore lockCatalog := fun t => by
  rcases lockCatalog_cases t with ⟨-, e⟩ | ⟨-, e⟩ <;> simp [e]

theorem getCounters_sparesStore : SparesStore (getCounters p) := fun t => by
  unfold getCounters
  split
  · dsimp only
    split <;> rfl
  · rfl

theorem setCurve_sparesStore : SparesStore (setCurve p) := fun t => by
  unfold setCurve
  dsimp only
  split <;> rfl

theorem setAmbientOverride_sparesStore : SparesStore (setAmbientOverride p) := fun t => by
  unfold setAmbientOverride
  dsimp only
  split
  · rfl
  · split <;> rfl
  · rfl

theorem restart_sparesStore : SparesStore restart := fun t => by
  unfold restart
  split <;> rfl

theorem sleep_sparesStore : SparesStore sleep := fun t => by
  rcases sleep_cases t with ⟨-, -, e, -⟩ | ⟨-, -, -, e⟩ <;> rw [e]
  obtain ⟨-, -, -, -, -, -, store, -⟩ := t.fallAsleep_rest
  exact store

end

theorem State.enumerate_sparesStore (c : Chain) : SparesStore (State.enumerate c) := fun t => by
  unfold State.enumerate; split <;> simp

theorem State.setTiming_sparesStore (pre sel period : Nat) (c : Chain) :
    SparesStore (State.setTiming pre sel period c) := fun t => by
  unfold State.setTiming; split <;> simp

theorem State.setBudget_sparesStore (budget : Nat) (c : Chain) : SparesStore (State.setBudget budget c) := fun t =>
  t.onPort_store c _

theorem State.setChainState_sparesStore (code : Nat) (c : Chain) : SparesStore (State.setChainState code c) := fun t => by
  unfold State.setChainState State.switchOn State.switchOff
  split
  · split <;> simp
  · split <;> simp
  · rfl

theorem State.reclaim_sparesStore (c : Chain) : SparesStore (State.reclaim c) := fun t => by
  unfold State.reclaim
  dsimp only
  split
  · rfl
  · split <;> simp

/-! ### The commands that leave the Store alone -/

/-- The commands that write in the Settings Store: the resets, the load, the STORE requests and the end of a write. -/
def writesStore : Instr → Bool
  | .powerOn _ | .startupComplete | .supplyRemoval | .storeSettings _ _ | .storeLibrary _ _ | .storeWriteEnd _
  | .restartTaken => true
  | _ => false

/-- A command that does not write in the Store leaves it as it is. -/
theorem exec_store {c : Instr} (h : writesStore c = false) (s : State) :
    Leaves (exec c s) fun t => t.store = s.store := by
  cases c with
  | tick order => exact leaves_next.mpr (s.tick_store order)
  | debouncedAssertion =>
    refine leaves_next.mpr ?_
    split
    · dsimp only
      rw [State.settle_store]
      split
      · rw [State.cancelSleep_store, State.lightEgress_store]
        rfl
      · rfl
    · rfl
  | renderComplete c =>
    refine leaves_next.mpr ?_
    split
    · split <;> simp
    · rfl
  | latchPoint c =>
    refine leaves_next.mpr ?_
    split
    · split <;> simp [State.latchDuty, State.latchDarkFrame]
    · rfl
  | shiftEnd c trailer =>
    refine leaves_next.mpr ?_
    split
    · split <;> simp
    · rfl
  | foreignActivity c =>
    refine leaves_next.mpr ?_
    split
    · dsimp only
      rw [State.settle_store]
      split <;> simp
    · rfl
  | periodStart c => exact leaves_next.mpr (by split <;> simp [State.nextPeriod])
  | collectEnd c returned => exact leaves_next.mpr (by split <;> simp [State.completePass])
  | identifyRequestEnd c | settleEnd c | collectMarkerTimeout c | foreignQuiet c =>
    exact leaves_next.mpr (by split <;> simp)
  | hushExpiry | egressLineChange asserted | debouncedDeassertion | luxEdge | gateWindowEnd | frameReceived characters
  | framingError | interByteTimeout | linkBreak | waitIdleEnd | transmitComplete | unknownKind kind tag p
  | reportKindDiscard kind tag p | dormantEntry | wakeByLink | wakeByEgress =>
    exact leaves_next.mpr (by split <;> rfl)
  | ping tag p | getStatus tag p | setEventMask tag p | clearEvents tag p | getAmbient tag p =>
    exact SparesStore.serve fun _ => rfl
  | getLayer tag p | readCues tag p | getScene tag p | getNode tag p | getCatalog tag p | getTrigger tag p =>
    exact SparesStore.serve fun t => by simp
  | getCounters tag p => exact (getCounters_sparesStore p).serve
  | startLayer tag p => exact (startLayer_sparesStore p).serve
  | startScene tag p => exact (startScene_sparesStore p).serve
  | stopLayerImmediate tag p | stopLayerAtEnd tag p => exact (stopLayer_sparesStore p).serve
  | setLevel tag p => exact (setLevel_sparesStore p).serve
  | setMaster tag p => exact (setMaster_sparesStore p).serve
  | hush tag p => exact (hush_sparesStore p).serve
  | setPolicy tag p => exact (setPolicy_sparesStore p).serve
  | raiseAlert tag p => exact (raiseAlert_sparesStore p).serve
  | clearAlertAtEnd tag p | clearAlertImmediate tag p => exact (clearAlert_sparesStore p).serve
  | loadCues tag p => exact (loadCues_sparesStore p).serve
  | putScene tag p | putSceneRemove tag p => exact (putScene_sparesStore p).serve
  | enumerate tag p => exact (SparesStore.onChain State.enumerate_sparesStore p).serve
  | putCatalog tag p => exact (putCatalog_sparesStore p).serve
  | putZoneSpan tag p => exact (putZoneSpan_sparesStore p).serve
  | lockCatalog tag p => exact lockCatalog_sparesStore.serve
  | setChainTiming tag p => exact (SparesStore.onChain (State.setTiming_sparesStore _ _ _) p).serve
  | setChainBudget tag p => exact (SparesStore.onChain (State.setBudget_sparesStore _) p).serve
  | setChainStateOff tag p | setChainStateOn tag p =>
    exact (SparesStore.onChain (State.setChainState_sparesStore _) p).serve
  | reclaimChain tag p => exact (SparesStore.onChain State.reclaim_sparesStore p).serve
  | setCurve tag p => exact (setCurve_sparesStore p).serve
  | setAmbientOverrideOn tag p | setAmbientOverrideOff tag p => exact (setAmbientOverride_sparesStore p).serve
  | vehicleEvent tag p => exact (vehicleEvent_sparesStore p).serve
  | putTrigger tag p => exact (putTrigger_sparesStore p).serve
  | restart tag p => exact restart_sparesStore.serve
  | sleep tag p => exact sleep_sparesStore.serve
  | powerOn _ | startupComplete | supplyRemoval | storeSettings _ _ | storeLibrary _ _ | storeWriteEnd _
  | restartTaken => cases h

end Sys2Proof.Machine

namespace Sys2Proof.Machine

/-! ### The stored regions (R193, R200 to R203) -/

/-- The three regions of the Store, as they stand in nonvolatile memory. -/
def Store.regions (k : Store) : Option Identity × Option StoredSettings × Option (List StoredScene) :=
  (k.identityRegion, k.settingsRegion, k.libraryRegion)

/-- The commands that write a region: the STORE requests, which erase it, and the end of a write (R200 to R202). -/
def writesRegion : Instr → Bool
  | .storeSettings _ _ | .storeLibrary _ _ | .storeWriteEnd _ => true
  | _ => false

/-- The load reads the regions, and entering AWAKE does not touch the Store. -/
theorem State.startup_regions (s : State) : s.load.enterAwake.store.regions = s.store.regions := by
  have stays : s.load.enterAwake.store = s.load.store := by
    obtain ⟨-, -, -, -, -, store, -⟩ := s.load.lit_frame
    show ((s.load.lit.beginPass .a).beginPass .b).store = s.load.store
    rw [State.beginPass_store, State.beginPass_store, store]
  rw [stays]
  rfl

/-- A command that writes no region leaves all three: a reset takes them over, and the load reads them. -/
theorem exec_regions {c : Instr} (h : writesRegion c = false) (s : State) :
    Leaves (exec c s) fun t => t.store.regions = s.store.regions := by
  by_cases writes : writesStore c = false
  · exact fun t leads => congrArg Store.regions (exec_store writes s t leads)
  cases c with
  | powerOn _ | supplyRemoval => exact leaves_next.mpr rfl
  | restartTaken => exact leaves_next.mpr (by split <;> rfl)
  | startupComplete =>
    refine leaves_next.mpr ?_
    split
    · exact s.startup_regions
    · rfl
  | storeSettings _ _ | storeLibrary _ _ | storeWriteEnd _ => cases h
  | _ => exact absurd rfl writes

/-- The regions that STORE SETTINGS is not about. -/
def Store.besideSettings (k : Store) : Option Identity × Option (List StoredScene) :=
  (k.identityRegion, k.libraryRegion)

/-- The regions that STORE LIBRARY is not about. -/
def Store.besideLibrary (k : Store) : Option Identity × Option StoredSettings := (k.identityRegion, k.settingsRegion)

/-- STORE SETTINGS writes no region but SETTINGS (R200). -/
theorem storeSettings_besideSettings (p : List Byte) (s : State) :
    (storeSettings p s).state.store.besideSettings = s.store.besideSettings := by
  cases field : boolCode? (byteAt p 1) with
  | none =>
    rw [storeSettings, field]
    rfl
  | some lock =>
    rw [storeSettings_of_lock field]
    split <;> rfl

/-- STORE LIBRARY writes no region but LIBRARY (R201). -/
theorem storeLibrary_besideLibrary (s : State) : (storeLibrary s).state.store.besideLibrary = s.store.besideLibrary := by
  unfold storeLibrary
  split
  · rfl
  · split <;> rfl

/-- The end of a write leaves IDENTITY (R202). -/
theorem State.endWrite_identityRegion (s : State) (matched : Bool) :
    (s.endWrite matched).store.identityRegion = s.store.identityRegion := by
  unfold State.endWrite
  split <;> rfl

/-- Settles O17: a command that writes no region leaves all three, each STORE request erases its own region alone, and
the end of a write, which both clauses except, leaves IDENTITY. -/
theorem regionsChangeByStores : Obligations.RegionsChangeByStores := by
  intro c s t leads
  by_cases reads : writesRegion c = false
  · obtain ⟨identity, others⟩ := Prod.mk.inj (exec_regions reads s t leads)
    obtain ⟨settings, library⟩ := Prod.mk.inj others
    exact ⟨identity, fun _ _ => settings, fun _ _ => library⟩
  cases c with
  | storeSettings tag p =>
    cases leads
    obtain ⟨identity, library⟩ := Prod.mk.inj
      (State.serve_store Store.besideSettings (storeSettings_besideSettings p) s ⟨0x60, tag, p⟩ true)
    exact ⟨identity, fun other _ => absurd rfl (other tag p), fun _ _ => library⟩
  | storeLibrary tag p =>
    cases leads
    obtain ⟨identity, settings⟩ := Prod.mk.inj
      (State.serve_store Store.besideLibrary storeLibrary_besideLibrary s ⟨0x61, tag, p⟩ true)
    exact ⟨identity, fun _ _ => settings, fun other _ => absurd rfl (other tag p)⟩
  | storeWriteEnd matched =>
    cases leads
    refine ⟨?_, fun _ other => absurd rfl (other matched), fun _ other => absurd rfl (other matched)⟩
    split
    · exact s.endWrite_identityRegion matched
    · rfl
  | _ => exact absurd rfl reads

end Sys2Proof.Machine


/-! # Proofs: a step and the queue

A step is one command on the queue's rest, and each command's meaning is a next state, so no step stops (95; log 2). -/

namespace Sys2Proof.Machine

/-- An empty queue idles (log 1). -/
theorem step_of_pending_nil {s : State} (empty : s.pending = []) : step s = .next s := by
  simp only [step, empty]

/-- The front command runs on the state with the queue's rest (log 1). -/
theorem step_of_pending_cons {s : State} {c : Instr} {rest : List Instr} (front : s.pending = c :: rest) :
    step s = exec c { s with pending := rest } := by
  simp only [step, front]

/-- No command faults and none is refused: the guard of a command whose event cannot occur stands inside the state its
arm answers (log 2), so every arm is a next state for all operands. -/
theorem exec_exists_next (c : Instr) (s : State) : ∃ t, exec c s = .next t := by
  cases c <;> exact ⟨_, rfl⟩

/-- A step is an idle or one command, and neither stops. -/
theorem safe (s : State) : Safe s := by
  cases queue : s.pending with
  | nil => exact ⟨s, step_of_pending_nil queue⟩
  | cons c rest =>
    obtain ⟨t, leads⟩ := exec_exists_next c { s with pending := rest }
    exact ⟨t, (step_of_pending_cons queue).trans leads⟩

/-- Settles O1: the queue's two cases are the step's two equations, and no step stops because no command does. -/
theorem stepRunsFrontCommand : Obligations.StepRunsFrontCommand :=
  ⟨fun _ _ _ => ⟨step_of_pending_cons rfl, step_of_pending_nil rfl⟩, safe⟩

end Sys2Proof.Machine
